-- ==== Sys2Proof/Word.lean ====
section
/-! DEFINITION. The word types of the KZ2048 model and the sparse map that holds every indexed store of
the block: a list of (key, value) pairs, keys strictly rising, no entry equal to the store's default. -/

namespace Sys2Proof

/-- One byte of fabric address space. -/
abbrev Byte := BitVec 8
/-- A register, or one data word of a nib RAM (R6, R76). -/
abbrev Word := BitVec 32
/-- One word of every other SRAM, and one fabric beat (R25, R502). -/
abbrev Word64 := BitVec 64
/-- A stroke number (R51). -/
abbrev Stroke := BitVec 48

/-- A sparse store: the keys that do not hold their default, in strictly rising order. -/
abbrev SMap (α : Type) := List (Nat × α)

namespace SMap

/-- The value at a key: the listed one, or the default. -/
def get {α : Type} (d : Nat → α) : SMap α → Nat → α
  | [], k => d k
  | (k', v) :: m, k => if k = k' then v else get d m k

/-- The store without the key. -/
def erase {α : Type} : SMap α → Nat → SMap α
  | [], _ => []
  | (k', v) :: m, k => if k = k' then erase m k else (k', v) :: erase m k

/-- The store with the key at a value, at its place in the order. -/
def insert {α : Type} : SMap α → Nat → α → SMap α
  | [], k, v => [(k, v)]
  | (k', v') :: m, k, v =>
    if k < k' then (k, v) :: (k', v') :: m
    else if k = k' then (k, v) :: m
    else (k', v') :: insert m k v

/-- Write a value: a value equal to the default leaves no entry. -/
def set {α : Type} [DecidableEq α] (d : Nat → α) (m : SMap α) (k : Nat) (v : α) : SMap α :=
  if v = d k then erase m k else insert m k v

/-- Every entry from `lo` up to but not at `hi` goes back to its default. -/
def clear {α : Type} (lo hi : Nat) (m : SMap α) : SMap α := m.filter fun e => !(decide (lo ≤ e.1) && decide (e.1 < hi))

/-- Every key of the store lies above a bound and the keys rise. -/
def rising {α : Type} : Option Nat → SMap α → Bool
  | _, [] => true
  | none, (k, _) :: m => rising (some k) m
  | some b, (k, _) :: m => decide (b < k) && rising (some k) m

/-- No entry equals the default of its key. -/
def lean {α : Type} [DecidableEq α] (d : Nat → α) : SMap α → Bool
  | [] => true
  | (k, v) :: m => decide (v ≠ d k) && lean d m

/-- The canonical form of a sparse store. -/
def wf {α : Type} [DecidableEq α] (d : Nat → α) (m : SMap α) : Bool := rising none m && lean d m

end SMap

end Sys2Proof
end

