-- ==== Sys2Proof/Syntax.lean ====
section
/-! DEFINITION. The commands of the KZ2048: one constructor of `Instr` per row of the spec's table of
operations and events, with the operands that the event brings from outside the block. -/

namespace Sys2Proof

/-- A fabric master port (R503), numbered within its level as R531 numbers it: the chip level, or the
polder level of one polder. Each port is also an access path with its own shadow latches (R16). -/
inductive Port where
  | chip (i : Fin 20)
  | pld (p : Fin 4) (i : Fin 19)
  deriving DecidableEq, Repr

/-- The power domains that are switched (R43). -/
inductive Domain where
  | net (i : Fin 4)
  | sap
  | lane
  | pld (p : Fin 4)
  | qre (q : Fin 16)
  | nib (n : Fin 272)
  deriving DecidableEq, Repr

/-- The second operand of a quad instruction: a quad register or a broadcast D register (R144, R146). -/
inductive QSrc where
  | quad (q : BitVec 3)
  | bcast (d : BitVec 5)
  deriving DecidableEq, Repr

/-- The addressing modes of LD, ST, LDQ and STQ (R139). -/
inductive MemMode where
  | plain
  | post
  | index (dj : BitVec 5)
  | offset (simm : BitVec 12)
  deriving DecidableEq, Repr

/-- The parallel load of a QMAC (R147). -/
inductive ParLoad where
  | none
  | word (d : BitVec 5) (p : BitVec 3)
  | quad (q : BitVec 3) (p : BitVec 3)
  deriving DecidableEq, Repr

/-- One of the two accesses of LD2 (R142): size, destination field, pointer, post-modify. -/
structure DualAcc where
  quad : Bool
  dst : BitVec 5
  p : BitVec 3
  pm : Bool
  deriving DecidableEq, Repr

/-- A serial-port frame as the pins bring it (R267, R268): the bit-clock periods since the previous
leading FS edge, the levels of FS and of SDI at the sampling edges from count 0 on (bits that wrap into the next frame
follow those of this one), and the system-counter values of its leading edge and of its completion. -/
structure SapFrame where
  bclks : Nat
  fs : List Bool
  sdi : List Bool
  edge : BitVec 64
  done : BitVec 64
  deriving DecidableEq, Repr

/-- A sense bitstream (R294, R306). -/
inductive Sense where
  | current (k : Fin 32)
  | voltage (k : Fin 32)
  | aux (j : Fin 8)
  deriving DecidableEq, Repr

/-- A margin tag or a state record as it travels: 24 bytes (R372, R433). -/
structure RawTag where
  w0 : Word
  w1 : Word
  w2 : Word
  w3 : Word
  w4 : Word
  w5 : Word
  deriving DecidableEq, Repr

/-- The colophon as eight big-endian words, first byte in bits 31 to 24 (R398, R402). -/
structure Colophon where
  c0 : Word
  c1 : Word
  c2 : Word
  c3 : Word
  c4 : Word
  c5 : Word
  c6 : Word
  c7 : Word
  deriving DecidableEq, Repr

/-- How a received frame came: its destination MAC, its VLAN (`none` untagged), its length in bytes. -/
structure RxWire where
  mac : BitVec 48
  vid : Option (BitVec 12)
  bytes : Nat
  deriving DecidableEq, Repr

/-- A GSF packet with the addressing of its datagram (R350, R356): `mac` is the destination MAC. `payload` is the UDP payload's
length in bytes, `samples` the carried values row by row (R350), `vid` the VLAN of its frame
(`none` untagged), `bytes` the length of its frame. -/
structure GsfPacket where
  mac : BitVec 48
  dstIp : BitVec 128
  srcIp : BitVec 128
  ipv6 : Bool
  dport : BitVec 16
  sport : BitVec 16
  vid : Option (BitVec 12)
  ver : BitVec 8
  type : BitVec 8
  flags : BitVec 8
  keyid : BitVec 8
  srcId : Word
  flow : BitVec 16
  seq : BitVec 16
  stroke : Stroke
  chm1 : BitVec 8
  fmt : BitVec 8
  ntag : Nat
  blen : Nat
  samples : List Word
  tags : List RawTag
  colophon : Colophon
  icv : BitVec 128
  payload : Nat
  bytes : Nat
  deriving DecidableEq, Repr

/-- An RTP packet of an interop flow (R363, R365); `samples` are the carried values, row by row, `odd` the bytes of
the RTP payload after the last whole sample, `payload` the UDP payload's length. -/
structure RtpPacket where
  mac : BitVec 48
  dstIp : BitVec 128
  srcIp : BitVec 128
  ipv6 : Bool
  dport : BitVec 16
  sport : BitVec 16
  vid : Option (BitVec 12)
  ssrc : Word
  pt : BitVec 7
  seq : BitVec 16
  ts : Word
  payload : Nat
  samples : List Word
  odd : Nat
  bytes : Nat
  deriving DecidableEq, Repr

/-- A PTP time as it travels: seconds and nanoseconds (R469). -/
structure PtpTime where
  sec : BitVec 48
  ns : Word
  deriving DecidableEq, Repr

/-- How a PTP message travels (R477). -/
inductive PtpTransport where
  | udp4
  | udp6
  | layer2
  deriving DecidableEq, Repr

/-- What brought a PTP message: the network's standby port or its primary, the frame, the transport, the domain, the
clock identity of the sender. -/
structure Wire where
  standby : Bool
  frame : RxWire
  transport : PtpTransport
  domain : Byte
  sender : BitVec 64
  deriving DecidableEq, Repr

/-- A Sync message with the system-counter value at which it arrived (R478, R480). -/
structure PtpSync where
  wire : Wire
  twoStep : Bool
  seq : BitVec 16
  origin : PtpTime
  corr : Int
  rx : BitVec 64
  deriving DecidableEq, Repr

/-- A Follow_Up message (R478). -/
structure PtpFollowUp where
  wire : Wire
  seq : BitVec 16
  origin : PtpTime
  corr : Int
  deriving DecidableEq, Repr

/-- An Announce message: grandmaster identity, its data set as one number, the UTC offset (R479). -/
structure PtpAnnounce where
  wire : Wire
  gm : BitVec 64
  dataset : BitVec 128
  utc : BitVec 16
  deriving DecidableEq, Repr

/-- A message of the delay mechanisms of IEEE 1588-2019 (R478): a request with its arrival stamp, or a response with
the times it carries; a response of the peer mechanism with its own arrival stamp. -/
inductive DelayBody where
  | req (rx : BitVec 64)
  | resp (receive : PtpTime)
  | pdelayReq (rx : BitVec 64)
  | pdelayResp (twoStep : Bool) (receipt : PtpTime) (rx : BitVec 64)
  | pdelayRespFollowUp (origin : PtpTime)
  deriving DecidableEq, Repr

/-- A message of a delay mechanism; `port` is the port that requests: the sender of a request, the port that a
response names. -/
structure PtpDelay where
  wire : Wire
  port : BitVec 80
  seq : BitVec 16
  corr : Int
  body : DelayBody
  deriving DecidableEq, Repr

/-- What a PTP instance sends (R478): the first five when an interval runs out, the others in answer to a request. -/
inductive PtpKind where
  | sync
  | followUp
  | announce
  | delayReq
  | pdelayReq
  | delayResp
  | pdelayResp
  | pdelayRespFollowUp
  deriving DecidableEq, Repr

/-- A fabric request (R502): transaction ID, start address, and the data of a write with its byte
enables per beat (a `none` data list is a read of `beats` beats); `narrow` says that a read asks for the one 32-bit
word at its address and not for the whole beat. -/
structure FabReq where
  id : BitVec 4
  addr : Nat
  beats : Nat
  write : Option (List (Word64 × BitVec 8 × Bool))
  narrow : Bool
  deriving DecidableEq, Repr

/-- What one gauge reports at the end of a read set (R657, R658). -/
structure GaugeRead where
  gauge : Fin 32
  canaries : List (BitVec 16)
  tj : BitVec 16
  tref : BitVec 16
  tstress : BitVec 16
  deriving DecidableEq, Repr

/-- A management-chain frame past its CRC, with the fields of R630. -/
structure MchFrame where
  type : BitVec 4
  tag : BitVec 4
  byte2 : BitVec 8
  byte3 : BitVec 8
  address : Word
  data : Word
  mask : Word
  deriving DecidableEq, Repr

/-- A ruling entry by the words of R167 and R168. -/
structure Entry where
  w0 : Word
  w1 : Word
  w2 : Word
  w3 : Word
  w4 : Word
  w5 : Word
  w6 : Word
  w7 : Word
  deriving DecidableEq, Repr

/-- A ruling: the words 0x00 to 0x10 of its header, and its entries (R165). -/
structure Ruling where
  h0 : Word
  h1 : Word
  h2 : Word
  h3 : Word
  h4 : Word
  entries : List Entry
  deriving DecidableEq, Repr

/-- A nib image: program RAM and data RAM from their first words (words not listed are 0), and the quire SRAM
regions that the nib's slices declare to read and to write, as first address and length in bytes (rule 9 of
R171, R615). -/
structure NibImage where
  nib : Fin 272
  prog : List Word
  data : List Word
  reads : List (Nat × Nat)
  writes : List (Nat × Nat)
  deriving DecidableEq, Repr

/-- The plaintext of one folio section by its type (R615). -/
inductive SectionBody where
  | regs (loads : List (Word × Word))
  | power (on : List Domain)
  | nibs (images : List NibImage)
  | words (loads : List (Word × Word))
  | rulings (rs : List Ruling)
  | keys (ks : List (BitVec 8 × BitVec 56 × BitVec 256))
  | regions (rs : List (Nat × Nat))
  deriving DecidableEq, Repr

/-- A section as the flash holds it: its entry of the section table (R613), and the bytes stored. -/
structure StoredSection where
  w0 : Word
  offset : Word
  stored : Word
  plain : Word
  iv : BitVec 96
  data : List Byte
  deriving DecidableEq, Repr

/-- A section by what its plaintext means, with its entry of the section table. -/
structure FolioSection where
  w0 : Word
  offset : Word
  stored : Word
  plain : Word
  iv : BitVec 96
  body : SectionBody
  deriving DecidableEq, Repr

/-- The folio header (R612): the words of its first 28 bytes, the reserved bytes 0x1C to 0x3F, CDIGEST, SIGNER, WRAPIV,
and WRAPKEY as ciphertext and tag. -/
structure FolioHeader where
  magic : Word
  fmtver : Word
  length : Word
  flags : Word
  sections : Word
  fwmin : Word
  serial : Word
  reserved : List Byte
  cdigest : BitVec 384
  signer : BitVec 768
  wrapIv : BitVec 96
  wrapKey : BitVec 256
  wrapTag : BitVec 128
  deriving DecidableEq, Repr

/-- What the flash controller found (R609): the read mode (0 octal DTR, 1 quad, 2 single), whether
SFDP was valid, the density as a power of two of bytes, the JEDEC bytes. -/
structure FlashInfo where
  responds : Bool
  mode : Fin 3
  log2size : BitVec 5
  jedec : BitVec 16
  suspend : Bool
  deriving DecidableEq, Repr

/-- Why the scribe reads the folio image again (R624). -/
inductive ImageAction where
  | relief (q : Fin 16)
  | reduced
  | inkRow (p : Fin 4) (row : Fin 16384)
  | element (p : Fin 4) (e : Fin 512)
  | map (addr : Nat)
  | nibReload (n : Fin 272)
  deriving DecidableEq, Repr

/-- The general-query or group query of IGMPv3 and MLDv2 (R341, R343): the group when it names one. -/
structure GroupQuery where
  group : Option (BitVec 128)
  maxResp : Nat
  deriving DecidableEq, Repr

/-- The result of a nib test (R603): the step of the first failure, 0 for a pass, and its address. -/
structure TestResult where
  step : BitVec 4
  addr : Word
  nib : BitVec 9
  deriving DecidableEq, Repr

/-- A nib: active nibs 0 to 255 by the flat index of R23, relief nibs as 256 + 4·p + q. -/
abbrev NibId := Fin 272

/-- THE COMMANDS of the block: one constructor per row of the table of operations and events. Every
operand is what the event brings with it from outside the block's state. -/
inductive Instr where
  -- power, reset, stroke
  | powerGoodRise
  | powerGoodFall
  | resetNAssert (lowNs : Nat)
  | scribeRelease (bootSwap mchHead : Bool) (fwrev : BitVec 16)
  | rootLoss
  | lidEvent
  | strokeBoundary
  | alignmentFinePullDone
  | realign
  -- ruling
  | rulingEntryStart (idx limit acc : Nat)
  | tailSweep (p : Fin 4)
  | spillwayCut (idx : Nat)
  | sluEntryComplete (idx : Nat)
  | reliefPreparation (q : Fin 16) (home : Fin 256)
  | reliefCommit (q : Fin 16)
  | reliefRotationStep (q : Fin 16)
  | reducedRulingSelect
  | reducedRulingCommit
  -- nib instruction set
  | add (n : NibId) (f : Bool) (sd sa sb : BitVec 6)
  | sub (n : NibId) (f : Bool) (sd sa sb : BitVec 6)
  | and (n : NibId) (f : Bool) (sd sa sb : BitVec 6)
  | or (n : NibId) (f : Bool) (sd sa sb : BitVec 6)
  | xor (n : NibId) (f : Bool) (sd sa sb : BitVec 6)
  | sll (n : NibId) (f : Bool) (sd sa sb : BitVec 6)
  | srl (n : NibId) (f : Bool) (sd sa sb : BitVec 6)
  | sra (n : NibId) (f : Bool) (sd sa sb : BitVec 6)
  | slli (n : NibId) (f : Bool) (sd sa : BitVec 6) (sh : BitVec 5)
  | srli (n : NibId) (f : Bool) (sd sa : BitVec 6) (sh : BitVec 5)
  | srai (n : NibId) (f : Bool) (sd sa : BitVec 6) (sh : BitVec 5)
  | min (n : NibId) (f : Bool) (sd sa sb : BitVec 6)
  | max (n : NibId) (f : Bool) (sd sa sb : BitVec 6)
  | sel (n : NibId) (sd sa sb : BitVec 6) (cond : BitVec 4)
  | cmp (n : NibId) (sa sb : BitVec 6)
  | addi (n : NibId) (f : Bool) (sd sa : BitVec 6) (imm : BitVec 14)
  | movl (n : NibId) (sd : BitVec 6) (imm : BitVec 16)
  | movh (n : NibId) (sd : BitVec 6) (imm : BitVec 16)
  | fadd (n : NibId) (dd da db : BitVec 5)
  | fsub (n : NibId) (dd da db : BitVec 5)
  | fmul (n : NibId) (dd da db : BitVec 5)
  | fmin (n : NibId) (dd da db : BitVec 5)
  | fmax (n : NibId) (dd da db : BitVec 5)
  | fabs (n : NibId) (dd da : BitVec 5)
  | fneg (n : NibId) (dd da : BitVec 5)
  | fcmp (n : NibId) (dd da db : BitVec 5)
  | fcvtqf (n : NibId) (dd da : BitVec 5)
  | fcvtfq (n : NibId) (dd da : BitVec 5)
  | fma (n : NibId) (dd da db : BitVec 5)
  | ld (n : NibId) (dd : BitVec 5) (p : BitVec 3) (mode : MemMode)
  | st (n : NibId) (ds : BitVec 5) (p : BitVec 3) (mode : MemMode) (bx : Bool)
  | ldq (n : NibId) (qd : BitVec 3) (p : BitVec 3) (mode : MemMode)
  | stq (n : NibId) (qs : BitVec 3) (p : BitVec 3) (mode : MemMode) (bx : Bool)
  | ld2 (n : NibId) (a0 a1 : DualAcc)
  | qadds (n : NibId) (mask : BitVec 4) (qd qa : BitVec 3) (b : QSrc)
  | qsubs (n : NibId) (mask : BitVec 4) (qd qa : BitVec 3) (b : QSrc)
  | qmulr (n : NibId) (mask : BitVec 4) (qd qa : BitVec 3) (b : QSrc)
  | qabss (n : NibId) (mask : BitVec 4) (qd qa : BitVec 3)
  | qnegs (n : NibId) (mask : BitVec 4) (qd qa : BitVec 3)
  | qmax (n : NibId) (mask : BitVec 4) (qd qa : BitVec 3) (b : QSrc)
  | qmin (n : NibId) (mask : BitVec 4) (qd qa : BitVec 3) (b : QSrc)
  | qshl (n : NibId) (mask : BitVec 4) (qd qa : BitVec 3) (b : QSrc)
  | faddq (n : NibId) (mask : BitVec 4) (qd qa : BitVec 3) (b : QSrc)
  | fsubq (n : NibId) (mask : BitVec 4) (qd qa : BitVec 3) (b : QSrc)
  | fmulq (n : NibId) (mask : BitVec 4) (qd qa : BitVec 3) (b : QSrc)
  | fmaq (n : NibId) (mask : BitVec 4) (qd qa : BitVec 3) (b : QSrc)
  | fcvtqfq (n : NibId) (mask : BitVec 4) (qd qa : BitVec 3)
  | fcvtfqq (n : NibId) (mask : BitVec 4) (qd qa : BitVec 3)
  | qmov (n : NibId) (mask : BitVec 4) (qd : BitVec 3) (src : QSrc)
  | mpy (n : NibId) (x : Bool) (qa : BitVec 3) (b : QSrc) (ld : ParLoad)
  | mac (n : NibId) (x : Bool) (qa : BitVec 3) (b : QSrc) (ld : ParLoad)
  | msu (n : NibId) (x : Bool) (qa : BitVec 3) (b : QSrc) (ld : ParLoad)
  | ext (n : NibId) (fmt x : Bool) (qd : BitVec 3) (mask : BitVec 4) (shift : BitVec 5) (bx clr : Bool)
  | acld (n : NibId) (x : Bool) (lane : BitVec 2) (dj : BitVec 5)
  | acst (n : NibId) (x : Bool) (lane : BitVec 2) (dj : BitVec 5)
  | br (n : NibId) (cond : BitVec 4) (target : BitVec 13)
  | bdnz (n : NibId) (dk : BitVec 5) (target : BitVec 13)
  | rep (n : NibId) (count1 : BitVec 12)
  | halt (n : NibId)
  | reti (n : NibId)
  | nop (n : NibId)
  | fence (n : NibId)
  | movcTo (n : NibId) (creg : BitVec 4) (sa : BitVec 6)
  | movcFrom (n : NibId) (creg : BitVec 4) (sd : BitVec 6)
  | irqclr (n : NibId) (clear : BitVec 3)
  | interruptEntry (n : NibId)
  | timerMatch (n : NibId)
  | warnLeadReached (n : NibId)
  | nibGuardCycle (n : NibId)
  | quireSramLoadReturn (n : NibId) (waited : Nat)
  | postedStoreAck (n : NibId) (waited : Nat)
  -- inkstone, brush
  | inkRowRewrite (p : Fin 4) (row : Fin 16384)
  | descriptorRewrite (p : Fin 4) (e : Fin 512)
  -- serial audio ports
  | sapFrame (k : Fin 16) (fr : SapFrame)
  | sapFsTimeout (k : Fin 16)
  | sapReleasePoint (edges : List (Option (BitVec 64)))
  | sapTxFetch
  -- drive lanes
  | laneSlotRead
  | carrierPeriod (k : Fin 32) (i : Fin 112) (isd vsd pair : BitVec 32)
  | ilimTrip (k : Fin 32) (isd : BitVec 10) (cycle : Fin 1600)
  | retryWaitExpiry (k : Fin 32)
  | tryReset (k : Fin 32)
  | laneClr (k : Fin 32)
  | dcLatch (k : Fin 32)
  | leveeStrokeUpdate (aux : List (List Bool))
  | senseFail (x : Sense)
  | senseRecover (x : Sense)
  | relaySettleExpiry (k : Fin 32)
  | loadSenseWindowEnd (k : Fin 32)
  | ical (k : Fin 32)
  | calibrationDone (k : Fin 32)
  -- network
  | linkUp (i : Fin 4)
  | linkDown (i : Fin 4)
  | announceRepeat (w : Fin 2)
  | arpRequest (i : Fin 4) (x : RxWire) (ip sip : BitVec 32) (smac : BitVec 48)
  | neighbourSolicitation (i : Fin 4) (x : RxWire) (ip sip : BitVec 128) (smac : BitVec 48)
  | igmpQuery (i : Fin 4) (x : RxWire) (q : GroupQuery)
  | mldQuery (i : Fin 4) (x : RxWire) (q : GroupQuery)
  | queryResponseDue (w : Fin 2)
  | reportRepeat (w : Fin 2)
  | frameDropped (i : Fin 4) (frame : List Byte)
  | gsfPacket (i : Fin 4) (pkt : GsfPacket)
  | rtpPacket (i : Fin 4) (pkt : RtpPacket)
  | flowEnable (f : Fin 2048) (on : Bool)
  | flowLaunch
  | txPacketDrop (i : Fin 4)
  | jitterRelease
  | historyExpiry
  -- margin tags, mirror pair
  | intakeRecordWrite (idx : Option Nat) (slot : Fin 256) (words : List (Word × Bool))
  | tagPendAddr (port : Port) (addr : Word)
  | handover
  | resync
  -- references, time bases, PTP, timed I/O
  | selectorEvaluation
  | narrowStepExpiry
  | refInputAbsent (i : Fin 6)
  | triadAdvance
  | tbSet (i : Fin 4)
  | tbAdj (i : Fin 4) (ns : Word)
  | ptpSync (w : Fin 2) (m : PtpSync)
  | ptpFollowUp (w : Fin 2) (m : PtpFollowUp)
  | ptpAnnounce (w : Fin 2) (m : PtpAnnounce)
  | ptpDelayMessage (w : Fin 2) (m : PtpDelay)
  | announceReceiptTimeout (w : Fin 2)
  | syncTimeout (w : Fin 2)
  | pulseEdge (k : Fin 16)
  | pulseWidthEnd (k : Fin 16)
  | pulseArm (k : Fin 16)
  | pulseDisarm (k : Fin 16)
  | captureEdge (k : Fin 8) (rising : Bool) (stamp : BitVec 64)
  | capPop (port : Port) (k : Fin 8)
  -- fabric and sluice
  | fabricRequest (port : Port) (limit : Nat) (req : FabReq)
  | fabricResponse (port : Port) (id : BitVec 4)
  | tideExpiry (port : Port)
  | gateDrained (g : Domain)
  | gateForceDrain (g : Domain)
  | remap (b : Bool)
  | containmentAction
  | chainTrigger (c : Fin 64)
  | sluStart (c : Fin 64)
  | sluStop (c : Fin 64)
  | descriptorFetch (c : Fin 64) (limit : Nat)
  | descriptorComplete (c : Fin 64)
  | chainDryEnd (c : Fin 64)
  -- memory protection
  | flipArm (g : Fin 21)
  | flipDisarm (g : Fin 21)
  | scrubGo (g : Fin 21)
  | scrubStop (g : Fin 21)
  | scrubWord (g : Fin 21) (stuck : Bool)
  | patrolStart (g : Fin 21)
  | rowRepairCommit (g : Fin 21)
  | scribeMapRewrite (addr : Word)
  -- modes and faults
  | lockstepMismatch
  | mfKick (port : Port)
  | aliveToggle
  | healthFail
  | run
  | poise
  | reload
  | testNib (idx : BitVec 9)
  | testFull
  | testCancel
  | nibTestComplete (r : TestResult)
  | fullSelftestComplete (r : TestResult)
  -- boot, flash, folio
  | flashInitDone (info : FlashInfo)
  | pass1Done (slot : Fin 2) (header : FolioHeader) (digest : BitVec 384) (signature : BitVec 768)
  | pass2Done (slot : Fin 2) (sections : List StoredSection) (digest : BitVec 384) (fault : Option (BitVec 8))
  | validationDone
  | flashErase
  | flashProgram
  | flashRetry
  | flashOpComplete (ok : Bool)
  | imageReadDone (act : ImageAction)
  | imageReadRetry (act : ImageAction) (folioSection : BitVec 8)
  -- management chain
  | mchRead (fr : MchFrame)
  | mchWrite (fr : MchFrame)
  | mchBroadcastWrite (fr : MchFrame)
  | mchEnum (fr : MchFrame)
  | mchEmpty (fr : MchFrame)
  | mchForward (fr : MchFrame)
  | mchCrcFail
  | mchOrphan (fr : MchFrame)
  | mchCommandDone
  -- test-access port and security
  | idcode
  | samplePreload
  | bypass (code : BitVec 8)
  | brChal (nonce : BitVec 256)
  | brResp (shifted : List Word)
  | brStat
  | extest
  | blotDone
  -- freeboard
  | readSetStart
  | readSetDone (gauges : List GaugeRead)
  | voltageStepConfirm (ack : Bool) (readback : BitVec 16) (gauges : List GaugeRead)
  | ledgerSnapshot
  -- registers and the rest
  | registerWrite (port : Port) (addr : Word) (data : Word)
  | registerRead (port : Port) (addr : Word)
  | undefinedEncoding (n : NibId) (word : Word)
  | sluiceGateOpen (d : Domain)
  | resetNRelease
  | referenceEdge (i : Fin 6) (stamp : BitVec 64)
  | ptpMessageDue (w : Fin 2) (kind : PtpKind)
  | stateDigestSnapshot
  | breachResponseVerified
  | signerRevoke (i : Fin 4)
  | flashDqsTimeout
  | mchUnalignedCadence
  deriving DecidableEq, Repr

end Sys2Proof
end

