-- ==== Sys2Proof/Decode.lean ====
section
/-! DEFINITION. Words of the table. No row of the table of commands has bits, so no word spells a command; the
instruction words of the nibs are decoded in Machine/NibDecode.lean. -/

namespace Sys2Proof

def decodeTableWord (_nbits _w : Nat) : Option Instr := none

end Sys2Proof
end

