-- ==== Sys2Proof/Config.lean ====
section
/-! DEFINITION. What the spec leaves open: opaque constants with no body, so that no proof can see their
values. Each is named in the assumption log. -/

namespace Sys2Proof.Config

/-- The row of R559 that an error of three or more bits, or of two or more on a stored-poison word,
takes (R703): 0 clean, 1 correctable, 2 poisoned, 3 fresh uncorrectable. Arguments: the word as
stored, its data flips, its check flips, whether the stored-poison encoding lay under them. -/
opaque manyBitRow : Word64 → Word64 → BitVec 8 → Bool → Nat

/-- What a miscorrection flips in the word as stored (R703). Same arguments. -/
opaque manyBitFix : Word64 → Word64 → BitVec 8 → Bool → Word64

/-- The contents of the scribe boot ROM, byte by byte (R25): the spec does not give them. -/
opaque bootRom : Nat → Byte

/-- A value the spec leaves open after a command that goes on; the argument is the counter `State.free`. -/
opaque freeWord : Nat → Word

/-- What the external flash holds, byte by byte, where the engine itself has not erased or programmed it; the first
argument counts the intervals in which a board-level programmer may have used it (R608). -/
opaque flashByte : Nat → Nat → Byte

/-- The silicon revision and Porsugal's JEP106 manufacturer code, which IDCODE shows (R644). -/
opaque siliconRev : BitVec 4
opaque jep106 : BitVec 11

/-- The boundary register as it captures the pins (R644); the argument is the counter `State.free`. -/
opaque boundaryScan : Nat → List Bool

/-- The cell of the boundary register that drives the ball at a row and a column (R644, R647, R675). -/
opaque boundaryCell : Nat → Nat → Nat

/-! Folios (R612 to R617). -/

/-- The plaintext of AES-256-GCM: key, 96-bit IV, ciphertext byte by byte. -/
opaque gcmPlain : BitVec 256 → BitVec 96 → List Byte → List Byte

/-- SHA-384 of a string of bytes, its first byte in the highest bits. -/
opaque sha384 : List Byte → BitVec 384

/-- Whether an ECDSA P-384 signature (r, then s) of a digest verifies under a public key (X, then Y). -/
opaque ecdsaVerify : BitVec 768 → BitVec 384 → BitVec 768 → Bool

/-- The address and value pairs that a section's plaintext holds, by TYPE, where the spec gives the section's contents
and not their layout (R615, types 4, 6, 7, 10 and 11). -/
opaque sectionWords : Nat → List Byte → List (Word × Word)

/-- The nib images of a section of type 3, and the regions of one of type 8: the spec gives no layout. -/
opaque sectionNibs : List Byte → List NibImage
opaque sectionRegions : List Byte → List (Nat × Nat)

/-! Folio validation (R620). -/

/-- What the validator's analysis of a nib program finds of the address that the instruction at a program address
forms, where the path to it does not fix that address (R27): 0 it may leave the nib's own memories and its quire's
SRAM, 1 data RAM, 2 quire SRAM. -/
opaque addressOf : List Word → Nat → Fin 3

/-! Drive lanes: what spec/09_drive_lanes.md names without giving its numbers. -/

/-- The fixed linear-phase interpolator of step 1 (R299): from the samples held, oldest first, the samples per
stroke and the carrier period, the value as a fraction of full scale. -/
opaque laneInterp : List Word → Nat → Nat → Rat

/-- The linear gain of a level in dB. -/
opaque dbToGain : Rat → Rat

/-- A linear gain in 1/64 dB of attenuation. -/
opaque gainToDb64 : Rat → Nat

/-- The sine of a fraction of a turn (R323). -/
opaque sine : Rat → Rat

/-- The exponential (R321, R671). -/
opaque exp : Rat → Rat

/-- The error feedback of the fifth-order noise shaper (R299): from its last five errors. -/
opaque shaper : List Rat → Rat

/-- A quotient by zero: a rail or a current of zero (R300, R321). -/
opaque overZero : Rat → Rat

/-! Network, tags and mirror pair. -/

/-- The AES-256-GCM tag (NIST SP 800-38D; R351, R614, R641): key, 96-bit IV, additional authenticated data and
ciphertext byte by byte. -/
opaque gcmTag : BitVec 256 → BitVec 96 → List Byte → List Byte → BitVec 128

/-- One step of the network unit's LFSR (R343), whose polynomial the spec does not give. -/
opaque netLfsr : Word → Word

/-- The layout of the stager image (R412), which the firmware revision fixes: from the revision, what the image
holds and the index of a mirror word in it, that word. -/
opaque stagerImage : BitVec 16 → List Nat → Nat → Word64

/-- What the stager image holds after a word of it has been written (R412): revision, what it held, index, word. -/
opaque stagerWrite : BitVec 16 → List Nat → Nat → Word64 → List Nat

/-- The staged changes, by their place in the staging store, of which a word of the stager image holds a part (R386,
R412). Arguments as for `stagerImage`. -/
opaque stagerPart : BitVec 16 → List Nat → Nat → List Nat

/-! References and PTP. -/

/-- A PTP message of IEEE 1588-2019 as it is sent: its kind as `ptpKindIx` numbers them, the sender's port, its number,
the time it carries, the port that requested it. -/
opaque ptpMessage : Nat → BitVec 80 → BitVec 16 → Option (BitVec 48 × Word) → BitVec 80 → List Byte

/-- One update of the clean-up loop (R457, R458): bandwidth in Hz, frequency word, phase error in 1/64 ROOT cycle;
the new frequency word. The spec gives the loop's order and damping, not its coefficients. -/
opaque loopUpdate : Rat → Int → Int → Int

/-- The data set of this clock that the best master clock algorithm compares (R479): PTP_PRIO, clock identity. -/
opaque ptpOwnDataset : Word → BitVec 64 → BitVec 128

end Sys2Proof.Config
end

