-- ==== Sys2Proof/Machine/Regs.lean ====
section
/-! DEFINITION. The register map: the address of every register under the spec's own name, its fields, its
access type, its reset value and its non-reserved bits, as the "Register map" tables of the chapters of
spec/ give them (R7, R9, R11), with the event sources and the statistics counters those tables name. -/

set_option linter.unusedVariables false

namespace Sys2Proof.Machine

/-- The access types of R7. -/
inductive Access where
  | rw
  | ro
  | wo
  | w1c
  | rc
  | rws
  deriving DecidableEq, Repr

/-- A bit field, from its high bit to its low bit (R5). -/
structure Fld where
  hi : Nat
  lo : Nat
  deriving DecidableEq, Repr

/-- Event classes (R578). -/
inductive EvtClass where
  | advise
  | degrade
  | contain
  | grave
  deriving DecidableEq, Repr

/-- An event source: the status register that holds its sticky bit, the bit, its class (R578). -/
structure Evt where
  reg : Nat
  bit : Nat
  cls : EvtClass
  deriving DecidableEq, Repr

/-- A statistics counter: its address, and the SATURATED bit that belongs to it (R14). -/
structure Ctr where
  addr : Nat
  satReg : Nat
  satBit : Nat
  deriving DecidableEq, Repr

/-- One row of a register map: the address of its first instance, the counts and strides of its
replication, its access type, its reset value, its bits that are not reserved. -/
structure RegRow where
  base : Nat
  dims : List (Nat × Nat)
  acc : Access
  reset : Nat
  mask : Nat
  deriving DecidableEq, Repr

/-- The value of a field of a word. -/
def Fld.get (f : Fld) (w : Word) : Nat := w.toNat / 2 ^ f.lo % 2 ^ (f.hi + 1 - f.lo)

/-- The word with a field replaced; a value wider than the field is cut to the field. -/
def Fld.put (f : Fld) (w : Word) (v : Nat) : Word :=
  BitVec.ofNat 32 (w.toNat - f.get w * 2 ^ f.lo + v % 2 ^ (f.hi + 1 - f.lo) * 2 ^ f.lo)

/-- Whether a one-bit field is set. -/
def Fld.on (f : Fld) (w : Word) : Bool := f.get w != 0

/-- The register base of a nib (R125): active nibs 0 to 255 by the flat index of R23, relief nibs of
quire r as 256 + r. -/
def nibRegBase (n : Nat) : Nat :=
  if n < 256 then 0x12008000 + 0x4000000 * (n / 64) + 0x200000 * (n / 16 % 4) + 0x20000 * (n % 16)
  else 0x12808000 + 0x4000000 * ((n - 256) / 4) + 0x20000 * ((n - 256) % 4)

/-- The fabric bank of a level (R531): 0 the chip fabric, 1 + p the polder fabric of PLD[p]. -/
def fabBase (l : Nat) : Nat := if l = 0 then 0x20702000 else 0x13000000 + 0x4000000 * (l - 1)


/-! ### spec/02_stroke_and_timing.md, R73 -/

def STK_NUM_LO : Nat := 0x20108000 + 0x0
def STK_NUM_HI : Nat := 0x20108000 + 0x4
def SYS_CNT_LO : Nat := 0x20108000 + 0x8
def SYS_CNT_HI : Nat := 0x20108000 + 0xC
def STK_BND_LO : Nat := 0x20108000 + 0x10
def STK_BND_HI : Nat := 0x20108000 + 0x14
def STK_PHASE : Nat := 0x20108000 + 0x18
def STK_CFG : Nat := 0x20108000 + 0x1C
def STK_STAT : Nat := 0x20108000 + 0x20
def STK_ALIGN_ERR : Nat := 0x20108000 + 0x24
def STK_ALIGN_LIM : Nat := 0x20108000 + 0x28
def STK_STEER : Nat := 0x20108000 + 0x2C
def STK_CTL : Nat := 0x20108000 + 0x30
def STK_EVT_STATUS : Nat := 0x20108000 + 0x34
def STK_EVT_ENABLE : Nat := 0x20108000 + 0x38

/-! ### spec/03_nib_datapath.md, R125 -/

def NIB_STAT (n : Nat) : Nat := nibRegBase n + 0x0
def NIB_TRAP_CAUSE (n : Nat) : Nat := nibRegBase n + 0x4
def NIB_TRAP_PC (n : Nat) : Nat := nibRegBase n + 0x8
def NIB_IRQ_STATUS (n : Nat) : Nat := nibRegBase n + 0xC
def NIB_CYC (n : Nat) : Nat := nibRegBase n + 0x10
def NIB_BEXP (n : Nat) : Nat := nibRegBase n + 0x14
def NIB_STICKY (n : Nat) : Nat := nibRegBase n + 0x18
def NIB_STALL_CNT (n : Nat) : Nat := nibRegBase n + 0x1C
def NIB_TRAP_CNT (n : Nat) : Nat := nibRegBase n + 0x20
def NIB_CNT_SAT (n : Nat) : Nat := nibRegBase n + 0x24
def NIB_WARN_LEAD (n : Nat) : Nat := nibRegBase n + 0x28

/-! ### spec/03_nib_datapath.md, R127 -/

def QRE_NIB_EVT_STATUS (x : Nat) : Nat := 0x12880000 + 0x4000000 * (x / 4) + 0x1000 * (x % 4) + 0x0
def QRE_NIB_EVT_ENABLE (x : Nat) : Nat := 0x12880000 + 0x4000000 * (x / 4) + 0x1000 * (x % 4) + 0x4
def QRE_NIB_WHO0 (x : Nat) : Nat := 0x12880000 + 0x4000000 * (x / 4) + 0x1000 * (x % 4) + 0x10
def QRE_NIB_WHO1 (x : Nat) : Nat := 0x12880000 + 0x4000000 * (x / 4) + 0x1000 * (x % 4) + 0x14
def QRE_NIB_WHO2 (x : Nat) : Nat := 0x12880000 + 0x4000000 * (x / 4) + 0x1000 * (x % 4) + 0x18
def QRE_NIB_WHO3 (x : Nat) : Nat := 0x12880000 + 0x4000000 * (x / 4) + 0x1000 * (x % 4) + 0x1C

/-! ### spec/05_ruling.md, R191 -/

def RUL_ACTIVE : Nat := 0x20704000 + 0x0
def RUL_LOST : Nat := 0x20704000 + 0x4
def RUL_LOSS : Nat := 0x20704000 + 0x8
def RUL_LOSS_ELEM : Nat := 0x20704000 + 0xC
def RUL_ENTRIES : Nat := 0x20704000 + 0x10
def RUL_SPILL_CNT : Nat := 0x20704000 + 0x14
def RUL_TAINT_CNT : Nat := 0x20704000 + 0x18
def RUL_CNT_SAT : Nat := 0x20704000 + 0x1C
def RUL_ROT_CTL : Nat := 0x20704000 + 0x20
def RUL_EVT_STATUS : Nat := 0x20704000 + 0x24
def RUL_EVT_ENABLE : Nat := 0x20704000 + 0x28
def RUL_SPILL_WHO : Nat := 0x20704000 + 0x2C
def RUL_RELIEF (x : Nat) : Nat := 0x20704000 + 0x40 + x * 4

/-! ### spec/06_inkstone_mixing.md, R225 -/

def INK_CFG (p : Nat) : Nat := 0x13100000 + 0x4000000 * p + 0x0
def INK_EVT_STATUS (p : Nat) : Nat := 0x13100000 + 0x4000000 * p + 0x4
def INK_EVT_ENABLE (p : Nat) : Nat := 0x13100000 + 0x4000000 * p + 0x8
def INK_SAT_CNT (p : Nat) : Nat := 0x13100000 + 0x4000000 * p + 0xC
def INK_NONFINITE_CNT (p : Nat) : Nat := 0x13100000 + 0x4000000 * p + 0x10
def INK_STALE_CNT (p : Nat) : Nat := 0x13100000 + 0x4000000 * p + 0x14
def INK_CNT_SAT (p : Nat) : Nat := 0x13100000 + 0x4000000 * p + 0x18
def INK_ARMED (p : Nat) : Nat := 0x13100000 + 0x4000000 * p + 0x1C
def INK_PROFILE (p i : Nat) : Nat := 0x13100000 + 0x4000000 * p + 0x100 + i * 4

/-! ### spec/07_brush_and_reservoir.md, R262 -/

def BRU_CFG (p : Nat) : Nat := 0x13300000 + 0x4000000 * p + 0x0
def BRU_EVT_STATUS (p : Nat) : Nat := 0x13300000 + 0x4000000 * p + 0x4
def BRU_EVT_ENABLE (p : Nat) : Nat := 0x13300000 + 0x4000000 * p + 0x8
def BRU_SAT_CNT (p : Nat) : Nat := 0x13300000 + 0x4000000 * p + 0xC
def BRU_NONFINITE_CNT (p : Nat) : Nat := 0x13300000 + 0x4000000 * p + 0x10
def BRU_LATE_CNT (p : Nat) : Nat := 0x13300000 + 0x4000000 * p + 0x14
def BRU_LIVE_CNT (p : Nat) : Nat := 0x13300000 + 0x4000000 * p + 0x18
def BRU_STALE_CNT (p : Nat) : Nat := 0x13300000 + 0x4000000 * p + 0x1C
def BRU_CNT_SAT (p : Nat) : Nat := 0x13300000 + 0x4000000 * p + 0x20
def BRU_SWEEP_END (p : Nat) : Nat := 0x13300000 + 0x4000000 * p + 0x24
def BRU_SWEEP_MIN (p : Nat) : Nat := 0x13300000 + 0x4000000 * p + 0x28
def BRU_INTERP (p ij : Nat) : Nat := 0x13300000 + 0x4000000 * p + 0x1000 + ij * 4

/-! ### spec/08_serial_audio_ports.md, R291 -/

def SAP_PORTS : Nat := 0x20200000 + 0x0
def SAP_EVT_SUM : Nat := 0x20200000 + 0x4
def SAP_REL : Nat := 0x20200000 + 0x8
def SAP_GRP (g : Nat) : Nat := 0x20200000 + 0x40 + g * 4

/-! ### spec/08_serial_audio_ports.md, R292 -/

def SAP_CTL (k : Nat) : Nat := 0x20200100 + 0x100 * k + 0x0
def SAP_RX_BASE (k : Nat) : Nat := 0x20200100 + 0x100 * k + 0x4
def SAP_TX_BASE (k : Nat) : Nat := 0x20200100 + 0x100 * k + 0x8
def SAP_RX_MASK (k : Nat) : Nat := 0x20200100 + 0x100 * k + 0xC
def SAP_TX_MASK (k : Nat) : Nat := 0x20200100 + 0x100 * k + 0x10
def SAP_STAT (k : Nat) : Nat := 0x20200100 + 0x100 * k + 0x14
def SAP_RX_OFS (k : Nat) : Nat := 0x20200100 + 0x100 * k + 0x18
def SAP_TX_OFS (k : Nat) : Nat := 0x20200100 + 0x100 * k + 0x1C
def SAP_STAMP_LO (k : Nat) : Nat := 0x20200100 + 0x100 * k + 0x20
def SAP_STAMP_HI (k : Nat) : Nat := 0x20200100 + 0x100 * k + 0x24
def SAP_STAMP_STK (k : Nat) : Nat := 0x20200100 + 0x100 * k + 0x28
def SAP_SLIP_CNT (k : Nat) : Nat := 0x20200100 + 0x100 * k + 0x2C
def SAP_TXSLIP_CNT (k : Nat) : Nat := 0x20200100 + 0x100 * k + 0x30
def SAP_UNDER_CNT (k : Nat) : Nat := 0x20200100 + 0x100 * k + 0x34
def SAP_FRAME_CNT (k : Nat) : Nat := 0x20200100 + 0x100 * k + 0x38
def SAP_POISON_CNT (k : Nat) : Nat := 0x20200100 + 0x100 * k + 0x3C
def SAP_STALE_CNT (k : Nat) : Nat := 0x20200100 + 0x100 * k + 0x40
def SAP_CNT_SAT (k : Nat) : Nat := 0x20200100 + 0x100 * k + 0x44
def SAP_EVT_STATUS (k : Nat) : Nat := 0x20200100 + 0x100 * k + 0x48
def SAP_EVT_ENABLE (k : Nat) : Nat := 0x20200100 + 0x100 * k + 0x4C

/-! ### spec/09_drive_lanes.md, R330 -/

def LANE_EN : Nat := 0x20300000 + 0x0
def LANE_EVT_SUM : Nat := 0x20300000 + 0x4

/-! ### spec/09_drive_lanes.md, R331 -/

def LANE_CFG (k : Nat) : Nat := 0x20300100 + 0x100 * k + 0x0
def LANE_DT (k : Nat) : Nat := 0x20300100 + 0x100 * k + 0x4
def LANE_SEED (k : Nat) : Nat := 0x20300100 + 0x100 * k + 0x8
def LANE_SCALE (k : Nat) : Nat := 0x20300100 + 0x100 * k + 0xC
def LANE_RAIL_NOM (k : Nat) : Nat := 0x20300100 + 0x100 * k + 0x10
def LANE_LOOP (k : Nat) : Nat := 0x20300100 + 0x100 * k + 0x14
def LANE_ILIM (k : Nat) : Nat := 0x20300100 + 0x100 * k + 0x18
def LANE_DC (k : Nat) : Nat := 0x20300100 + 0x100 * k + 0x1C
def LANE_THERM (k : Nat) : Nat := 0x20300100 + 0x100 * k + 0x20
def LANE_SAG (k : Nat) : Nat := 0x20300100 + 0x100 * k + 0x24
def LANE_RETRY (k : Nat) : Nat := 0x20300100 + 0x100 * k + 0x28
def LANE_RAMP (k : Nat) : Nat := 0x20300100 + 0x100 * k + 0x2C
def LANE_LS (k : Nat) : Nat := 0x20300100 + 0x100 * k + 0x30
def LANE_LS_TH (k : Nat) : Nat := 0x20300100 + 0x100 * k + 0x34
def LANE_CLR (k : Nat) : Nat := 0x20300100 + 0x100 * k + 0x38
def LANE_CAL (k : Nat) : Nat := 0x20300100 + 0x100 * k + 0x3C
def LANE_STAT (k : Nat) : Nat := 0x20300100 + 0x100 * k + 0x40
def LANE_LOAD_Z (k : Nat) : Nat := 0x20300100 + 0x100 * k + 0x44
def LANE_IOFS (k : Nat) : Nat := 0x20300100 + 0x100 * k + 0x48
def LANE_OFS (k : Nat) : Nat := 0x20300100 + 0x100 * k + 0x4C
def LANE_ILIM_CNT (k : Nat) : Nat := 0x20300100 + 0x100 * k + 0x50
def LANE_SHORT_CNT (k : Nat) : Nat := 0x20300100 + 0x100 * k + 0x54
def LANE_CLIP_CNT (k : Nat) : Nat := 0x20300100 + 0x100 * k + 0x58
def LANE_POISON_CNT (k : Nat) : Nat := 0x20300100 + 0x100 * k + 0x5C
def LANE_STALE_CNT (k : Nat) : Nat := 0x20300100 + 0x100 * k + 0x60
def LANE_CNT_SAT (k : Nat) : Nat := 0x20300100 + 0x100 * k + 0x64
def LANE_EVT_STATUS (k : Nat) : Nat := 0x20300100 + 0x100 * k + 0x68
def LANE_EVT_ENABLE (k : Nat) : Nat := 0x20300100 + 0x100 * k + 0x6C

/-! ### spec/09_drive_lanes.md, R332 -/

def AUX_CFG (j : Nat) : Nat := 0x20304000 + 0x10 * j + 0x0
def AUX_GAIN (j : Nat) : Nat := 0x20304000 + 0x10 * j + 0x4
def AUX_OFS (j : Nat) : Nat := 0x20304000 + 0x10 * j + 0x8
def AUX_VAL (j : Nat) : Nat := 0x20304000 + 0x10 * j + 0xC

/-! ### spec/10_network_transport.md, R366 -/

def NET_ID : Nat := 0x20000000 + 0x0
def NET_ACTIVE : Nat := 0x20000000 + 0x4
def NET_EVT_STATUS : Nat := 0x20000000 + 0x8
def NET_EVT_ENABLE : Nat := 0x20000000 + 0xC
def NET_FLOW_EN (i : Nat) : Nat := 0x20000000 + 0x80 + i * 4

/-! ### spec/10_network_transport.md, R367 -/

def NW_CFG (w : Nat) : Nat := 0x20000200 + 0x100 * w + 0x0
def NW_MAC_HI (w : Nat) : Nat := 0x20000200 + 0x100 * w + 0x4
def NW_MAC_LO (w : Nat) : Nat := 0x20000200 + 0x100 * w + 0x8
def NW_IPV4 (w : Nat) : Nat := 0x20000200 + 0x100 * w + 0xC
def NW_IPV6G (w i : Nat) : Nat := 0x20000200 + 0x100 * w + 0x10 + i * 4
def NW_IPV6L (w i : Nat) : Nat := 0x20000200 + 0x100 * w + 0x20 + i * 4

/-! ### spec/10_network_transport.md, R368 -/

def PORT_CFG (i : Nat) : Nat := 0x20000400 + 0x100 * i + 0x0
def PORT_FIR (i : Nat) : Nat := 0x20000400 + 0x100 * i + 0x4
def PORT_STAT (i : Nat) : Nat := 0x20000400 + 0x100 * i + 0x8
def PORT_RX_GOOD (i : Nat) : Nat := 0x20000400 + 0x100 * i + 0xC
def PORT_RX_FCS (i : Nat) : Nat := 0x20000400 + 0x100 * i + 0x10
def PORT_RX_SIZE (i : Nat) : Nat := 0x20000400 + 0x100 * i + 0x14
def PORT_RX_VLAN (i : Nat) : Nat := 0x20000400 + 0x100 * i + 0x18
def PORT_RX_OTHER (i : Nat) : Nat := 0x20000400 + 0x100 * i + 0x1C
def PORT_RX_CSUM (i : Nat) : Nat := 0x20000400 + 0x100 * i + 0x20
def PORT_RX_NOFLOW (i : Nat) : Nat := 0x20000400 + 0x100 * i + 0x24
def PORT_TX_GOOD (i : Nat) : Nat := 0x20000400 + 0x100 * i + 0x28
def PORT_TX_DROP (i : Nat) : Nat := 0x20000400 + 0x100 * i + 0x2C
def PORT_FEC_CORR (i : Nat) : Nat := 0x20000400 + 0x100 * i + 0x30
def PORT_FEC_UNCORR (i : Nat) : Nat := 0x20000400 + 0x100 * i + 0x34
def PORT_LINK_DOWN (i : Nat) : Nat := 0x20000400 + 0x100 * i + 0x38
def PORT_RX_BYTES_LO (i : Nat) : Nat := 0x20000400 + 0x100 * i + 0x3C
def PORT_RX_BYTES_HI (i : Nat) : Nat := 0x20000400 + 0x100 * i + 0x40
def PORT_TX_BYTES_LO (i : Nat) : Nat := 0x20000400 + 0x100 * i + 0x44
def PORT_TX_BYTES_HI (i : Nat) : Nat := 0x20000400 + 0x100 * i + 0x48
def PORT_CNT_SAT (i : Nat) : Nat := 0x20000400 + 0x100 * i + 0x4C

/-! ### spec/10_network_transport.md, R369 -/

def RXF_STAT (r : Nat) : Nat := 0x20040000 + 64 * r + 0x0
def RXF_OK (r : Nat) : Nat := 0x20040000 + 64 * r + 0x4
def RXF_MISS (r : Nat) : Nat := 0x20040000 + 64 * r + 0x8
def RXF_LATE (r : Nat) : Nat := 0x20040000 + 64 * r + 0xC
def RXF_EARLY (r : Nat) : Nat := 0x20040000 + 64 * r + 0x10
def RXF_DUP (r : Nat) : Nat := 0x20040000 + 64 * r + 0x14
def RXF_MISMATCH (r : Nat) : Nat := 0x20040000 + 64 * r + 0x18
def RXF_AUTH (r : Nat) : Nat := 0x20040000 + 64 * r + 0x1C
def RXF_FORMAT (r : Nat) : Nat := 0x20040000 + 64 * r + 0x20
def RXF_ONLY_A (r : Nat) : Nat := 0x20040000 + 64 * r + 0x24
def RXF_ONLY_B (r : Nat) : Nat := 0x20040000 + 64 * r + 0x28
def RXF_SEQGAP (r : Nat) : Nat := 0x20040000 + 64 * r + 0x2C
def RXF_CNT_SAT (r : Nat) : Nat := 0x20040000 + 64 * r + 0x30

/-! ### spec/10_network_transport.md, R370 -/

def TXF_SENT (t : Nat) : Nat := 0x20050000 + 16 * t + 0x0
def TXF_DROP (t : Nat) : Nat := 0x20050000 + 16 * t + 0x4
def TXF_INVALID (t : Nat) : Nat := 0x20050000 + 16 * t + 0x8
def TXF_CNT_SAT (t : Nat) : Nat := 0x20050000 + 16 * t + 0xC

/-! ### spec/11_margin_tags_and_authority.md, R401 -/

def TAG_CFG : Nat := 0x20708000 + 0x0
def TAG_HORIZON : Nat := 0x20708000 + 0x4
def TAG_HOLD : Nat := 0x20708000 + 0x8
def AUTH_CFG : Nat := 0x20708000 + 0xC
def TAG_STAT : Nat := 0x20708000 + 0x10
def TAG_ACCEPT : Nat := 0x20708000 + 0x14
def TAG_NOSRC : Nat := 0x20708000 + 0x18
def TAG_OTHER : Nat := 0x20708000 + 0x1C
def TAG_DUP : Nat := 0x20708000 + 0x20
def TAG_FORMAT : Nat := 0x20708000 + 0x24
def TAG_FAR : Nat := 0x20708000 + 0x28
def TAG_LATE : Nat := 0x20708000 + 0x2C
def TAG_REVLATE : Nat := 0x20708000 + 0x30
def TAG_NOMATCH : Nat := 0x20708000 + 0x34
def TAG_NORESTORE : Nat := 0x20708000 + 0x38
def TAG_CAP : Nat := 0x20708000 + 0x3C
def TAG_POISON : Nat := 0x20708000 + 0x40
def TAG_DISCARD : Nat := 0x20708000 + 0x44
def TAG_RLY_DROP : Nat := 0x20708000 + 0x48
def AUTH_REFUSE_TAG : Nat := 0x20708000 + 0x4C
def AUTH_REFUSE_CHAIN : Nat := 0x20708000 + 0x50
def AUTH_REFUSE_NIB : Nat := 0x20708000 + 0x54
def TAG_CNT_SAT : Nat := 0x20708000 + 0x58
def TAG_EVT_STATUS : Nat := 0x20708000 + 0x5C
def TAG_EVT_ENABLE : Nat := 0x20708000 + 0x60
def TAG_PEND_ADDR : Nat := 0x20708000 + 0x64
def TAG_PEND : Nat := 0x20708000 + 0x68
def TAG_PEND_LO : Nat := 0x20708000 + 0x6C
def TAG_PEND_HI : Nat := 0x20708000 + 0x70
def TAG_SRC (s : Nat) : Nat := 0x20708000 + 0x100 + s * 4
def TAG_RLY (j : Nat) : Nat := 0x20708000 + 0x180 + j * 4

/-! ### spec/11_margin_tags_and_authority.md, R402 -/

def COLW_CFG (w : Nat) : Nat := 0x20708400 + 0x40 * w + 0x0
def COLW_AGE (w : Nat) : Nat := 0x20708400 + 0x40 * w + 0x4
def COLW_COL (w i : Nat) : Nat := 0x20708400 + 0x40 * w + 0x8 + i * 4

/-! ### spec/12_mirror_pair.md, R440 -/

def MIR_CFG : Nat := 0x20706000 + 0x0
def MIR_STREAM : Nat := 0x20706000 + 0x4
def MIR_TIME : Nat := 0x20706000 + 0x8
def MIR_QUAL : Nat := 0x20706000 + 0xC
def MIR_WORDS : Nat := 0x20706000 + 0x10
def MIR_MAPN : Nat := 0x20706000 + 0x14
def MIR_STAT : Nat := 0x20706000 + 0x18
def MIR_MATCH : Nat := 0x20706000 + 0x1C
def MIR_CURSOR : Nat := 0x20706000 + 0x20
def MIR_PASS : Nat := 0x20706000 + 0x24
def MIR_DIG_LO : Nat := 0x20706000 + 0x28
def MIR_DIG_HI : Nat := 0x20706000 + 0x2C
def MIR_DSTK_LO : Nat := 0x20706000 + 0x30
def MIR_DSTK_HI : Nat := 0x20706000 + 0x34
def MIR_MISM_CNT : Nat := 0x20706000 + 0x38
def MIR_SKIP_CNT : Nat := 0x20706000 + 0x3C
def MIR_PASS_CNT : Nat := 0x20706000 + 0x40
def MIR_ROLE_CNT : Nat := 0x20706000 + 0x44
def MIR_CNT_SAT : Nat := 0x20706000 + 0x48
def MIR_EVT_STATUS : Nat := 0x20706000 + 0x4C
def MIR_EVT_ENABLE : Nat := 0x20706000 + 0x50
def MIR_CTL : Nat := 0x20706000 + 0x54

/-! ### spec/12_mirror_pair.md, R442 -/

def RXM_STAT (r : Nat) : Nat := 0x20060000 + 16 * r + 0x0
def RXM_LEAD (r : Nat) : Nat := 0x20060000 + 16 * r + 0x4
def RXM_FALL (r : Nat) : Nat := 0x20060000 + 16 * r + 0x8
def RXM_CNT_SAT (r : Nat) : Nat := 0x20060000 + 16 * r + 0xC

/-! ### spec/13_references_and_cleanup.md, R466 -/

def REF_SEL : Nat := 0x20100000 + 0x0
def REF_RANK : Nat := 0x20100000 + 0x4
def REF_QUAL : Nat := 0x20100000 + 0x8
def REF_LOOP : Nat := 0x20100000 + 0xC
def REF_HOLD : Nat := 0x20100000 + 0x10
def REF_IN_CFG : Nat := 0x20100000 + 0x14
def REF_STAT : Nat := 0x20100000 + 0x18
def REF_PHERR : Nat := 0x20100000 + 0x1C
def REF_ABSORB_LO : Nat := 0x20100000 + 0x20
def REF_ABSORB_HI : Nat := 0x20100000 + 0x24
def REF_FREQ : Nat := 0x20100000 + 0x28
def REF_HOLDEST : Nat := 0x20100000 + 0x2C
def REF_HOLDTIME : Nat := 0x20100000 + 0x30
def REF_SWITCH_CNT : Nat := 0x20100000 + 0x34
def REF_DISQ_CNT : Nat := 0x20100000 + 0x38
def REF_CNT_SAT : Nat := 0x20100000 + 0x3C
def REF_EVT_STATUS : Nat := 0x20100000 + 0x40
def REF_EVT_ENABLE : Nat := 0x20100000 + 0x44

/-! ### spec/13_references_and_cleanup.md, R467 -/

def MON_FREQ (i : Nat) : Nat := 0x20100080 + 16 * i + 0x0
def MON_FAST (i : Nat) : Nat := 0x20100080 + 16 * i + 0x4
def MON_STAT (i : Nat) : Nat := 0x20100080 + 16 * i + 0x8

/-! ### spec/14_time_bases.md, R497 -/

def TB_SLEW (i : Nat) : Nat := 0x20101000 + 0x80 * i + 0x0
def TB_FRAC (i : Nat) : Nat := 0x20101000 + 0x80 * i + 0x4
def TB_NS (i : Nat) : Nat := 0x20101000 + 0x80 * i + 0x8
def TB_SEC_LO (i : Nat) : Nat := 0x20101000 + 0x80 * i + 0xC
def TB_SEC_HI (i : Nat) : Nat := 0x20101000 + 0x80 * i + 0x10
def TB_RATE (i : Nat) : Nat := 0x20101000 + 0x80 * i + 0x14
def TB_PEND_LO (i : Nat) : Nat := 0x20101000 + 0x80 * i + 0x18
def TB_PEND_HI (i : Nat) : Nat := 0x20101000 + 0x80 * i + 0x1C
def TB_ADJ (i : Nat) : Nat := 0x20101000 + 0x80 * i + 0x20
def TB_SET_NS (i : Nat) : Nat := 0x20101000 + 0x80 * i + 0x24
def TB_SET_SEC_LO (i : Nat) : Nat := 0x20101000 + 0x80 * i + 0x28
def TB_SET_SEC_HI (i : Nat) : Nat := 0x20101000 + 0x80 * i + 0x2C
def TB_CTL (i : Nat) : Nat := 0x20101000 + 0x80 * i + 0x30
def TB_STAT (i : Nat) : Nat := 0x20101000 + 0x80 * i + 0x34
def TB_STEP_CNT (i : Nat) : Nat := 0x20101000 + 0x80 * i + 0x38
def TB_REFUSE_CNT (i : Nat) : Nat := 0x20101000 + 0x80 * i + 0x3C
def TB_CNT_SAT (i : Nat) : Nat := 0x20101000 + 0x80 * i + 0x40

/-! ### spec/14_time_bases.md, R498 -/

def TB_GOV : Nat := 0x20101200 + 0x0
def TB_EVT_STATUS : Nat := 0x20101200 + 0x4
def TB_EVT_ENABLE : Nat := 0x20101200 + 0x8

/-! ### spec/14_time_bases.md, R499 -/

def PTP_CFG (w : Nat) : Nat := 0x20102000 + 0x100 * w + 0x0
def PTP_PRIO (w : Nat) : Nat := 0x20102000 + 0x100 * w + 0x4
def PTP_LAT (w : Nat) : Nat := 0x20102000 + 0x100 * w + 0x8
def PTP_ASYM (w : Nat) : Nat := 0x20102000 + 0x100 * w + 0xC
def PTP_SERVO (w : Nat) : Nat := 0x20102000 + 0x100 * w + 0x10
def PTP_LOCK (w : Nat) : Nat := 0x20102000 + 0x100 * w + 0x14
def PTP_STAT (w : Nat) : Nat := 0x20102000 + 0x100 * w + 0x18
def PTP_GM_LO (w : Nat) : Nat := 0x20102000 + 0x100 * w + 0x1C
def PTP_GM_HI (w : Nat) : Nat := 0x20102000 + 0x100 * w + 0x20
def PTP_OFFSET (w : Nat) : Nat := 0x20102000 + 0x100 * w + 0x24
def PTP_DELAY (w : Nat) : Nat := 0x20102000 + 0x100 * w + 0x28
def PTP_RX_SYNC (w : Nat) : Nat := 0x20102000 + 0x100 * w + 0x2C
def PTP_RX_IGN (w : Nat) : Nat := 0x20102000 + 0x100 * w + 0x30
def PTP_TX (w : Nat) : Nat := 0x20102000 + 0x100 * w + 0x34
def PTP_ANN_TO (w : Nat) : Nat := 0x20102000 + 0x100 * w + 0x38
def PTP_CNT_SAT (w : Nat) : Nat := 0x20102000 + 0x100 * w + 0x3C

/-! ### spec/14_time_bases.md, R500 -/

def PUL_CFG (k : Nat) : Nat := 0x20104000 + 0x40 * k + 0x0
def PUL_START_FRAC (k : Nat) : Nat := 0x20104000 + 0x40 * k + 0x4
def PUL_START_NS (k : Nat) : Nat := 0x20104000 + 0x40 * k + 0x8
def PUL_START_SEC_LO (k : Nat) : Nat := 0x20104000 + 0x40 * k + 0xC
def PUL_START_SEC_HI (k : Nat) : Nat := 0x20104000 + 0x40 * k + 0x10
def PUL_PER_FRAC (k : Nat) : Nat := 0x20104000 + 0x40 * k + 0x14
def PUL_PER_NS (k : Nat) : Nat := 0x20104000 + 0x40 * k + 0x18
def PUL_WIDTH (k : Nat) : Nat := 0x20104000 + 0x40 * k + 0x1C
def PUL_CTL (k : Nat) : Nat := 0x20104000 + 0x40 * k + 0x20
def PUL_STAT (k : Nat) : Nat := 0x20104000 + 0x40 * k + 0x24
def PUL_SKIP_CNT (k : Nat) : Nat := 0x20104000 + 0x40 * k + 0x28
def PUL_CNT_SAT (k : Nat) : Nat := 0x20104000 + 0x40 * k + 0x2C

/-! ### spec/14_time_bases.md, R501 -/

def CAP_CFG (k : Nat) : Nat := 0x20105000 + 0x80 * k + 0x0
def CAP_STAT (k : Nat) : Nat := 0x20105000 + 0x80 * k + 0x4
def CAP_POP (k : Nat) : Nat := 0x20105000 + 0x80 * k + 0x8
def CAP_INFO (k : Nat) : Nat := 0x20105000 + 0x80 * k + 0xC
def CAP_SYS_HI (k : Nat) : Nat := 0x20105000 + 0x80 * k + 0x10
def CAP_NS (k b : Nat) : Nat := 0x20105000 + 0x80 * k + 0x14 + 12 * b
def CAP_SEC_LO (k b : Nat) : Nat := 0x20105000 + 0x80 * k + 0x18 + 12 * b
def CAP_SEC_HI (k b : Nat) : Nat := 0x20105000 + 0x80 * k + 0x1C + 12 * b
def CAP_DROP_CNT (k : Nat) : Nat := 0x20105000 + 0x80 * k + 0x44
def CAP_CNT_SAT (k : Nat) : Nat := 0x20105000 + 0x80 * k + 0x48

/-! ### spec/15_fabric_and_address_map.md, R531 -/

def FAB_CTL (l : Nat) : Nat := fabBase l + 0x0
def FAB_TIDE (l : Nat) : Nat := fabBase l + 0x4
def FAB_GATE (l : Nat) : Nat := fabBase l + 0x8
def FAB_EVT_STATUS (l : Nat) : Nat := fabBase l + 0xC
def FAB_EVT_ENABLE (l : Nat) : Nat := fabBase l + 0x10
def FAB_TIDE_WHO (l : Nat) : Nat := fabBase l + 0x14
def FAB_DRY_WHO (l : Nat) : Nat := fabBase l + 0x18
def FAB_DRY_CNT (l : Nat) : Nat := fabBase l + 0x1C
def FAB_TIDE_CNT (l : Nat) : Nat := fabBase l + 0x20
def FAB_EARLY_CNT (l : Nat) : Nat := fabBase l + 0x24
def FAB_CNT_SAT (l : Nat) : Nat := fabBase l + 0x28
def FAB_COFF (l : Nat) : Nat := fabBase l + 0x2C
def FAB_NIB_COFF (l q : Nat) : Nat := fabBase l + 0x30 + q * 4
def FAB_GATE_STAT (l : Nat) : Nat := fabBase l + 0x40

/-! ### spec/16_sluice_dma.md, R553 -/

def SLU_EVT_STATUS (p : Nat) : Nat := 0x13040000 + 0x4000000 * p + 0x0
def SLU_EVT_ENABLE (p : Nat) : Nat := 0x13040000 + 0x4000000 * p + 0x4
def SLU_ACTIVE (p : Nat) : Nat := 0x13040000 + 0x4000000 * p + 0x8
def SLU_WHO (p i : Nat) : Nat := 0x13040000 + 0x4000000 * p + 0x10 + i * 4

/-! ### spec/16_sluice_dma.md, R555 -/

def SLU_CH_CFG (c : Nat) : Nat := 0x13040100 + 0x4000000 * (c / 16) + 0x40 * (c % 16) + 0x0
def SLU_CH_HEAD (c : Nat) : Nat := 0x13040100 + 0x4000000 * (c / 16) + 0x40 * (c % 16) + 0x4
def SLU_CH_PERIOD (c : Nat) : Nat := 0x13040100 + 0x4000000 * (c / 16) + 0x40 * (c % 16) + 0x8
def SLU_CH_TIDE (c : Nat) : Nat := 0x13040100 + 0x4000000 * (c / 16) + 0x40 * (c % 16) + 0xC
def SLU_CH_CTL (c : Nat) : Nat := 0x13040100 + 0x4000000 * (c / 16) + 0x40 * (c % 16) + 0x10
def SLU_CH_STAT (c : Nat) : Nat := 0x13040100 + 0x4000000 * (c / 16) + 0x40 * (c % 16) + 0x14
def SLU_CH_DESC (c : Nat) : Nat := 0x13040100 + 0x4000000 * (c / 16) + 0x40 * (c % 16) + 0x18
def SLU_CH_CMP (c : Nat) : Nat := 0x13040100 + 0x4000000 * (c / 16) + 0x40 * (c % 16) + 0x1C
def SLU_CH_REMAIN (c : Nat) : Nat := 0x13040100 + 0x4000000 * (c / 16) + 0x40 * (c % 16) + 0x20
def SLU_CH_BEATS (c : Nat) : Nat := 0x13040100 + 0x4000000 * (c / 16) + 0x40 * (c % 16) + 0x24
def SLU_CH_OVR_CNT (c : Nat) : Nat := 0x13040100 + 0x4000000 * (c / 16) + 0x40 * (c % 16) + 0x28
def SLU_CH_CNT_SAT (c : Nat) : Nat := 0x13040100 + 0x4000000 * (c / 16) + 0x40 * (c % 16) + 0x2C

/-! ### spec/17_memory_protection.md, R576 -/

def MEM_SCRUB_START (g : Nat) : Nat := 0x20608000 + 0x100 * g + 0x0
def MEM_SCRUB_END (g : Nat) : Nat := 0x20608000 + 0x100 * g + 0x4
def MEM_SCRUB_GAP (g : Nat) : Nat := 0x20608000 + 0x100 * g + 0x8
def MEM_SCRUB_CTL (g : Nat) : Nat := 0x20608000 + 0x100 * g + 0xC
def MEM_SCRUB_STAT (g : Nat) : Nat := 0x20608000 + 0x100 * g + 0x10
def MEM_SCRUB_POS (g : Nat) : Nat := 0x20608000 + 0x100 * g + 0x14
def MEM_SUM_CE (g : Nat) : Nat := 0x20608000 + 0x100 * g + 0x18
def MEM_SUM_UE (g : Nat) : Nat := 0x20608000 + 0x100 * g + 0x1C
def MEM_SUM_POISON (g : Nat) : Nat := 0x20608000 + 0x100 * g + 0x20
def MEM_SUM_INJ (g : Nat) : Nat := 0x20608000 + 0x100 * g + 0x24
def MEM_SUM_FIRST (g : Nat) : Nat := 0x20608000 + 0x100 * g + 0x28
def MEM_SUM_LAST (g : Nat) : Nat := 0x20608000 + 0x100 * g + 0x2C
def MEM_SUM_SKIP (g : Nat) : Nat := 0x20608000 + 0x100 * g + 0x30
def MEM_CE_CNT (g : Nat) : Nat := 0x20608000 + 0x100 * g + 0x34
def MEM_UE_CNT (g : Nat) : Nat := 0x20608000 + 0x100 * g + 0x38
def MEM_CNT_SAT (g : Nat) : Nat := 0x20608000 + 0x100 * g + 0x3C
def MEM_FLIP_DLO (g : Nat) : Nat := 0x20608000 + 0x100 * g + 0x40
def MEM_FLIP_DHI (g : Nat) : Nat := 0x20608000 + 0x100 * g + 0x44
def MEM_FLIP_CHK (g : Nat) : Nat := 0x20608000 + 0x100 * g + 0x48
def MEM_FLIP_ADDR (g : Nat) : Nat := 0x20608000 + 0x100 * g + 0x4C
def MEM_FLIP_CTL (g : Nat) : Nat := 0x20608000 + 0x100 * g + 0x50
def MEM_FLIP_STAT (g : Nat) : Nat := 0x20608000 + 0x100 * g + 0x54
def MEM_INJ_ADDR (g : Nat) : Nat := 0x20608000 + 0x100 * g + 0x58
def MEM_SPARE (g : Nat) : Nat := 0x20608000 + 0x100 * g + 0x5C
def MEM_REPAIR (g : Nat) : Nat := 0x20608000 + 0x100 * g + 0x60
def MEM_HARD_ADDR (g : Nat) : Nat := 0x20608000 + 0x100 * g + 0x64
def MEM_EVT_STATUS (g : Nat) : Nat := 0x20608000 + 0x100 * g + 0x68
def MEM_EVT_ENABLE (g : Nat) : Nat := 0x20608000 + 0x100 * g + 0x6C

/-! ### spec/18_faults_and_modes.md, R605 -/

def MF_MODE : Nat := 0x20700000 + 0x0
def MF_MODE_STK_LO : Nat := 0x20700000 + 0x4
def MF_MODE_STK_HI : Nat := 0x20700000 + 0x8
def MF_CFG : Nat := 0x20700000 + 0xC
def MF_ISL : Nat := 0x20700000 + 0x10
def MF_ISL_CNT : Nat := 0x20700000 + 0x14
def MF_CTL : Nat := 0x20700000 + 0x18
def MF_FAULT : Nat := 0x20700000 + 0x1C
def MF_GRAVE : Nat := 0x20700000 + 0x20
def MF_KICK : Nat := 0x20700000 + 0x24
def MF_HEALTH : Nat := 0x20700000 + 0x28
def MF_TIDE_TGT : Nat := 0x20700000 + 0x2C
def MF_TEST : Nat := 0x20700000 + 0x30
def MF_TEST_STAT : Nat := 0x20700000 + 0x34
def MF_TEST_RES : Nat := 0x20700000 + 0x38
def MF_TEST_ADDR : Nat := 0x20700000 + 0x3C
def MF_ATTN_MASK : Nat := 0x20700000 + 0x40
def MF_EVT_STATUS : Nat := 0x20700000 + 0x44
def MF_EVT_ENABLE : Nat := 0x20700000 + 0x48
def MF_MODE_CNT : Nat := 0x20700000 + 0x4C
def MF_CNT_SAT : Nat := 0x20700000 + 0x50
def MF_LINES (i : Nat) : Nat := 0x20700000 + 0x80 + i * 4

/-! ### spec/19_boot_and_chain.md, R637 -/

def BOOT_STAT : Nat := 0x20400000 + 0x0
def BOOT_ERR_A : Nat := 0x20400000 + 0x4
def BOOT_ERR_B : Nat := 0x20400000 + 0x8
def BOOT_FWREV : Nat := 0x20400000 + 0xC
def BOOT_FID : Nat := 0x20400000 + 0x10
def BOOT_SERIAL : Nat := 0x20400000 + 0x14
def BOOT_LOADT : Nat := 0x20400000 + 0x18
def BOOT_FLASH : Nat := 0x20400000 + 0x1C
def BOOT_NEXT : Nat := 0x20400000 + 0x20
def BOOT_FL_ADDR : Nat := 0x20400000 + 0x24
def BOOT_FL_CMD : Nat := 0x20400000 + 0x28
def BOOT_FL_STAT : Nat := 0x20400000 + 0x2C
def BOOT_EVT_STATUS : Nat := 0x20400000 + 0x30
def BOOT_EVT_ENABLE : Nat := 0x20400000 + 0x34
def BOOT_FL_BUF (i : Nat) : Nat := 0x20400000 + 0x100 + i * 4

/-! ### spec/19_boot_and_chain.md, R638 -/

def MCH_STAT : Nat := 0x20800000 + 0x0
def MCH_FRAMES : Nat := 0x20800000 + 0x4
def MCH_CRC_CNT : Nat := 0x20800000 + 0x8
def MCH_CMD_CNT : Nat := 0x20800000 + 0xC
def MCH_FULL_CNT : Nat := 0x20800000 + 0x10
def MCH_TMO_CNT : Nat := 0x20800000 + 0x14
def MCH_CNT_SAT : Nat := 0x20800000 + 0x18
def MCH_EVT_STATUS : Nat := 0x20800000 + 0x1C
def MCH_EVT_ENABLE : Nat := 0x20800000 + 0x20

/-! ### spec/20_security.md, R654 -/

def SEC_STAT : Nat := 0x20500000 + 0x0
def SEC_EVT_STATUS : Nat := 0x20500000 + 0x4
def SEC_EVT_ENABLE : Nat := 0x20500000 + 0x8
def SEC_CHIP_ID_LO : Nat := 0x20500000 + 0xC
def SEC_CHIP_ID_HI : Nat := 0x20500000 + 0x10
def SEC_SIGNER : Nat := 0x20500000 + 0x14
def SEC_KEYS : Nat := 0x20500000 + 0x18
def SEC_BR_CNT : Nat := 0x20500000 + 0x1C
def SEC_KEY_CE_CNT : Nat := 0x20500000 + 0x20
def SEC_CNT_SAT : Nat := 0x20500000 + 0x24
def SEC_BLOT_T : Nat := 0x20500000 + 0x28
def SEC_SIGNER_HASH (i : Nat) : Nat := 0x20500000 + 0x100 + i * 4
def SEC_SVC_HASH (i : Nat) : Nat := 0x20500000 + 0x1C0 + i * 4

/-! ### spec/21_freeboard_and_spares.md, R673 -/

def FB_CTL : Nat := 0x20600000 + 0x0
def FB_MARGIN : Nat := 0x20600000 + 0x4
def FB_VLIM : Nat := 0x20600000 + 0x8
def FB_VDD : Nat := 0x20600000 + 0xC
def FB_STAT : Nat := 0x20600000 + 0x10
def FB_TJ : Nat := 0x20600000 + 0x14
def FB_PERIOD : Nat := 0x20600000 + 0x18
def FB_PMBUS : Nat := 0x20600000 + 0x1C
def FB_LIFE_LO : Nat := 0x20600000 + 0x20
def FB_LIFE_HI : Nat := 0x20600000 + 0x24
def FB_RETIRED : Nat := 0x20600000 + 0x28
def FB_RETIRE_NIB : Nat := 0x20600000 + 0x2C
def FB_LEDGER : Nat := 0x20600000 + 0x30
def FB_BOOTS : Nat := 0x20600000 + 0x34
def FB_STEP_CNT : Nat := 0x20600000 + 0x38
def FB_DOWN_CNT : Nat := 0x20600000 + 0x3C
def FB_CNT_SAT : Nat := 0x20600000 + 0x40
def FB_EVT_STATUS : Nat := 0x20600000 + 0x44
def FB_EVT_ENABLE : Nat := 0x20600000 + 0x48
def FB_SEG_SEL : Nat := 0x20600000 + 0x4C
def FB_SEG_STAT : Nat := 0x20600000 + 0x50

/-! ### spec/21_freeboard_and_spares.md, R674 -/

def GA_STAT (g : Nat) : Nat := 0x13080000 + 0x4000000 * (g / 8) + 0x20 * (g % 8) + 0x0
def GA_TJ (g : Nat) : Nat := 0x13080000 + 0x4000000 * (g / 8) + 0x20 * (g % 8) + 0x4
def GA_TREF (g : Nat) : Nat := 0x13080000 + 0x4000000 * (g / 8) + 0x20 * (g % 8) + 0x8
def GA_DRIFT (g : Nat) : Nat := 0x13080000 + 0x4000000 * (g / 8) + 0x20 * (g % 8) + 0xC
def GA_XBAR (g : Nat) : Nat := 0x13080000 + 0x4000000 * (g / 8) + 0x20 * (g % 8) + 0x10
def GA_STK (g : Nat) : Nat := 0x13080000 + 0x4000000 * (g / 8) + 0x20 * (g % 8) + 0x14
def NIB_FB (p qn : Nat) : Nat := 0x13080100 + 0x4000000 * p + 0x0 + qn * 4

/-- The words of the flow table, 16 per flow (R366): read only, loaded from the folio. -/
def NET_FLOW_TABLE (f i : Nat) : Nat := 0x20008000 + 64 * f + i * 4
/-- The patrol period (R576). -/
def MEM_PATROL : Nat := 0x20609800
/-- The auxiliary sense status (R332). -/
def AUX_STAT : Nat := 0x20304080


/-! ### Fields -/

def STK_PHASE_ROOT : Fld := ⟨17, 0⟩
def STK_CFG_RATE : Fld := ⟨9, 8⟩
def STK_CFG_SAMPLES : Fld := ⟨4, 0⟩
def STK_STAT_GOV : Fld := ⟨2, 2⟩
def STK_STAT_MEAS : Fld := ⟨1, 1⟩
def STK_STAT_ALIGNED : Fld := ⟨0, 0⟩
def STK_STEER_POISED_PPM : Fld := ⟨15, 8⟩
def STK_STEER_RUN_PPM : Fld := ⟨7, 0⟩
def STK_CTL_REALIGN : Fld := ⟨0, 0⟩
def NIB_STAT_PC : Fld := ⟨18, 6⟩
def NIB_STAT_END : Fld := ⟨5, 4⟩
def NIB_STAT_INREP : Fld := ⟨3, 3⟩
def NIB_STAT_BANK : Fld := ⟨2, 2⟩
def NIB_STAT_RUN : Fld := ⟨1, 1⟩
def NIB_TRAP_CAUSE_REPLEFT : Fld := ⟨31, 19⟩
def NIB_TRAP_CAUSE_CAUSE : Fld := ⟨3, 0⟩
def NIB_IRQ_STATUS_WARN : Fld := ⟨2, 2⟩
def NIB_IRQ_STATUS_TIMER : Fld := ⟨1, 1⟩
def NIB_IRQ_STATUS_DONE : Fld := ⟨0, 0⟩
def NIB_CYC_NIB_CLK : Fld := ⟨31, 0⟩
def NIB_BEXP_BEXP : Fld := ⟨5, 0⟩
def NIB_STICKY_FI : Fld := ⟨4, 4⟩
def NIB_STICKY_FO : Fld := ⟨3, 3⟩
def NIB_STICKY_AV : Fld := ⟨2, 2⟩
def NIB_STICKY_SV : Fld := ⟨1, 1⟩
def NIB_STICKY_SP : Fld := ⟨0, 0⟩
def NIB_CNT_SAT_TRAP_CNT : Fld := ⟨1, 1⟩
def NIB_CNT_SAT_STALL_CNT : Fld := ⟨0, 0⟩
def RUL_ACTIVE_PARTIAL : Fld := ⟨3, 3⟩
def RUL_ACTIVE_INDEX : Fld := ⟨2, 0⟩
def RUL_LOSS_LOST_OUT : Fld := ⟨23, 12⟩
def RUL_LOSS_LOST_IN : Fld := ⟨11, 0⟩
def RUL_LOSS_ELEM_LOST_ELEM : Fld := ⟨11, 0⟩
def RUL_ENTRIES_COUNT : Fld := ⟨15, 0⟩
def RUL_CNT_SAT_TAINT_CNT : Fld := ⟨1, 1⟩
def RUL_CNT_SAT_SPILL_CNT : Fld := ⟨0, 0⟩
def RUL_ROT_CTL_PERIOD : Fld := ⟨31, 16⟩
def RUL_ROT_CTL_EN : Fld := ⟨0, 0⟩
def RUL_RELIEF_STATE : Fld := ⟨31, 30⟩
def RUL_RELIEF_PERM : Fld := ⟨29, 29⟩
def RUL_RELIEF_HOME : Fld := ⟨28, 25⟩
def RUL_RELIEF_ROT_NEXT : Fld := ⟨24, 21⟩
def RUL_RELIEF_COLD : Fld := ⟨16, 16⟩
def RUL_RELIEF_OUT : Fld := ⟨15, 0⟩
def INK_CFG_ROWS : Fld := ⟨14, 0⟩
def INK_CNT_SAT_STALE_CNT : Fld := ⟨2, 2⟩
def INK_CNT_SAT_NONFINITE_CNT : Fld := ⟨1, 1⟩
def INK_CNT_SAT_SAT_CNT : Fld := ⟨0, 0⟩
def INK_PROFILE_STEP : Fld := ⟨11, 9⟩
def INK_PROFILE_TMO : Fld := ⟨6, 0⟩
def BRU_CFG_ELEMS : Fld := ⟨9, 0⟩
def BRU_CNT_SAT_STALE_CNT : Fld := ⟨4, 4⟩
def BRU_CNT_SAT_LIVE_CNT : Fld := ⟨3, 3⟩
def BRU_CNT_SAT_LATE_CNT : Fld := ⟨2, 2⟩
def BRU_CNT_SAT_NONFINITE_CNT : Fld := ⟨1, 1⟩
def BRU_CNT_SAT_SAT_CNT : Fld := ⟨0, 0⟩
def BRU_SWEEP_END_ROOT : Fld := ⟨16, 0⟩
def SAP_PORTS_TXEN : Fld := ⟨31, 16⟩
def SAP_PORTS_RXEN : Fld := ⟨15, 0⟩
def SAP_GRP_VALID : Fld := ⟨20, 20⟩
def SAP_GRP_REF : Fld := ⟨19, 16⟩
def SAP_GRP_MEMBERS : Fld := ⟨15, 0⟩
def SAP_CTL_EN : Fld := ⟨31, 31⟩
def SAP_CTL_FMT : Fld := ⟨30, 29⟩
def SAP_CTL_RXEN : Fld := ⟨28, 28⟩
def SAP_CTL_TXEN : Fld := ⟨27, 27⟩
def SAP_CTL_EDGE : Fld := ⟨26, 26⟩
def SAP_CTL_DLY : Fld := ⟨25, 25⟩
def SAP_CTL_FSPOL : Fld := ⟨24, 24⟩
def SAP_CTL_WLEN : Fld := ⟨23, 22⟩
def SAP_CTL_SLOTS : Fld := ⟨21, 16⟩
def SAP_CTL_GROUP : Fld := ⟨15, 12⟩
def SAP_CTL_GRPEN : Fld := ⟨11, 11⟩
def SAP_CTL_TXSRC : Fld := ⟨10, 10⟩
def SAP_CTL_TXHIZ : Fld := ⟨9, 9⟩
def SAP_CTL_STALEZ : Fld := ⟨8, 8⟩
def SAP_CTL_WIN : Fld := ⟨5, 3⟩
def SAP_STAT_X : Fld := ⟨15, 12⟩
def SAP_STAT_FILL : Fld := ⟨11, 4⟩
def SAP_STAT_UNDER : Fld := ⟨2, 2⟩
def SAP_STAT_REF : Fld := ⟨1, 1⟩
def SAP_STAT_LOCK : Fld := ⟨0, 0⟩
def SAP_RX_OFS_D_IN : Fld := ⟨16, 0⟩
def SAP_TX_OFS_D_OUT : Fld := ⟨16, 0⟩
def SAP_STALE_CNT_STALE : Fld := ⟨31, 0⟩
def SAP_CNT_SAT_STALE : Fld := ⟨5, 5⟩
def SAP_CNT_SAT_POISON : Fld := ⟨4, 4⟩
def SAP_CNT_SAT_FRAME : Fld := ⟨3, 3⟩
def SAP_CNT_SAT_UNDER : Fld := ⟨2, 2⟩
def SAP_CNT_SAT_TXSLIP : Fld := ⟨1, 1⟩
def SAP_CNT_SAT_SLIP : Fld := ⟨0, 0⟩
def LANE_CFG_EN : Fld := ⟨31, 31⟩
def LANE_CFG_BRIDGE : Fld := ⟨30, 30⟩
def LANE_CFG_SFMT : Fld := ⟨29, 29⟩
def LANE_CFG_STALEZ : Fld := ⟨28, 28⟩
def LANE_CFG_TSRC : Fld := ⟨23, 21⟩
def LANE_CFG_TEN : Fld := ⟨20, 20⟩
def LANE_CFG_RSRC : Fld := ⟨19, 17⟩
def LANE_CFG_REN : Fld := ⟨16, 16⟩
def LANE_CFG_SRC : Fld := ⟨13, 0⟩
def LANE_DT_PHASE : Fld := ⟨12, 8⟩
def LANE_DT_DT : Fld := ⟨5, 0⟩
def LANE_SEED_LFSR : Fld := ⟨31, 0⟩
def LANE_SCALE_VFS : Fld := ⟨31, 16⟩
def LANE_SCALE_IFS : Fld := ⟨15, 0⟩
def LANE_LOOP_K : Fld := ⟨15, 0⟩
def LANE_ILIM_ILIM : Fld := ⟨11, 0⟩
def LANE_DC_DC_T : Fld := ⟨31, 24⟩
def LANE_DC_DC_TH : Fld := ⟨15, 0⟩
def LANE_THERM_TSD : Fld := ⟨31, 24⟩
def LANE_THERM_TFB : Fld := ⟨23, 16⟩
def LANE_THERM_HYS : Fld := ⟨15, 8⟩
def LANE_THERM_FBMAX : Fld := ⟨7, 0⟩
def LANE_SAG_FRAC : Fld := ⟨31, 24⟩
def LANE_SAG_ATK : Fld := ⟨23, 16⟩
def LANE_SAG_REL : Fld := ⟨15, 0⟩
def LANE_RETRY_TRIES : Fld := ⟨19, 16⟩
def LANE_RETRY_WAIT : Fld := ⟨15, 0⟩
def LANE_RAMP_RAMP : Fld := ⟨31, 16⟩
def LANE_RAMP_START : Fld := ⟨15, 8⟩
def LANE_RAMP_RLYSET : Fld := ⟨7, 0⟩
def LANE_LS_LSEN : Fld := ⟨31, 31⟩
def LANE_LS_LEVEL : Fld := ⟨30, 24⟩
def LANE_LS_PILOT : Fld := ⟨23, 16⟩
def LANE_LS_FREQ : Fld := ⟨15, 8⟩
def LANE_LS_TH_OPEN : Fld := ⟨31, 16⟩
def LANE_LS_TH_SHORT : Fld := ⟨15, 0⟩
def LANE_CLR_CLEAR : Fld := ⟨0, 0⟩
def LANE_CAL_ICAL : Fld := ⟨0, 0⟩
def LANE_STAT_STATE : Fld := ⟨31, 29⟩
def LANE_STAT_TRY : Fld := ⟨28, 25⟩
def LANE_STAT_CAUSE : Fld := ⟨24, 22⟩
def LANE_STAT_RLY : Fld := ⟨21, 21⟩
def LANE_STAT_LOAD : Fld := ⟨20, 18⟩
def LANE_STAT_CALPEND : Fld := ⟨17, 17⟩
def LANE_STAT_LSSKIP : Fld := ⟨16, 16⟩
def LANE_STAT_LEVEE : Fld := ⟨15, 0⟩
def LANE_LOAD_Z_Z : Fld := ⟨15, 0⟩
def LANE_OFS_D_OUT : Fld := ⟨16, 0⟩
def LANE_STALE_CNT_STALE : Fld := ⟨31, 0⟩
def LANE_CNT_SAT_STALE : Fld := ⟨4, 4⟩
def LANE_CNT_SAT_POISON : Fld := ⟨3, 3⟩
def LANE_CNT_SAT_CLIP : Fld := ⟨2, 2⟩
def LANE_CNT_SAT_SHORT : Fld := ⟨1, 1⟩
def LANE_CNT_SAT_ILIM : Fld := ⟨0, 0⟩
def AUX_CFG_EN : Fld := ⟨31, 31⟩
def AUX_CFG_KIND : Fld := ⟨30, 30⟩
def NET_ID_SRC_ID : Fld := ⟨31, 0⟩
def NET_ACTIVE_B : Fld := ⟨1, 1⟩
def NET_ACTIVE_A : Fld := ⟨0, 0⟩
def NW_CFG_EN : Fld := ⟨31, 31⟩
def NW_CFG_STBY : Fld := ⟨30, 30⟩
def NW_CFG_JUMBO : Fld := ⟨29, 29⟩
def NW_CFG_UNTAG : Fld := ⟨28, 28⟩
def NW_CFG_CTAG : Fld := ⟨27, 27⟩
def NW_CFG_CPCP : Fld := ⟨26, 24⟩
def NW_CFG_PPCP : Fld := ⟨23, 21⟩
def NW_CFG_PDSCP : Fld := ⟨17, 12⟩
def NW_CFG_CVID : Fld := ⟨11, 0⟩
def NW_MAC_HI_MAC : Fld := ⟨15, 0⟩
def NW_MAC_LO_MAC : Fld := ⟨31, 0⟩
def PORT_CFG_EN : Fld := ⟨31, 31⟩
def PORT_CFG_MODE : Fld := ⟨30, 28⟩
def PORT_CFG_FEC : Fld := ⟨27, 26⟩
def PORT_CFG_AN : Fld := ⟨25, 25⟩
def PORT_CFG_TXPOL : Fld := ⟨24, 24⟩
def PORT_CFG_RXPOL : Fld := ⟨23, 23⟩
def PORT_FIR_PRE : Fld := ⟨20, 16⟩
def PORT_FIR_MAIN : Fld := ⟨13, 8⟩
def PORT_FIR_POST : Fld := ⟨4, 0⟩
def PORT_STAT_ACTIVE : Fld := ⟨3, 3⟩
def PORT_STAT_AN_DONE : Fld := ⟨2, 2⟩
def PORT_STAT_LOCK : Fld := ⟨1, 1⟩
def PORT_STAT_LINK : Fld := ⟨0, 0⟩
def PORT_CNT_SAT_SATURATED : Fld := ⟨13, 0⟩
def RXF_STAT_MAXSKEW : Fld := ⟨15, 8⟩
def RXF_STAT_B_SEEN : Fld := ⟨1, 1⟩
def RXF_STAT_A_SEEN : Fld := ⟨0, 0⟩
def RXF_CNT_SAT_SATURATED : Fld := ⟨10, 0⟩
def TXF_CNT_SAT_INVALID : Fld := ⟨2, 2⟩
def TXF_CNT_SAT_DROP : Fld := ⟨1, 1⟩
def TXF_CNT_SAT_SENT : Fld := ⟨0, 0⟩
def TAG_CFG_NODE : Fld := ⟨31, 16⟩
def TAG_STAT_STAGED : Fld := ⟨29, 16⟩
def TAG_STAT_HIST : Fld := ⟨11, 0⟩
def TAG_CNT_SAT_SATURATED : Fld := ⟨16, 0⟩
def TAG_PEND_VALID : Fld := ⟨31, 31⟩
def TAG_PEND_PATH : Fld := ⟨30, 29⟩
def TAG_PEND_COUNT : Fld := ⟨13, 0⟩
def TAG_SRC_EN : Fld := ⟨31, 31⟩
def TAG_SRC_TONLY : Fld := ⟨30, 30⟩
def TAG_SRC_GROUPS : Fld := ⟨15, 0⟩
def TAG_RLY_EN : Fld := ⟨31, 31⟩
def TAG_RLY_NODE : Fld := ⟨15, 0⟩
def COLW_CFG_EN : Fld := ⟨31, 31⟩
def MIR_CFG_EN : Fld := ⟨31, 31⟩
def MIR_CFG_MEMBER : Fld := ⟨30, 30⟩
def MIR_CFG_PEER : Fld := ⟨19, 10⟩
def MIR_STREAM_STX : Fld := ⟨31, 22⟩
def MIR_STREAM_SRX : Fld := ⟨21, 12⟩
def MIR_STREAM_SPKT : Fld := ⟨6, 0⟩
def MIR_TIME_PROMOTE : Fld := ⟨31, 24⟩
def MIR_TIME_LISTEN : Fld := ⟨23, 12⟩
def MIR_TIME_ORPHAN : Fld := ⟨11, 0⟩
def MIR_QUAL_SETTLE : Fld := ⟨31, 16⟩
def MIR_QUAL_QUAL : Fld := ⟨15, 0⟩
def MIR_STAT_STATE : Fld := ⟨31, 28⟩
def MIR_STAT_OOS : Fld := ⟨27, 27⟩
def MIR_STAT_ELIG : Fld := ⟨26, 26⟩
def MIR_STAT_PEER_LEAD : Fld := ⟨25, 25⟩
def MIR_STAT_PEER_ELIG : Fld := ⟨24, 24⟩
def MIR_STAT_PEER_OOS : Fld := ⟨23, 23⟩
def MIR_STAT_FOLIO : Fld := ⟨22, 22⟩
def MIR_STAT_MISSING : Fld := ⟨11, 0⟩
def MIR_CURSOR_LEAD : Fld := ⟨25, 0⟩
def MIR_PASS_PASS : Fld := ⟨31, 16⟩
def MIR_DIG_LO_D : Fld := ⟨31, 0⟩
def MIR_DIG_HI_D : Fld := ⟨31, 0⟩
def MIR_CNT_SAT_ROLE : Fld := ⟨3, 3⟩
def MIR_CNT_SAT_PASS : Fld := ⟨2, 2⟩
def MIR_CNT_SAT_SKIP : Fld := ⟨1, 1⟩
def MIR_CNT_SAT_MISM : Fld := ⟨0, 0⟩
def MIR_CTL_HANDOVER : Fld := ⟨1, 1⟩
def MIR_CTL_RESYNC : Fld := ⟨0, 0⟩
def RXM_STAT_LAST : Fld := ⟨1, 0⟩
def RXM_CNT_SAT_FALL : Fld := ⟨1, 1⟩
def RXM_CNT_SAT_LEAD : Fld := ⟨0, 0⟩
def REF_SEL_REVERT : Fld := ⟨10, 10⟩
def REF_SEL_FALLBACK : Fld := ⟨9, 9⟩
def REF_SEL_MODE : Fld := ⟨8, 8⟩
def REF_SEL_SEL : Fld := ⟨2, 0⟩
def REF_QUAL_SOFT : Fld := ⟨31, 24⟩
def REF_QUAL_DQT : Fld := ⟨23, 16⟩
def REF_QUAL_RQT : Fld := ⟨15, 8⟩
def REF_QUAL_DISP : Fld := ⟨7, 0⟩
def REF_LOOP_LOCKTH : Fld := ⟨31, 16⟩
def REF_LOOP_TBW : Fld := ⟨5, 0⟩
def REF_HOLD_GUARD : Fld := ⟨15, 8⟩
def REF_HOLD_AVG : Fld := ⟨7, 0⟩
def REF_IN_CFG_SAPPORT : Fld := ⟨23, 20⟩
def REF_IN_CFG_DARS96 : Fld := ⟨19, 19⟩
def REF_IN_CFG_WCLK96 : Fld := ⟨18, 18⟩
def REF_IN_CFG_WCLKFALL : Fld := ⟨17, 17⟩
def REF_IN_CFG_EN : Fld := ⟨5, 0⟩
def REF_STAT_LOOP : Fld := ⟨31, 29⟩
def REF_STAT_ACTIVE : Fld := ⟨28, 26⟩
def REF_STAT_STEP : Fld := ⟨25, 23⟩
def REF_STAT_LOCKED : Fld := ⟨22, 22⟩
def REF_STAT_DISPUTE : Fld := ⟨21, 21⟩
def REF_STAT_HISTOK : Fld := ⟨20, 20⟩
def REF_STAT_TRIM : Fld := ⟨19, 19⟩
def REF_STAT_QUAL : Fld := ⟨13, 8⟩
def REF_STAT_PRESENT : Fld := ⟨5, 0⟩
def REF_HOLDEST_H : Fld := ⟨31, 0⟩
def REF_CNT_SAT_DISQ : Fld := ⟨1, 1⟩
def REF_CNT_SAT_SWITCH : Fld := ⟨0, 0⟩
def MON_STAT_STATE : Fld := ⟨31, 30⟩
def MON_STAT_HARD : Fld := ⟨29, 29⟩
def MON_STAT_LOSS : Fld := ⟨28, 28⟩
def MON_STAT_OUT : Fld := ⟨23, 16⟩
def MON_STAT_IN : Fld := ⟨15, 0⟩
def TB_SLEW_SLEWMAX : Fld := ⟨20, 0⟩
def TB_FRAC_FRAC : Fld := ⟨31, 0⟩
def TB_NS_NS : Fld := ⟨31, 0⟩
def TB_SEC_LO_SEC : Fld := ⟨31, 0⟩
def TB_SEC_HI_SEC : Fld := ⟨15, 0⟩
def TB_PEND_LO_P : Fld := ⟨31, 0⟩
def TB_PEND_HI_P : Fld := ⟨31, 0⟩
def TB_SET_NS_NS : Fld := ⟨31, 0⟩
def TB_SET_SEC_LO_SEC : Fld := ⟨31, 0⟩
def TB_SET_SEC_HI_SEC : Fld := ⟨15, 0⟩
def TB_CTL_SET : Fld := ⟨0, 0⟩
def TB_STAT_LOCK : Fld := ⟨31, 31⟩
def TB_STAT_GOV : Fld := ⟨30, 30⟩
def TB_STAT_SLEWING : Fld := ⟨29, 29⟩
def TB_CNT_SAT_REFUSE : Fld := ⟨1, 1⟩
def TB_CNT_SAT_STEP : Fld := ⟨0, 0⟩
def TB_GOV_FOEN : Fld := ⟨1, 1⟩
def TB_GOV_PRIMARY : Fld := ⟨0, 0⟩
def PTP_CFG_EN : Fld := ⟨31, 31⟩
def PTP_CFG_PROFILE : Fld := ⟨30, 29⟩
def PTP_CFG_MASTER : Fld := ⟨28, 28⟩
def PTP_CFG_IPV6 : Fld := ⟨27, 27⟩
def PTP_CFG_P2P : Fld := ⟨26, 26⟩
def PTP_CFG_DOMAIN : Fld := ⟨23, 16⟩
def PTP_CFG_LOGSYNC : Fld := ⟨15, 12⟩
def PTP_CFG_LOGANN : Fld := ⟨11, 8⟩
def PTP_CFG_LOGDREQ : Fld := ⟨7, 4⟩
def PTP_CFG_ANNTO : Fld := ⟨3, 0⟩
def PTP_LAT_TXLAT : Fld := ⟨31, 16⟩
def PTP_LAT_RXLAT : Fld := ⟨15, 0⟩
def PTP_SERVO_KP : Fld := ⟨23, 20⟩
def PTP_SERVO_KI : Fld := ⟨19, 16⟩
def PTP_SERVO_STEPTH : Fld := ⟨15, 0⟩
def PTP_LOCK_LOCKTH : Fld := ⟨31, 16⟩
def PTP_LOCK_LOCKN : Fld := ⟨7, 0⟩
def PTP_STAT_PORTSTATE : Fld := ⟨31, 28⟩
def PTP_STAT_LOCK : Fld := ⟨27, 27⟩
def PTP_STAT_ASCAPABLE : Fld := ⟨26, 26⟩
def PTP_CNT_SAT_ANN_TO : Fld := ⟨3, 3⟩
def PTP_CNT_SAT_TX : Fld := ⟨2, 2⟩
def PTP_CNT_SAT_RX_IGN : Fld := ⟨1, 1⟩
def PTP_CNT_SAT_RX_SYNC : Fld := ⟨0, 0⟩
def PUL_CFG_PERIODIC : Fld := ⟨30, 30⟩
def PUL_CFG_BASE : Fld := ⟨29, 27⟩
def PUL_CFG_POL : Fld := ⟨26, 26⟩
def PUL_START_FRAC_START : Fld := ⟨31, 0⟩
def PUL_START_NS_START : Fld := ⟨31, 0⟩
def PUL_START_NS_OFS : Fld := ⟨16, 0⟩
def PUL_START_SEC_LO_START : Fld := ⟨31, 0⟩
def PUL_PER_FRAC_PERIOD : Fld := ⟨31, 0⟩
def PUL_PER_NS_PERIOD : Fld := ⟨31, 0⟩
def PUL_WIDTH_WIDTH : Fld := ⟨23, 0⟩
def PUL_CTL_DISARM : Fld := ⟨1, 1⟩
def PUL_CTL_ARM : Fld := ⟨0, 0⟩
def PUL_STAT_ARMED : Fld := ⟨31, 31⟩
def PUL_STAT_LATE : Fld := ⟨30, 30⟩
def PUL_CNT_SAT_SKIP : Fld := ⟨0, 0⟩
def CAP_CFG_EN : Fld := ⟨31, 31⟩
def CAP_CFG_EDGE : Fld := ⟨30, 29⟩
def CAP_STAT_DEPTH : Fld := ⟨2, 0⟩
def CAP_INFO_VALID : Fld := ⟨31, 31⟩
def CAP_INFO_RISE : Fld := ⟨30, 30⟩
def CAP_SEC_HI_SEC : Fld := ⟨15, 0⟩
def CAP_CNT_SAT_DROP : Fld := ⟨0, 0⟩
def FAB_CTL_REMAP : Fld := ⟨0, 0⟩
def FAB_TIDE_LIMIT : Fld := ⟨15, 0⟩
def FAB_GATE_LIMIT : Fld := ⟨15, 0⟩
def FAB_CNT_SAT_EARLY : Fld := ⟨2, 2⟩
def FAB_CNT_SAT_TIDE : Fld := ⟨1, 1⟩
def FAB_CNT_SAT_DRY : Fld := ⟨0, 0⟩
def FAB_GATE_STAT_DRAINED : Fld := ⟨31, 16⟩
def FAB_GATE_STAT_CLOSED : Fld := ⟨15, 0⟩
def SLU_CH_CFG_EN : Fld := ⟨31, 31⟩
def SLU_CH_CFG_PRIO : Fld := ⟨30, 28⟩
def SLU_CH_CFG_RUL : Fld := ⟨27, 27⟩
def SLU_CH_CFG_TRIG : Fld := ⟨26, 25⟩
def SLU_CH_CFG_TRIG_CYC : Fld := ⟨16, 0⟩
def SLU_CH_PERIOD_PERIOD : Fld := ⟨15, 0⟩
def SLU_CH_TIDE_LIMIT : Fld := ⟨15, 0⟩
def SLU_CH_CTL_STOP : Fld := ⟨1, 1⟩
def SLU_CH_CTL_START : Fld := ⟨0, 0⟩
def SLU_CH_STAT_STATE : Fld := ⟨31, 28⟩
def SLU_CH_STAT_MATCH : Fld := ⟨27, 27⟩
def SLU_CH_STAT_POISON : Fld := ⟨26, 26⟩
def SLU_CH_STAT_HOPS : Fld := ⟨15, 0⟩
def SLU_CH_CNT_SAT_OVR : Fld := ⟨1, 1⟩
def SLU_CH_CNT_SAT_BEATS : Fld := ⟨0, 0⟩
def MEM_SCRUB_GAP_FAB_CLK : Fld := ⟨7, 0⟩
def MEM_SCRUB_CTL_STOP : Fld := ⟨1, 1⟩
def MEM_SCRUB_CTL_GO : Fld := ⟨0, 0⟩
def MEM_SCRUB_STAT_STATE : Fld := ⟨31, 28⟩
def MEM_SCRUB_STAT_BUSY : Fld := ⟨27, 27⟩
def MEM_SCRUB_STAT_PATROL : Fld := ⟨26, 26⟩
def MEM_CNT_SAT_SUM_SKIP : Fld := ⟨6, 6⟩
def MEM_CNT_SAT_SUM_INJ : Fld := ⟨5, 5⟩
def MEM_CNT_SAT_SUM_POISON : Fld := ⟨4, 4⟩
def MEM_CNT_SAT_SUM_UE : Fld := ⟨3, 3⟩
def MEM_CNT_SAT_SUM_CE : Fld := ⟨2, 2⟩
def MEM_CNT_SAT_UE_CNT : Fld := ⟨1, 1⟩
def MEM_CNT_SAT_CE_CNT : Fld := ⟨0, 0⟩
def MEM_FLIP_ADDR_MATCH : Fld := ⟨0, 0⟩
def MEM_FLIP_CTL_DISARM : Fld := ⟨1, 1⟩
def MEM_FLIP_CTL_ARM : Fld := ⟨0, 0⟩
def MEM_FLIP_STAT_ARMED : Fld := ⟨31, 31⟩
def MEM_FLIP_STAT_RECORD : Fld := ⟨30, 30⟩
def MEM_FLIP_STAT_REFUSED : Fld := ⟨29, 29⟩
def MEM_REPAIR_AUTO : Fld := ⟨0, 0⟩
def MF_MODE_MODE : Fld := ⟨31, 28⟩
def MF_MODE_PREV : Fld := ⟨27, 24⟩
def MF_MODE_TRANS : Fld := ⟨19, 16⟩
def MF_CFG_ROLE : Fld := ⟨3, 2⟩
def MF_CFG_ISLREALIGN : Fld := ⟨1, 1⟩
def MF_CFG_AUTORUN : Fld := ⟨0, 0⟩
def MF_ISL_REALIGN_T : Fld := ⟨31, 16⟩
def MF_ISL_ENTER : Fld := ⟨15, 0⟩
def MF_CTL_RELOAD : Fld := ⟨2, 2⟩
def MF_CTL_POISE : Fld := ⟨1, 1⟩
def MF_CTL_RUN : Fld := ⟨0, 0⟩
def MF_FAULT_GRAVE : Fld := ⟨3, 3⟩
def MF_FAULT_HUNG : Fld := ⟨2, 2⟩
def MF_FAULT_CONTAIN : Fld := ⟨1, 1⟩
def MF_FAULT_DEGRADE : Fld := ⟨0, 0⟩
def MF_GRAVE_VALID : Fld := ⟨31, 31⟩
def MF_GRAVE_LINE : Fld := ⟨8, 0⟩
def MF_TIDE_TGT_VALID : Fld := ⟨31, 31⟩
def MF_TIDE_TGT_LEVEL : Fld := ⟨30, 30⟩
def MF_TIDE_TGT_POLDER : Fld := ⟨29, 28⟩
def MF_TIDE_TGT_MASTER : Fld := ⟨27, 23⟩
def MF_TEST_KIND : Fld := ⟨31, 28⟩
def MF_TEST_NIB : Fld := ⟨8, 0⟩
def MF_TEST_STAT_STATE : Fld := ⟨31, 28⟩
def MF_TEST_STAT_FULLPEND : Fld := ⟨26, 26⟩
def MF_TEST_STAT_NIB : Fld := ⟨8, 0⟩
def MF_TEST_RES_STEP : Fld := ⟨31, 28⟩
def MF_ATTN_MASK_GRAVE : Fld := ⟨3, 3⟩
def MF_ATTN_MASK_CONTAIN : Fld := ⟨2, 2⟩
def MF_ATTN_MASK_DEGRADE : Fld := ⟨1, 1⟩
def MF_ATTN_MASK_ADVISE : Fld := ⟨0, 0⟩
def MF_CNT_SAT_MODE_CNT : Fld := ⟨0, 0⟩
def BOOT_STAT_STATE : Fld := ⟨31, 28⟩
def BOOT_STAT_SLOT : Fld := ⟨27, 27⟩
def BOOT_STAT_SWAP : Fld := ⟨26, 26⟩
def BOOT_STAT_OCTAL : Fld := ⟨25, 25⟩
def BOOT_ERR_A_CODE : Fld := ⟨31, 24⟩
def BOOT_ERR_A_SECTION : Fld := ⟨23, 16⟩
def BOOT_ERR_A_CHECK : Fld := ⟨15, 8⟩
def BOOT_FID_FID : Fld := ⟨15, 0⟩
def BOOT_SERIAL_SERIAL : Fld := ⟨31, 0⟩
def BOOT_FLASH_JEDEC : Fld := ⟨31, 16⟩
def BOOT_FLASH_LOG2SIZE : Fld := ⟨12, 8⟩
def BOOT_FLASH_SCKDIV : Fld := ⟨3, 0⟩
def BOOT_FL_CMD_CMD : Fld := ⟨1, 0⟩
def BOOT_FL_STAT_STATE : Fld := ⟨31, 28⟩
def MCH_STAT_HEAD : Fld := ⟨31, 31⟩
def MCH_STAT_FALIGN : Fld := ⟨30, 30⟩
def MCH_STAT_ORPHAN : Fld := ⟨29, 29⟩
def MCH_STAT_ASSIGNED : Fld := ⟨28, 28⟩
def MCH_STAT_ADDR : Fld := ⟨5, 0⟩
def MCH_CNT_SAT_SATURATED : Fld := ⟨4, 0⟩
def SEC_STAT_BLOT : Fld := ⟨31, 30⟩
def SEC_STAT_CAUSE : Fld := ⟨29, 28⟩
def SEC_STAT_GRANTED : Fld := ⟨27, 27⟩
def SEC_STAT_LOCKED : Fld := ⟨26, 26⟩
def SEC_STAT_BUSY : Fld := ⟨25, 25⟩
def SEC_STAT_FAILS : Fld := ⟨24, 23⟩
def SEC_STAT_OTPLOCK : Fld := ⟨22, 22⟩
def SEC_STAT_LIDEN : Fld := ⟨21, 21⟩
def SEC_STAT_LIDPOL : Fld := ⟨20, 20⟩
def SEC_STAT_LIDLVL : Fld := ⟨19, 19⟩
def SEC_CHIP_ID_LO_CHIP_ID : Fld := ⟨31, 0⟩
def SEC_CHIP_ID_HI_CHIP_ID : Fld := ⟨31, 0⟩
def SEC_SIGNER_USED : Fld := ⟨11, 8⟩
def SEC_SIGNER_REVOKED : Fld := ⟨7, 4⟩
def SEC_SIGNER_PROGRAMMED : Fld := ⟨3, 0⟩
def SEC_CNT_SAT_KEY_CE : Fld := ⟨1, 1⟩
def SEC_CNT_SAT_BR : Fld := ⟨0, 0⟩
def FB_CTL_LOWER : Fld := ⟨1, 1⟩
def FB_CTL_EN : Fld := ⟨0, 0⟩
def FB_MARGIN_FLOOR : Fld := ⟨31, 24⟩
def FB_MARGIN_HYST : Fld := ⟨23, 16⟩
def FB_MARGIN_TARGET : Fld := ⟨7, 0⟩
def FB_VLIM_VMAX : Fld := ⟨31, 16⟩
def FB_VLIM_VMIN : Fld := ⟨15, 0⟩
def FB_VDD_READ : Fld := ⟨31, 16⟩
def FB_VDD_REQ : Fld := ⟨15, 0⟩
def FB_STAT_STATE : Fld := ⟨31, 29⟩
def FB_STAT_GAUGE : Fld := ⟨23, 16⟩
def FB_STAT_FMIN : Fld := ⟨15, 0⟩
def FB_TJ_MAX : Fld := ⟨15, 0⟩
def FB_PERIOD_PERIOD : Fld := ⟨15, 0⟩
def FB_PMBUS_ADDR : Fld := ⟨14, 8⟩
def FB_PMBUS_PAGE : Fld := ⟨7, 0⟩
def FB_RETIRED_DEFER : Fld := ⟨15, 15⟩
def FB_RETIRED_COUNT : Fld := ⟨8, 0⟩
def FB_RETIRE_NIB_VALID : Fld := ⟨31, 31⟩
def FB_LEDGER_STATE : Fld := ⟨31, 28⟩
def FB_BOOTS_BOOTS : Fld := ⟨31, 0⟩
def FB_CNT_SAT_DOWN : Fld := ⟨1, 1⟩
def FB_CNT_SAT_STEP : Fld := ⟨0, 0⟩
def FB_SEG_STAT_FREE : Fld := ⟨31, 28⟩
def GA_STAT_VALID : Fld := ⟨31, 31⟩
def GA_STAT_FB : Fld := ⟨15, 0⟩
def GA_DRIFT_DRIFT : Fld := ⟨15, 0⟩
def NIB_FB_VALID : Fld := ⟨16, 16⟩
def MEM_PATROL_PERIOD : Fld := ⟨15, 0⟩

/-! ### Event sources -/

def EVT_STK_ALIGN : Evt := ⟨STK_EVT_STATUS, 1, .degrade⟩
def EVT_STK_ALIGNED : Evt := ⟨STK_EVT_STATUS, 0, .advise⟩
def EVT_NIB_LOADPORT (x : Nat) : Evt := ⟨QRE_NIB_EVT_STATUS x, 3, .advise⟩
def EVT_NIB_IFETCH (x : Nat) : Evt := ⟨QRE_NIB_EVT_STATUS x, 2, .contain⟩
def EVT_NIB_DOUBLE_TRAP (x : Nat) : Evt := ⟨QRE_NIB_EVT_STATUS x, 1, .degrade⟩
def EVT_NIB_TRAP (x : Nat) : Evt := ⟨QRE_NIB_EVT_STATUS x, 0, .advise⟩
def EVT_RUL_NOCOVER : Evt := ⟨RUL_EVT_STATUS, 5, .degrade⟩
def EVT_RUL_REDUCED : Evt := ⟨RUL_EVT_STATUS, 4, .degrade⟩
def EVT_RUL_ROT_FAIL : Evt := ⟨RUL_EVT_STATUS, 3, .degrade⟩
def EVT_RUL_RELIEF : Evt := ⟨RUL_EVT_STATUS, 2, .advise⟩
def EVT_RUL_TAINT : Evt := ⟨RUL_EVT_STATUS, 1, .advise⟩
def EVT_RUL_SPILL : Evt := ⟨RUL_EVT_STATUS, 0, .degrade⟩
def EVT_INK_POISON_ROW (p : Nat) : Evt := ⟨INK_EVT_STATUS p, 4, .degrade⟩
def EVT_INK_CLAMP (p : Nat) : Evt := ⟨INK_EVT_STATUS p, 3, .advise⟩
def EVT_INK_NONFINITE (p : Nat) : Evt := ⟨INK_EVT_STATUS p, 2, .advise⟩
def EVT_INK_SAT (p : Nat) : Evt := ⟨INK_EVT_STATUS p, 1, .advise⟩
def EVT_INK_STALE_BUS (p : Nat) : Evt := ⟨INK_EVT_STATUS p, 0, .advise⟩
def EVT_BRU_POISON_EL (p : Nat) : Evt := ⟨BRU_EVT_STATUS p, 7, .degrade⟩
def EVT_BRU_POISON_COEF (p : Nat) : Evt := ⟨BRU_EVT_STATUS p, 6, .degrade⟩
def EVT_BRU_LATE (p : Nat) : Evt := ⟨BRU_EVT_STATUS p, 5, .degrade⟩
def EVT_BRU_LIVE (p : Nat) : Evt := ⟨BRU_EVT_STATUS p, 4, .advise⟩
def EVT_BRU_CLAMP (p : Nat) : Evt := ⟨BRU_EVT_STATUS p, 3, .advise⟩
def EVT_BRU_NONFINITE (p : Nat) : Evt := ⟨BRU_EVT_STATUS p, 2, .advise⟩
def EVT_BRU_SAT (p : Nat) : Evt := ⟨BRU_EVT_STATUS p, 1, .advise⟩
def EVT_BRU_STALE_OUT (p : Nat) : Evt := ⟨BRU_EVT_STATUS p, 0, .advise⟩
def EVT_SAP_SKEW (k : Nat) : Evt := ⟨SAP_EVT_STATUS k, 6, .degrade⟩
def EVT_SAP_POISON (k : Nat) : Evt := ⟨SAP_EVT_STATUS k, 5, .degrade⟩
def EVT_SAP_FRAME (k : Nat) : Evt := ⟨SAP_EVT_STATUS k, 4, .advise⟩
def EVT_SAP_UNDERRUN (k : Nat) : Evt := ⟨SAP_EVT_STATUS k, 3, .degrade⟩
def EVT_SAP_SLIP (k : Nat) : Evt := ⟨SAP_EVT_STATUS k, 2, .degrade⟩
def EVT_SAP_UNLOCK (k : Nat) : Evt := ⟨SAP_EVT_STATUS k, 1, .degrade⟩
def EVT_SAP_LOCK (k : Nat) : Evt := ⟨SAP_EVT_STATUS k, 0, .advise⟩
def EVT_LANE_SENSE (k : Nat) : Evt := ⟨LANE_EVT_STATUS k, 10, .degrade⟩
def EVT_LANE_POISON (k : Nat) : Evt := ⟨LANE_EVT_STATUS k, 9, .degrade⟩
def EVT_LANE_STALE (k : Nat) : Evt := ⟨LANE_EVT_STATUS k, 8, .advise⟩
def EVT_LANE_LOAD (k : Nat) : Evt := ⟨LANE_EVT_STATUS k, 7, .advise⟩
def EVT_LANE_SAG (k : Nat) : Evt := ⟨LANE_EVT_STATUS k, 6, .advise⟩
def EVT_LANE_FOLD (k : Nat) : Evt := ⟨LANE_EVT_STATUS k, 5, .advise⟩
def EVT_LANE_THERM (k : Nat) : Evt := ⟨LANE_EVT_STATUS k, 4, .degrade⟩
def EVT_LANE_DC (k : Nat) : Evt := ⟨LANE_EVT_STATUS k, 3, .degrade⟩
def EVT_LANE_LATCH (k : Nat) : Evt := ⟨LANE_EVT_STATUS k, 2, .degrade⟩
def EVT_LANE_SHORT (k : Nat) : Evt := ⟨LANE_EVT_STATUS k, 1, .degrade⟩
def EVT_LANE_ILIM (k : Nat) : Evt := ⟨LANE_EVT_STATUS k, 0, .advise⟩
def EVT_NET_TXDROP : Evt := ⟨NET_EVT_STATUS, 9, .degrade⟩
def EVT_NET_POISON : Evt := ⟨NET_EVT_STATUS, 8, .degrade⟩
def EVT_NET_MISMATCH : Evt := ⟨NET_EVT_STATUS, 7, .advise⟩
def EVT_NET_AUTH : Evt := ⟨NET_EVT_STATUS, 6, .advise⟩
def EVT_NET_MISS : Evt := ⟨NET_EVT_STATUS, 5, .degrade⟩
def EVT_NET_LATE : Evt := ⟨NET_EVT_STATUS, 4, .advise⟩
def EVT_NET_SKEW : Evt := ⟨NET_EVT_STATUS, 3, .advise⟩
def EVT_NET_FAILOVER : Evt := ⟨NET_EVT_STATUS, 2, .degrade⟩
def EVT_NET_LINK_DOWN : Evt := ⟨NET_EVT_STATUS, 1, .degrade⟩
def EVT_NET_LINK_UP : Evt := ⟨NET_EVT_STATUS, 0, .advise⟩
def EVT_TAG_RELAY : Evt := ⟨TAG_EVT_STATUS, 5, .advise⟩
def EVT_TAG_POISON : Evt := ⟨TAG_EVT_STATUS, 4, .degrade⟩
def EVT_TAG_CAP : Evt := ⟨TAG_EVT_STATUS, 3, .degrade⟩
def EVT_TAG_LATEREV : Evt := ⟨TAG_EVT_STATUS, 2, .advise⟩
def EVT_TAG_LATE : Evt := ⟨TAG_EVT_STATUS, 1, .advise⟩
def EVT_TAG_REFUSE : Evt := ⟨TAG_EVT_STATUS, 0, .advise⟩
def EVT_MIR_FOLIO : Evt := ⟨MIR_EVT_STATUS, 7, .degrade⟩
def EVT_MIR_DUAL : Evt := ⟨MIR_EVT_STATUS, 6, .degrade⟩
def EVT_MIR_ORPHAN : Evt := ⟨MIR_EVT_STATUS, 5, .degrade⟩
def EVT_MIR_HANDOVER : Evt := ⟨MIR_EVT_STATUS, 4, .degrade⟩
def EVT_MIR_PROMOTE : Evt := ⟨MIR_EVT_STATUS, 3, .degrade⟩
def EVT_MIR_ELIG : Evt := ⟨MIR_EVT_STATUS, 2, .advise⟩
def EVT_MIR_OOS : Evt := ⟨MIR_EVT_STATUS, 1, .degrade⟩
def EVT_MIR_PEER_OOS : Evt := ⟨MIR_EVT_STATUS, 0, .advise⟩
def EVT_REF_ROOT_LOSS : Evt := ⟨REF_EVT_STATUS, 7, .grave⟩
def EVT_REF_LOCK : Evt := ⟨REF_EVT_STATUS, 6, .advise⟩
def EVT_REF_HOLDOVER : Evt := ⟨REF_EVT_STATUS, 5, .degrade⟩
def EVT_REF_DISPUTE : Evt := ⟨REF_EVT_STATUS, 4, .advise⟩
def EVT_REF_SWITCH : Evt := ⟨REF_EVT_STATUS, 3, .advise⟩
def EVT_REF_DISQ : Evt := ⟨REF_EVT_STATUS, 2, .advise⟩
def EVT_REF_QUAL : Evt := ⟨REF_EVT_STATUS, 1, .advise⟩
def EVT_REF_UNLOCK : Evt := ⟨REF_EVT_STATUS, 0, .degrade⟩
def EVT_TB_CAPT_OVF : Evt := ⟨TB_EVT_STATUS, 15, .advise⟩
def EVT_TB_PULSE_LATE : Evt := ⟨TB_EVT_STATUS, 14, .advise⟩
def EVT_TB_FALLOVER : Evt := ⟨TB_EVT_STATUS, 13, .degrade⟩
def EVT_TB_REFUSE : Evt := ⟨TB_EVT_STATUS, 12, .advise⟩
def EVT_TB_STEP (i : Nat) : Evt := ⟨TB_EVT_STATUS, 8 + i, .advise⟩
def EVT_TB_GM (i : Nat) : Evt := ⟨TB_EVT_STATUS, 4 + i, .advise⟩
def EVT_TB_UNLOCK (i : Nat) : Evt := ⟨TB_EVT_STATUS, 2 + i, .degrade⟩
def EVT_TB_LOCK (i : Nat) : Evt := ⟨TB_EVT_STATUS, 0 + i, .advise⟩
def EVT_FAB_CLOSED (l : Nat) : Evt := ⟨FAB_EVT_STATUS l, 5, .advise⟩
def EVT_FAB_GATE_FORCE (l : Nat) : Evt := ⟨FAB_EVT_STATUS l, 4, .degrade⟩
def EVT_FAB_COFF (l : Nat) : Evt := ⟨FAB_EVT_STATUS l, 3, .contain⟩
def EVT_FAB_TIDE (l : Nat) : Evt := ⟨FAB_EVT_STATUS l, 2, .degrade⟩
def EVT_FAB_DRY (l : Nat) : Evt := ⟨FAB_EVT_STATUS l, 1, .advise⟩
def EVT_FAB_EARLY (l : Nat) : Evt := ⟨FAB_EVT_STATUS l, 0, .advise⟩
def EVT_SLU_OVERRUN (p : Nat) : Evt := ⟨SLU_EVT_STATUS p, 6, .advise⟩
def EVT_SLU_MISMATCH (p : Nat) : Evt := ⟨SLU_EVT_STATUS p, 5, .advise⟩
def EVT_SLU_NOTE (p : Nat) : Evt := ⟨SLU_EVT_STATUS p, 4, .advise⟩
def EVT_SLU_DRY (p : Nat) : Evt := ⟨SLU_EVT_STATUS p, 3, .degrade⟩
def EVT_SLU_ERROR (p : Nat) : Evt := ⟨SLU_EVT_STATUS p, 2, .degrade⟩
def EVT_SLU_TIMEOUT (p : Nat) : Evt := ⟨SLU_EVT_STATUS p, 1, .degrade⟩
def EVT_SLU_LOOP (p : Nat) : Evt := ⟨SLU_EVT_STATUS p, 0, .degrade⟩
def EVT_MEM_SCRIBE (g : Nat) : Evt := ⟨MEM_EVT_STATUS g, 7, .grave⟩
def EVT_MEM_SPARE_OUT (g : Nat) : Evt := ⟨MEM_EVT_STATUS g, 6, .degrade⟩
def EVT_MEM_HARD (g : Nat) : Evt := ⟨MEM_EVT_STATUS g, 5, .advise⟩
def EVT_MEM_REPAIR (g : Nat) : Evt := ⟨MEM_EVT_STATUS g, 4, .advise⟩
def EVT_MEM_SCRUB_DONE (g : Nat) : Evt := ⟨MEM_EVT_STATUS g, 3, .advise⟩
def EVT_MEM_INJECTED (g : Nat) : Evt := ⟨MEM_EVT_STATUS g, 2, .advise⟩
def EVT_MEM_UE (g : Nat) : Evt := ⟨MEM_EVT_STATUS g, 1, .degrade⟩
def EVT_MEM_CE (g : Nat) : Evt := ⟨MEM_EVT_STATUS g, 0, .advise⟩
def EVT_MF_SELFTEST : Evt := ⟨MF_EVT_STATUS, 7, .degrade⟩
def EVT_MF_PLD_FAIL : Evt := ⟨MF_EVT_STATUS, 6, .contain⟩
def EVT_MF_QRE_FAIL : Evt := ⟨MF_EVT_STATUS, 5, .contain⟩
def EVT_MF_BUSY : Evt := ⟨MF_EVT_STATUS, 4, .advise⟩
def EVT_MF_MODE : Evt := ⟨MF_EVT_STATUS, 3, .advise⟩
def EVT_MF_LOCKSTEP : Evt := ⟨MF_EVT_STATUS, 2, .grave⟩
def EVT_SLATE_UNWRITTEN : Evt := ⟨MF_EVT_STATUS, 1, .advise⟩
def EVT_SLATE_CLAIM : Evt := ⟨MF_EVT_STATUS, 0, .degrade⟩
def EVT_BOOT_DONE : Evt := ⟨BOOT_EVT_STATUS, 3, .advise⟩
def EVT_BOOT_FLASH : Evt := ⟨BOOT_EVT_STATUS, 2, .advise⟩
def EVT_BOOT_SLOT_B : Evt := ⟨BOOT_EVT_STATUS, 1, .degrade⟩
def EVT_BOOT_SLOT_A : Evt := ⟨BOOT_EVT_STATUS, 0, .degrade⟩
def EVT_MCH_ADDR : Evt := ⟨MCH_EVT_STATUS, 2, .advise⟩
def EVT_MCH_FRAME : Evt := ⟨MCH_EVT_STATUS, 1, .advise⟩
def EVT_MCH_ORPHAN : Evt := ⟨MCH_EVT_STATUS, 0, .degrade⟩
def EVT_SEC_REBREACH : Evt := ⟨SEC_EVT_STATUS, 4, .grave⟩
def EVT_SEC_KEY : Evt := ⟨SEC_EVT_STATUS, 3, .grave⟩
def EVT_SEC_LID : Evt := ⟨SEC_EVT_STATUS, 2, .degrade⟩
def EVT_SEC_BLOT : Evt := ⟨SEC_EVT_STATUS, 1, .advise⟩
def EVT_SEC_BREACH : Evt := ⟨SEC_EVT_STATUS, 0, .advise⟩
def EVT_FB_PMBUS : Evt := ⟨FB_EVT_STATUS, 3, .degrade⟩
def EVT_FB_RETIRE : Evt := ⟨FB_EVT_STATUS, 2, .contain⟩
def EVT_FB_CEIL : Evt := ⟨FB_EVT_STATUS, 1, .degrade⟩
def EVT_FB_STEP : Evt := ⟨FB_EVT_STATUS, 0, .advise⟩

/-! ### Statistics counters (R14) -/

def CTR_NIB_STALL_CNT (n : Nat) : Ctr := ⟨NIB_STALL_CNT n, NIB_CNT_SAT n, 0⟩
def CTR_NIB_TRAP_CNT (n : Nat) : Ctr := ⟨NIB_TRAP_CNT n, NIB_CNT_SAT n, 1⟩
def CTR_RUL_SPILL_CNT : Ctr := ⟨RUL_SPILL_CNT, RUL_CNT_SAT, 0⟩
def CTR_RUL_TAINT_CNT : Ctr := ⟨RUL_TAINT_CNT, RUL_CNT_SAT, 1⟩
def CTR_INK_SAT_CNT (p : Nat) : Ctr := ⟨INK_SAT_CNT p, INK_CNT_SAT p, 0⟩
def CTR_INK_NONFINITE_CNT (p : Nat) : Ctr := ⟨INK_NONFINITE_CNT p, INK_CNT_SAT p, 1⟩
def CTR_INK_STALE_CNT (p : Nat) : Ctr := ⟨INK_STALE_CNT p, INK_CNT_SAT p, 2⟩
def CTR_BRU_SAT_CNT (p : Nat) : Ctr := ⟨BRU_SAT_CNT p, BRU_CNT_SAT p, 0⟩
def CTR_BRU_NONFINITE_CNT (p : Nat) : Ctr := ⟨BRU_NONFINITE_CNT p, BRU_CNT_SAT p, 1⟩
def CTR_BRU_LATE_CNT (p : Nat) : Ctr := ⟨BRU_LATE_CNT p, BRU_CNT_SAT p, 2⟩
def CTR_BRU_LIVE_CNT (p : Nat) : Ctr := ⟨BRU_LIVE_CNT p, BRU_CNT_SAT p, 3⟩
def CTR_BRU_STALE_CNT (p : Nat) : Ctr := ⟨BRU_STALE_CNT p, BRU_CNT_SAT p, 4⟩
def CTR_SAP_SLIP_CNT (k : Nat) : Ctr := ⟨SAP_SLIP_CNT k, SAP_CNT_SAT k, 0⟩
def CTR_SAP_TXSLIP_CNT (k : Nat) : Ctr := ⟨SAP_TXSLIP_CNT k, SAP_CNT_SAT k, 1⟩
def CTR_SAP_UNDER_CNT (k : Nat) : Ctr := ⟨SAP_UNDER_CNT k, SAP_CNT_SAT k, 2⟩
def CTR_SAP_FRAME_CNT (k : Nat) : Ctr := ⟨SAP_FRAME_CNT k, SAP_CNT_SAT k, 3⟩
def CTR_SAP_POISON_CNT (k : Nat) : Ctr := ⟨SAP_POISON_CNT k, SAP_CNT_SAT k, 4⟩
def CTR_SAP_STALE_CNT (k : Nat) : Ctr := ⟨SAP_STALE_CNT k, SAP_CNT_SAT k, 5⟩
def CTR_LANE_ILIM_CNT (k : Nat) : Ctr := ⟨LANE_ILIM_CNT k, LANE_CNT_SAT k, 0⟩
def CTR_LANE_SHORT_CNT (k : Nat) : Ctr := ⟨LANE_SHORT_CNT k, LANE_CNT_SAT k, 1⟩
def CTR_LANE_CLIP_CNT (k : Nat) : Ctr := ⟨LANE_CLIP_CNT k, LANE_CNT_SAT k, 2⟩
def CTR_LANE_POISON_CNT (k : Nat) : Ctr := ⟨LANE_POISON_CNT k, LANE_CNT_SAT k, 3⟩
def CTR_LANE_STALE_CNT (k : Nat) : Ctr := ⟨LANE_STALE_CNT k, LANE_CNT_SAT k, 4⟩
def CTR_PORT_RX_GOOD (i : Nat) : Ctr := ⟨PORT_RX_GOOD i, PORT_CNT_SAT i, 0⟩
def CTR_PORT_RX_FCS (i : Nat) : Ctr := ⟨PORT_RX_FCS i, PORT_CNT_SAT i, 1⟩
def CTR_PORT_RX_SIZE (i : Nat) : Ctr := ⟨PORT_RX_SIZE i, PORT_CNT_SAT i, 2⟩
def CTR_PORT_RX_VLAN (i : Nat) : Ctr := ⟨PORT_RX_VLAN i, PORT_CNT_SAT i, 3⟩
def CTR_PORT_RX_OTHER (i : Nat) : Ctr := ⟨PORT_RX_OTHER i, PORT_CNT_SAT i, 4⟩
def CTR_PORT_RX_CSUM (i : Nat) : Ctr := ⟨PORT_RX_CSUM i, PORT_CNT_SAT i, 5⟩
def CTR_PORT_RX_NOFLOW (i : Nat) : Ctr := ⟨PORT_RX_NOFLOW i, PORT_CNT_SAT i, 6⟩
def CTR_PORT_TX_GOOD (i : Nat) : Ctr := ⟨PORT_TX_GOOD i, PORT_CNT_SAT i, 7⟩
def CTR_PORT_TX_DROP (i : Nat) : Ctr := ⟨PORT_TX_DROP i, PORT_CNT_SAT i, 8⟩
def CTR_PORT_FEC_CORR (i : Nat) : Ctr := ⟨PORT_FEC_CORR i, PORT_CNT_SAT i, 9⟩
def CTR_PORT_FEC_UNCORR (i : Nat) : Ctr := ⟨PORT_FEC_UNCORR i, PORT_CNT_SAT i, 10⟩
def CTR_PORT_LINK_DOWN (i : Nat) : Ctr := ⟨PORT_LINK_DOWN i, PORT_CNT_SAT i, 11⟩
def CTR_PORT_RX_BYTES_LO (i : Nat) : Ctr := ⟨PORT_RX_BYTES_LO i, PORT_CNT_SAT i, 12⟩
def CTR_PORT_TX_BYTES_LO (i : Nat) : Ctr := ⟨PORT_TX_BYTES_LO i, PORT_CNT_SAT i, 13⟩
def CTR_RXF_OK (r : Nat) : Ctr := ⟨RXF_OK r, RXF_CNT_SAT r, 0⟩
def CTR_RXF_MISS (r : Nat) : Ctr := ⟨RXF_MISS r, RXF_CNT_SAT r, 1⟩
def CTR_RXF_LATE (r : Nat) : Ctr := ⟨RXF_LATE r, RXF_CNT_SAT r, 2⟩
def CTR_RXF_EARLY (r : Nat) : Ctr := ⟨RXF_EARLY r, RXF_CNT_SAT r, 3⟩
def CTR_RXF_DUP (r : Nat) : Ctr := ⟨RXF_DUP r, RXF_CNT_SAT r, 4⟩
def CTR_RXF_MISMATCH (r : Nat) : Ctr := ⟨RXF_MISMATCH r, RXF_CNT_SAT r, 5⟩
def CTR_RXF_AUTH (r : Nat) : Ctr := ⟨RXF_AUTH r, RXF_CNT_SAT r, 6⟩
def CTR_RXF_FORMAT (r : Nat) : Ctr := ⟨RXF_FORMAT r, RXF_CNT_SAT r, 7⟩
def CTR_RXF_ONLY_A (r : Nat) : Ctr := ⟨RXF_ONLY_A r, RXF_CNT_SAT r, 8⟩
def CTR_RXF_ONLY_B (r : Nat) : Ctr := ⟨RXF_ONLY_B r, RXF_CNT_SAT r, 9⟩
def CTR_RXF_SEQGAP (r : Nat) : Ctr := ⟨RXF_SEQGAP r, RXF_CNT_SAT r, 10⟩
def CTR_TXF_SENT (t : Nat) : Ctr := ⟨TXF_SENT t, TXF_CNT_SAT t, 0⟩
def CTR_TXF_DROP (t : Nat) : Ctr := ⟨TXF_DROP t, TXF_CNT_SAT t, 1⟩
def CTR_TXF_INVALID (t : Nat) : Ctr := ⟨TXF_INVALID t, TXF_CNT_SAT t, 2⟩
def CTR_TAG_ACCEPT : Ctr := ⟨TAG_ACCEPT, TAG_CNT_SAT, 0⟩
def CTR_TAG_NOSRC : Ctr := ⟨TAG_NOSRC, TAG_CNT_SAT, 1⟩
def CTR_TAG_OTHER : Ctr := ⟨TAG_OTHER, TAG_CNT_SAT, 2⟩
def CTR_TAG_DUP : Ctr := ⟨TAG_DUP, TAG_CNT_SAT, 3⟩
def CTR_TAG_FORMAT : Ctr := ⟨TAG_FORMAT, TAG_CNT_SAT, 4⟩
def CTR_TAG_FAR : Ctr := ⟨TAG_FAR, TAG_CNT_SAT, 5⟩
def CTR_TAG_LATE : Ctr := ⟨TAG_LATE, TAG_CNT_SAT, 6⟩
def CTR_TAG_REVLATE : Ctr := ⟨TAG_REVLATE, TAG_CNT_SAT, 7⟩
def CTR_TAG_NOMATCH : Ctr := ⟨TAG_NOMATCH, TAG_CNT_SAT, 8⟩
def CTR_TAG_NORESTORE : Ctr := ⟨TAG_NORESTORE, TAG_CNT_SAT, 9⟩
def CTR_TAG_CAP : Ctr := ⟨TAG_CAP, TAG_CNT_SAT, 10⟩
def CTR_TAG_POISON : Ctr := ⟨TAG_POISON, TAG_CNT_SAT, 11⟩
def CTR_TAG_DISCARD : Ctr := ⟨TAG_DISCARD, TAG_CNT_SAT, 12⟩
def CTR_TAG_RLY_DROP : Ctr := ⟨TAG_RLY_DROP, TAG_CNT_SAT, 13⟩
def CTR_AUTH_REFUSE_TAG : Ctr := ⟨AUTH_REFUSE_TAG, TAG_CNT_SAT, 14⟩
def CTR_AUTH_REFUSE_CHAIN : Ctr := ⟨AUTH_REFUSE_CHAIN, TAG_CNT_SAT, 15⟩
def CTR_AUTH_REFUSE_NIB : Ctr := ⟨AUTH_REFUSE_NIB, TAG_CNT_SAT, 16⟩
def CTR_MIR_MISM_CNT : Ctr := ⟨MIR_MISM_CNT, MIR_CNT_SAT, 0⟩
def CTR_MIR_SKIP_CNT : Ctr := ⟨MIR_SKIP_CNT, MIR_CNT_SAT, 1⟩
def CTR_MIR_PASS_CNT : Ctr := ⟨MIR_PASS_CNT, MIR_CNT_SAT, 2⟩
def CTR_MIR_ROLE_CNT : Ctr := ⟨MIR_ROLE_CNT, MIR_CNT_SAT, 3⟩
def CTR_RXM_LEAD (r : Nat) : Ctr := ⟨RXM_LEAD r, RXM_CNT_SAT r, 0⟩
def CTR_RXM_FALL (r : Nat) : Ctr := ⟨RXM_FALL r, RXM_CNT_SAT r, 1⟩
def CTR_REF_SWITCH_CNT : Ctr := ⟨REF_SWITCH_CNT, REF_CNT_SAT, 0⟩
def CTR_REF_DISQ_CNT : Ctr := ⟨REF_DISQ_CNT, REF_CNT_SAT, 1⟩
def CTR_TB_STEP_CNT (i : Nat) : Ctr := ⟨TB_STEP_CNT i, TB_CNT_SAT i, 0⟩
def CTR_TB_REFUSE_CNT (i : Nat) : Ctr := ⟨TB_REFUSE_CNT i, TB_CNT_SAT i, 1⟩
def CTR_PTP_RX_SYNC (w : Nat) : Ctr := ⟨PTP_RX_SYNC w, PTP_CNT_SAT w, 0⟩
def CTR_PTP_RX_IGN (w : Nat) : Ctr := ⟨PTP_RX_IGN w, PTP_CNT_SAT w, 1⟩
def CTR_PTP_TX (w : Nat) : Ctr := ⟨PTP_TX w, PTP_CNT_SAT w, 2⟩
def CTR_PTP_ANN_TO (w : Nat) : Ctr := ⟨PTP_ANN_TO w, PTP_CNT_SAT w, 3⟩
def CTR_PUL_SKIP_CNT (k : Nat) : Ctr := ⟨PUL_SKIP_CNT k, PUL_CNT_SAT k, 0⟩
def CTR_CAP_DROP_CNT (k : Nat) : Ctr := ⟨CAP_DROP_CNT k, CAP_CNT_SAT k, 0⟩
def CTR_FAB_DRY_CNT (l : Nat) : Ctr := ⟨FAB_DRY_CNT l, FAB_CNT_SAT l, 0⟩
def CTR_FAB_TIDE_CNT (l : Nat) : Ctr := ⟨FAB_TIDE_CNT l, FAB_CNT_SAT l, 1⟩
def CTR_FAB_EARLY_CNT (l : Nat) : Ctr := ⟨FAB_EARLY_CNT l, FAB_CNT_SAT l, 2⟩
def CTR_SLU_CH_BEATS (c : Nat) : Ctr := ⟨SLU_CH_BEATS c, SLU_CH_CNT_SAT c, 0⟩
def CTR_SLU_CH_OVR_CNT (c : Nat) : Ctr := ⟨SLU_CH_OVR_CNT c, SLU_CH_CNT_SAT c, 1⟩
def CTR_MEM_SUM_CE (g : Nat) : Ctr := ⟨MEM_SUM_CE g, MEM_CNT_SAT g, 2⟩
def CTR_MEM_SUM_UE (g : Nat) : Ctr := ⟨MEM_SUM_UE g, MEM_CNT_SAT g, 3⟩
def CTR_MEM_SUM_POISON (g : Nat) : Ctr := ⟨MEM_SUM_POISON g, MEM_CNT_SAT g, 4⟩
def CTR_MEM_SUM_INJ (g : Nat) : Ctr := ⟨MEM_SUM_INJ g, MEM_CNT_SAT g, 5⟩
def CTR_MEM_SUM_SKIP (g : Nat) : Ctr := ⟨MEM_SUM_SKIP g, MEM_CNT_SAT g, 6⟩
def CTR_MEM_CE_CNT (g : Nat) : Ctr := ⟨MEM_CE_CNT g, MEM_CNT_SAT g, 0⟩
def CTR_MEM_UE_CNT (g : Nat) : Ctr := ⟨MEM_UE_CNT g, MEM_CNT_SAT g, 1⟩
def CTR_MF_MODE_CNT : Ctr := ⟨MF_MODE_CNT, MF_CNT_SAT, 0⟩
def CTR_MCH_FRAMES : Ctr := ⟨MCH_FRAMES, MCH_CNT_SAT, 0⟩
def CTR_MCH_CRC_CNT : Ctr := ⟨MCH_CRC_CNT, MCH_CNT_SAT, 1⟩
def CTR_MCH_CMD_CNT : Ctr := ⟨MCH_CMD_CNT, MCH_CNT_SAT, 2⟩
def CTR_MCH_FULL_CNT : Ctr := ⟨MCH_FULL_CNT, MCH_CNT_SAT, 3⟩
def CTR_MCH_TMO_CNT : Ctr := ⟨MCH_TMO_CNT, MCH_CNT_SAT, 4⟩
def CTR_SEC_BR_CNT : Ctr := ⟨SEC_BR_CNT, SEC_CNT_SAT, 0⟩
def CTR_SEC_KEY_CE_CNT : Ctr := ⟨SEC_KEY_CE_CNT, SEC_CNT_SAT, 1⟩
def CTR_FB_STEP_CNT : Ctr := ⟨FB_STEP_CNT, FB_CNT_SAT, 0⟩
def CTR_FB_DOWN_CNT : Ctr := ⟨FB_DOWN_CNT, FB_CNT_SAT, 1⟩

/-! ### The rows, unit by unit; polder addresses are those of PLD0 -/

def nibRowsA : List RegRow := [
  ⟨0x12008000, [(4, 0x200000), (16, 0x20000)], .ro, 0x0, 0x7FFFE⟩,
  ⟨0x12808000, [(4, 0x20000)], .ro, 0x0, 0x7FFFE⟩,
  ⟨0x12008004, [(4, 0x200000), (16, 0x20000)], .ro, 0x0, 0xFFF8000F⟩,
  ⟨0x12808004, [(4, 0x20000)], .ro, 0x0, 0xFFF8000F⟩,
  ⟨0x12008008, [(4, 0x200000), (16, 0x20000)], .ro, 0x0, 0x1FFF⟩,
  ⟨0x12808008, [(4, 0x20000)], .ro, 0x0, 0x1FFF⟩,
  ⟨0x1200800C, [(4, 0x200000), (16, 0x20000)], .ro, 0x0, 0x7⟩,
  ⟨0x1280800C, [(4, 0x20000)], .ro, 0x0, 0x7⟩,
  ⟨0x12008010, [(4, 0x200000), (16, 0x20000)], .ro, 0x0, 0xFFFFFFFF⟩,
  ⟨0x12808010, [(4, 0x20000)], .ro, 0x0, 0xFFFFFFFF⟩,
  ⟨0x12008014, [(4, 0x200000), (16, 0x20000)], .ro, 0x1F, 0x3F⟩,
  ⟨0x12808014, [(4, 0x20000)], .ro, 0x1F, 0x3F⟩,
  ⟨0x12008018, [(4, 0x200000), (16, 0x20000)], .rws, 0x0, 0x1F⟩,
  ⟨0x12808018, [(4, 0x20000)], .rws, 0x0, 0x1F⟩,
  ⟨0x1200801C, [(4, 0x200000), (16, 0x20000)], .rc, 0x0, 0xFFFFFFFF⟩,
  ⟨0x1280801C, [(4, 0x20000)], .rc, 0x0, 0xFFFFFFFF⟩]
def nibRowsB : List RegRow := [
  ⟨0x12008020, [(4, 0x200000), (16, 0x20000)], .rc, 0x0, 0xFFFFFFFF⟩,
  ⟨0x12808020, [(4, 0x20000)], .rc, 0x0, 0xFFFFFFFF⟩,
  ⟨0x12008024, [(4, 0x200000), (16, 0x20000)], .w1c, 0x0, 0x3⟩,
  ⟨0x12808024, [(4, 0x20000)], .w1c, 0x0, 0x3⟩,
  ⟨0x12008028, [(4, 0x200000), (16, 0x20000)], .rw, 0x800, 0x1FFFF⟩,
  ⟨0x12808028, [(4, 0x20000)], .rw, 0x800, 0x1FFFF⟩]
def nibRows : List RegRow := nibRowsA ++ nibRowsB
def nibEvtRows : List RegRow := [
  ⟨0x12880000, [(4, 0x1000)], .w1c, 0x0, 0xF⟩,
  ⟨0x12880004, [(4, 0x1000)], .rw, 0xF, 0xF⟩,
  ⟨0x12880010, [(4, 0x1000)], .rws, 0x0, 0x1FFFF⟩,
  ⟨0x12880014, [(4, 0x1000)], .rws, 0x0, 0x1FFFF⟩,
  ⟨0x12880018, [(4, 0x1000)], .rws, 0x0, 0x1FFFF⟩,
  ⟨0x1288001C, [(4, 0x1000)], .rws, 0x0, 0x1FFFF⟩]
def fabPldRows : List RegRow := [
  ⟨0x13000000, [], .ro, 0x0, 0x1⟩,
  ⟨0x13000004, [], .ro, 0x64, 0xFFFF⟩,
  ⟨0x13000008, [], .ro, 0x64, 0xFFFF⟩,
  ⟨0x1300000C, [], .w1c, 0x0, 0x3F⟩,
  ⟨0x13000010, [], .rw, 0x3F, 0x3F⟩,
  ⟨0x13000014, [], .rws, 0x0, 0xFFFFF⟩,
  ⟨0x13000018, [], .rws, 0x0, 0xFFFFF⟩,
  ⟨0x1300001C, [], .rc, 0x0, 0xFFFFFFFF⟩,
  ⟨0x13000020, [], .rc, 0x0, 0xFFFFFFFF⟩,
  ⟨0x13000024, [], .rc, 0x0, 0xFFFFFFFF⟩,
  ⟨0x13000028, [], .w1c, 0x0, 0x7⟩,
  ⟨0x1300002C, [], .ro, 0x0, 0xF⟩,
  ⟨0x13000030, [(4, 0x4)], .ro, 0x0, 0x1FFFF⟩,
  ⟨0x13000040, [], .ro, 0x0, 0xFFFFFFFF⟩]
def sluRows : List RegRow := [
  ⟨0x13040000, [], .w1c, 0x0, 0x7F⟩,
  ⟨0x13040004, [], .rw, 0x7F, 0x7F⟩,
  ⟨0x13040008, [], .ro, 0x0, 0xFFFF⟩,
  ⟨0x13040010, [(7, 0x4)], .rws, 0x0, 0xFFFF⟩,
  ⟨0x13040100, [(16, 0x40)], .ro, 0x0, 0xFE01FFFF⟩,
  ⟨0x13040104, [(16, 0x40)], .ro, 0x0, 0xFFFFFFE0⟩,
  ⟨0x13040108, [(16, 0x40)], .ro, 0x1, 0xFFFF⟩,
  ⟨0x1304010C, [(16, 0x40)], .ro, 0x320, 0xFFFF⟩,
  ⟨0x13040110, [(16, 0x40)], .wo, 0x0, 0x3⟩,
  ⟨0x13040114, [(16, 0x40)], .ro, 0x0, 0xFC00FFFF⟩,
  ⟨0x13040118, [(16, 0x40)], .ro, 0x0, 0xFFFFFFE0⟩,
  ⟨0x1304011C, [(16, 0x40)], .ro, 0x0, 0xFFFFFFFF⟩,
  ⟨0x13040120, [(16, 0x40)], .ro, 0x0, 0x1FFFFFF⟩,
  ⟨0x13040124, [(16, 0x40)], .rc, 0x0, 0xFFFFFFFF⟩,
  ⟨0x13040128, [(16, 0x40)], .rc, 0x0, 0xFFFFFFFF⟩,
  ⟨0x1304012C, [(16, 0x40)], .w1c, 0x0, 0x3⟩]
def gaugeRows : List RegRow := [
  ⟨0x13080000, [(8, 0x20)], .ro, 0x0, 0x8000FFFF⟩,
  ⟨0x13080004, [(8, 0x20)], .ro, 0x0, 0xFFFF⟩,
  ⟨0x13080008, [(8, 0x20)], .ro, 0x0, 0xFFFF⟩,
  ⟨0x1308000C, [(8, 0x20)], .ro, 0x0, 0xFFFF⟩,
  ⟨0x13080010, [(8, 0x20)], .ro, 0x0, 0xFFFF⟩,
  ⟨0x13080014, [(8, 0x20)], .ro, 0x0, 0xFFFFFFFF⟩,
  ⟨0x13080100, [(68, 0x4)], .ro, 0x0, 0x1FFFF⟩]
def inkRows : List RegRow := [
  ⟨0x13100000, [], .ro, 0x0, 0x7FFF⟩,
  ⟨0x13100004, [], .w1c, 0x0, 0x1F⟩,
  ⟨0x13100008, [], .rw, 0x1F, 0x1F⟩,
  ⟨0x1310000C, [], .rc, 0x0, 0xFFFFFFFF⟩,
  ⟨0x13100010, [], .rc, 0x0, 0xFFFFFFFF⟩,
  ⟨0x13100014, [], .rc, 0x0, 0xFFFFFFFF⟩,
  ⟨0x13100018, [], .w1c, 0x0, 0x7⟩,
  ⟨0x1310001C, [], .ro, 0x0, 0x7FFF⟩,
  ⟨0x13100100, [(16, 0x4)], .rw, 0xE07, 0xE7F⟩]
def bruRows : List RegRow := [
  ⟨0x13300000, [], .ro, 0x0, 0x3FF⟩,
  ⟨0x13300004, [], .w1c, 0x0, 0xFF⟩,
  ⟨0x13300008, [], .rw, 0xFF, 0xFF⟩,
  ⟨0x1330000C, [], .rc, 0x0, 0xFFFFFFFF⟩,
  ⟨0x13300010, [], .rc, 0x0, 0xFFFFFFFF⟩,
  ⟨0x13300014, [], .rc, 0x0, 0xFFFFFFFF⟩,
  ⟨0x13300018, [], .rc, 0x0, 0xFFFFFFFF⟩,
  ⟨0x1330001C, [], .rc, 0x0, 0xFFFFFFFF⟩,
  ⟨0x13300020, [], .w1c, 0x0, 0x1F⟩,
  ⟨0x13300024, [], .ro, 0x0, 0x1FFFF⟩,
  ⟨0x13300028, [], .rc, 0x1FFFF, 0x1FFFF⟩,
  ⟨0x13301000, [(256, 0x4)], .ro, 0x0, 0xFFFFFFFF⟩]
def netRows : List RegRow := [
  ⟨0x20000000, [], .ro, 0x0, 0xFFFFFFFF⟩,
  ⟨0x20000004, [], .ro, 0x0, 0x3⟩,
  ⟨0x20000008, [], .w1c, 0x0, 0x3FF⟩,
  ⟨0x2000000C, [], .rw, 0x3FF, 0x3FF⟩,
  ⟨0x20000080, [(64, 0x4)], .rw, 0x0, 0xFFFFFFFF⟩]
def netNwRows : List RegRow := [
  ⟨0x20000200, [(2, 0x100)], .ro, 0x0, 0xFFE3FFFF⟩,
  ⟨0x20000204, [(2, 0x100)], .ro, 0x0, 0xFFFF⟩,
  ⟨0x20000208, [(2, 0x100)], .ro, 0x0, 0xFFFFFFFF⟩,
  ⟨0x2000020C, [(2, 0x100)], .ro, 0x0, 0xFFFFFFFF⟩,
  ⟨0x20000210, [(2, 0x100), (4, 0x4)], .ro, 0x0, 0xFFFFFFFF⟩,
  ⟨0x20000220, [(2, 0x100), (4, 0x4)], .ro, 0x0, 0xFFFFFFFF⟩]
def netPortRowsA : List RegRow := [
  ⟨0x20000400, [(4, 0x100)], .ro, 0x0, 0xFF800000⟩,
  ⟨0x20000404, [(4, 0x100)], .ro, 0x0, 0x1F3F1F⟩,
  ⟨0x20000408, [(4, 0x100)], .ro, 0x0, 0xF⟩,
  ⟨0x2000040C, [(4, 0x100)], .rc, 0x0, 0xFFFFFFFF⟩,
  ⟨0x20000410, [(4, 0x100)], .rc, 0x0, 0xFFFFFFFF⟩,
  ⟨0x20000414, [(4, 0x100)], .rc, 0x0, 0xFFFFFFFF⟩,
  ⟨0x20000418, [(4, 0x100)], .rc, 0x0, 0xFFFFFFFF⟩,
  ⟨0x2000041C, [(4, 0x100)], .rc, 0x0, 0xFFFFFFFF⟩,
  ⟨0x20000420, [(4, 0x100)], .rc, 0x0, 0xFFFFFFFF⟩,
  ⟨0x20000424, [(4, 0x100)], .rc, 0x0, 0xFFFFFFFF⟩,
  ⟨0x20000428, [(4, 0x100)], .rc, 0x0, 0xFFFFFFFF⟩,
  ⟨0x2000042C, [(4, 0x100)], .rc, 0x0, 0xFFFFFFFF⟩,
  ⟨0x20000430, [(4, 0x100)], .rc, 0x0, 0xFFFFFFFF⟩,
  ⟨0x20000434, [(4, 0x100)], .rc, 0x0, 0xFFFFFFFF⟩,
  ⟨0x20000438, [(4, 0x100)], .rc, 0x0, 0xFFFFFFFF⟩,
  ⟨0x2000043C, [(4, 0x100)], .rc, 0x0, 0xFFFFFFFF⟩]
def netPortRowsB : List RegRow := [
  ⟨0x20000440, [(4, 0x100)], .rc, 0x0, 0xFFFFFFFF⟩,
  ⟨0x20000444, [(4, 0x100)], .rc, 0x0, 0xFFFFFFFF⟩,
  ⟨0x20000448, [(4, 0x100)], .rc, 0x0, 0xFFFFFFFF⟩,
  ⟨0x2000044C, [(4, 0x100)], .w1c, 0x0, 0x3FFF⟩]
def netPortRows : List RegRow := netPortRowsA ++ netPortRowsB
def flowRows : List RegRow := [
  ⟨0x20008000, [(2048, 0x40)], .ro, 0x0, 0xFFFFFCFF⟩,
  ⟨0x20008004, [(2048, 0x40)], .ro, 0x0, 0xF8FE3FFF⟩,
  ⟨0x20008008, [(2048, 0x40)], .ro, 0x0, 0xFFFFFFFF⟩,
  ⟨0x2000800C, [(2048, 0x40)], .ro, 0x0, 0x1FFFC⟩,
  ⟨0x20008010, [(2048, 0x40)], .ro, 0x0, 0xFFFF3FFF⟩,
  ⟨0x20008014, [(2048, 0x40), (10, 0x4)], .ro, 0x0, 0xFFFFFFFF⟩,
  ⟨0x2000803C, [(2048, 0x40)], .ro, 0x0, 0x0⟩]
def rxfRows : List RegRow := [
  ⟨0x20040000, [(1024, 0x40)], .rc, 0x0, 0xFF03⟩,
  ⟨0x20040004, [(1024, 0x40)], .rc, 0x0, 0xFFFFFFFF⟩,
  ⟨0x20040008, [(1024, 0x40)], .rc, 0x0, 0xFFFFFFFF⟩,
  ⟨0x2004000C, [(1024, 0x40)], .rc, 0x0, 0xFFFFFFFF⟩,
  ⟨0x20040010, [(1024, 0x40)], .rc, 0x0, 0xFFFFFFFF⟩,
  ⟨0x20040014, [(1024, 0x40)], .rc, 0x0, 0xFFFFFFFF⟩,
  ⟨0x20040018, [(1024, 0x40)], .rc, 0x0, 0xFFFFFFFF⟩,
  ⟨0x2004001C, [(1024, 0x40)], .rc, 0x0, 0xFFFFFFFF⟩,
  ⟨0x20040020, [(1024, 0x40)], .rc, 0x0, 0xFFFFFFFF⟩,
  ⟨0x20040024, [(1024, 0x40)], .rc, 0x0, 0xFFFFFFFF⟩,
  ⟨0x20040028, [(1024, 0x40)], .rc, 0x0, 0xFFFFFFFF⟩,
  ⟨0x2004002C, [(1024, 0x40)], .rc, 0x0, 0xFFFFFFFF⟩,
  ⟨0x20040030, [(1024, 0x40)], .w1c, 0x0, 0x7FF⟩]
def txfRows : List RegRow := [
  ⟨0x20050000, [(1024, 0x10)], .rc, 0x0, 0xFFFFFFFF⟩,
  ⟨0x20050004, [(1024, 0x10)], .rc, 0x0, 0xFFFFFFFF⟩,
  ⟨0x20050008, [(1024, 0x10)], .rc, 0x0, 0xFFFFFFFF⟩,
  ⟨0x2005000C, [(1024, 0x10)], .w1c, 0x0, 0x7⟩]
def rxmRows : List RegRow := [
  ⟨0x20060000, [(1024, 0x10)], .ro, 0x0, 0x3⟩,
  ⟨0x20060004, [(1024, 0x10)], .rc, 0x0, 0xFFFFFFFF⟩,
  ⟨0x20060008, [(1024, 0x10)], .rc, 0x0, 0xFFFFFFFF⟩,
  ⟨0x2006000C, [(1024, 0x10)], .w1c, 0x0, 0x3⟩]
def refRowsA : List RegRow := [
  ⟨0x20100000, [], .rw, 0x206, 0x707⟩,
  ⟨0x20100004, [], .rw, 0x0, 0x3FFFF⟩,
  ⟨0x20100008, [], .rw, 0x64083C14, 0xFFFFFFFF⟩,
  ⟨0x2010000C, [], .rw, 0x1000005, 0xFFFF003F⟩,
  ⟨0x20100010, [], .rw, 0x23C, 0xFFFF⟩,
  ⟨0x20100014, [], .ro, 0x0, 0xFE003F⟩,
  ⟨0x20100018, [], .ro, 0x0, 0xFFF83F3F⟩,
  ⟨0x2010001C, [], .ro, 0x0, 0xFFFFFFFF⟩,
  ⟨0x20100020, [], .ro, 0x0, 0xFFFFFFFF⟩,
  ⟨0x20100024, [], .ro, 0x0, 0xFFFF⟩,
  ⟨0x20100028, [], .ro, 0x0, 0xFFFFFFFF⟩,
  ⟨0x2010002C, [], .ro, 0x0, 0xFFFFFFFF⟩,
  ⟨0x20100030, [], .ro, 0x0, 0xFFFFFFFF⟩,
  ⟨0x20100034, [], .rc, 0x0, 0xFFFFFFFF⟩,
  ⟨0x20100038, [], .rc, 0x0, 0xFFFFFFFF⟩,
  ⟨0x2010003C, [], .w1c, 0x0, 0x3⟩]
def refRowsB : List RegRow := [
  ⟨0x20100040, [], .w1c, 0x0, 0xFF⟩,
  ⟨0x20100044, [], .rw, 0xFF, 0xFF⟩,
  ⟨0x20100080, [(6, 0x10)], .ro, 0x0, 0xFFFFFFFF⟩,
  ⟨0x20100084, [(6, 0x10)], .ro, 0x0, 0xFFFFFFFF⟩,
  ⟨0x20100088, [(6, 0x10)], .ro, 0x0, 0xF0FFFFFF⟩]
def refRows : List RegRow := refRowsA ++ refRowsB
def tbRowsA : List RegRow := [
  ⟨0x20101000, [(4, 0x80)], .rw, 0x100000, 0x1FFFFF⟩,
  ⟨0x20101004, [(4, 0x80)], .ro, 0x0, 0xFFFFFFFF⟩,
  ⟨0x20101008, [(4, 0x80)], .ro, 0x0, 0xFFFFFFFF⟩,
  ⟨0x2010100C, [(4, 0x80)], .ro, 0x0, 0xFFFFFFFF⟩,
  ⟨0x20101010, [(4, 0x80)], .ro, 0x0, 0xFFFF⟩,
  ⟨0x20101014, [(4, 0x80)], .rw, 0x0, 0xFFFFFFFF⟩,
  ⟨0x20101018, [(4, 0x80)], .ro, 0x0, 0xFFFFFFFF⟩,
  ⟨0x2010101C, [(4, 0x80)], .ro, 0x0, 0xFFFFFFFF⟩,
  ⟨0x20101020, [(4, 0x80)], .wo, 0x0, 0xFFFFFFFF⟩,
  ⟨0x20101024, [(4, 0x80)], .rw, 0x0, 0xFFFFFFFF⟩,
  ⟨0x20101028, [(4, 0x80)], .rw, 0x0, 0xFFFFFFFF⟩,
  ⟨0x2010102C, [(4, 0x80)], .rw, 0x0, 0xFFFF⟩,
  ⟨0x20101030, [(4, 0x80)], .wo, 0x0, 0x1⟩,
  ⟨0x20101034, [(4, 0x80)], .ro, 0x0, 0xE0000000⟩,
  ⟨0x20101038, [(4, 0x80)], .rc, 0x0, 0xFFFFFFFF⟩,
  ⟨0x2010103C, [(4, 0x80)], .rc, 0x0, 0xFFFFFFFF⟩]
def tbRowsB : List RegRow := [
  ⟨0x20101040, [(4, 0x80)], .w1c, 0x0, 0x3⟩]
def tbRows : List RegRow := tbRowsA ++ tbRowsB
def tbuRows : List RegRow := [
  ⟨0x20101200, [], .ro, 0x0, 0x3⟩,
  ⟨0x20101204, [], .w1c, 0x0, 0xFF3F⟩,
  ⟨0x20101208, [], .rw, 0xFF3F, 0xFFFF⟩]
def ptpRows : List RegRow := [
  ⟨0x20102000, [(2, 0x100)], .ro, 0x0, 0xFCFFFFFF⟩,
  ⟨0x20102004, [(2, 0x100)], .ro, 0x0, 0xFFFFFFFF⟩,
  ⟨0x20102008, [(2, 0x100)], .ro, 0x0, 0xFFFFFFFF⟩,
  ⟨0x2010200C, [(2, 0x100)], .ro, 0x0, 0xFFFFFFFF⟩,
  ⟨0x20102010, [(2, 0x100)], .rw, 0x14000A, 0xFFFFFF⟩,
  ⟨0x20102014, [(2, 0x100)], .rw, 0xFA0010, 0xFFFF00FF⟩,
  ⟨0x20102018, [(2, 0x100)], .ro, 0x0, 0xFC00FFFF⟩,
  ⟨0x2010201C, [(2, 0x100)], .ro, 0x0, 0xFFFFFFFF⟩,
  ⟨0x20102020, [(2, 0x100)], .ro, 0x0, 0xFFFFFFFF⟩,
  ⟨0x20102024, [(2, 0x100)], .ro, 0x0, 0xFFFFFFFF⟩,
  ⟨0x20102028, [(2, 0x100)], .ro, 0x0, 0xFFFFFFFF⟩,
  ⟨0x2010202C, [(2, 0x100)], .rc, 0x0, 0xFFFFFFFF⟩,
  ⟨0x20102030, [(2, 0x100)], .rc, 0x0, 0xFFFFFFFF⟩,
  ⟨0x20102034, [(2, 0x100)], .rc, 0x0, 0xFFFFFFFF⟩,
  ⟨0x20102038, [(2, 0x100)], .rc, 0x0, 0xFFFFFFFF⟩,
  ⟨0x2010203C, [(2, 0x100)], .w1c, 0x0, 0xF⟩]
def pulseRows : List RegRow := [
  ⟨0x20104000, [(16, 0x40)], .rw, 0x0, 0x7C000000⟩,
  ⟨0x20104004, [(16, 0x40)], .rw, 0x0, 0xFFFFFFFF⟩,
  ⟨0x20104008, [(16, 0x40)], .rw, 0x0, 0xFFFFFFFF⟩,
  ⟨0x2010400C, [(16, 0x40)], .rw, 0x0, 0xFFFFFFFF⟩,
  ⟨0x20104010, [(16, 0x40)], .rw, 0x0, 0xFFFF⟩,
  ⟨0x20104014, [(16, 0x40)], .rw, 0x0, 0xFFFFFFFF⟩,
  ⟨0x20104018, [(16, 0x40)], .rw, 0x0, 0xFFFFFFFF⟩,
  ⟨0x2010401C, [(16, 0x40)], .rw, 0x1, 0xFFFFFF⟩,
  ⟨0x20104020, [(16, 0x40)], .wo, 0x0, 0x3⟩,
  ⟨0x20104024, [(16, 0x40)], .ro, 0x0, 0xC0000000⟩,
  ⟨0x20104028, [(16, 0x40)], .rc, 0x0, 0xFFFFFFFF⟩,
  ⟨0x2010402C, [(16, 0x40)], .w1c, 0x0, 0x1⟩]
def captRows : List RegRow := [
  ⟨0x20105000, [(8, 0x80)], .ro, 0x0, 0xE0000000⟩,
  ⟨0x20105004, [(8, 0x80)], .ro, 0x0, 0x7⟩,
  ⟨0x20105008, [(8, 0x80)], .ro, 0x0, 0xFFFFFFFF⟩,
  ⟨0x2010500C, [(8, 0x80)], .ro, 0x0, 0xC000FFFF⟩,
  ⟨0x20105010, [(8, 0x80)], .ro, 0x0, 0xFFFFFFFF⟩,
  ⟨0x20105014, [(8, 0x80), (4, 0xC)], .ro, 0x0, 0xFFFFFFFF⟩,
  ⟨0x20105018, [(8, 0x80), (4, 0xC)], .ro, 0x0, 0xFFFFFFFF⟩,
  ⟨0x2010501C, [(8, 0x80), (4, 0xC)], .ro, 0x0, 0xFFFF⟩,
  ⟨0x20105044, [(8, 0x80)], .rc, 0x0, 0xFFFFFFFF⟩,
  ⟨0x20105048, [(8, 0x80)], .w1c, 0x0, 0x1⟩]
def stkRows : List RegRow := [
  ⟨0x20108000, [], .ro, 0x0, 0xFFFFFFFF⟩,
  ⟨0x20108004, [], .ro, 0x0, 0xFFFF⟩,
  ⟨0x20108008, [], .ro, 0x0, 0xFFFFFFFF⟩,
  ⟨0x2010800C, [], .ro, 0x0, 0xFFFFFFFF⟩,
  ⟨0x20108010, [], .ro, 0x0, 0xFFFFFFFF⟩,
  ⟨0x20108014, [], .ro, 0x0, 0xFFFFFFFF⟩,
  ⟨0x20108018, [], .ro, 0x0, 0x3FFFF⟩,
  ⟨0x2010801C, [], .ro, 0x0, 0x31F⟩,
  ⟨0x20108020, [], .ro, 0x0, 0x7⟩,
  ⟨0x20108024, [], .ro, 0x0, 0xFFFFFFFF⟩,
  ⟨0x20108028, [], .rw, 0x4CD, 0xFFFF⟩,
  ⟨0x2010802C, [], .rw, 0x640A, 0xFFFF⟩,
  ⟨0x20108030, [], .wo, 0x0, 0x1⟩,
  ⟨0x20108034, [], .w1c, 0x0, 0x3⟩,
  ⟨0x20108038, [], .rw, 0x3, 0x3⟩]
def sapUnitRows : List RegRow := [
  ⟨0x20200000, [], .ro, 0x0, 0xFFFFFFFF⟩,
  ⟨0x20200004, [], .ro, 0x0, 0xFFFF⟩,
  ⟨0x20200008, [], .ro, 0x18800, 0x1FFFF⟩,
  ⟨0x20200040, [(16, 0x4)], .ro, 0x0, 0x1FFFFF⟩]
def sapRowsA : List RegRow := [
  ⟨0x20200100, [(16, 0x100)], .ro, 0x0, 0xFFFFFF38⟩,
  ⟨0x20200104, [(16, 0x100)], .ro, 0x0, 0x3FFF⟩,
  ⟨0x20200108, [(16, 0x100)], .ro, 0x0, 0x3FFF⟩,
  ⟨0x2020010C, [(16, 0x100)], .rw, 0x0, 0xFFFFFFFF⟩,
  ⟨0x20200110, [(16, 0x100)], .rw, 0x0, 0xFFFFFFFF⟩,
  ⟨0x20200114, [(16, 0x100)], .ro, 0x0, 0xFFF7⟩,
  ⟨0x20200118, [(16, 0x100)], .ro, 0x0, 0x1FFFF⟩,
  ⟨0x2020011C, [(16, 0x100)], .ro, 0x0, 0x1FFFF⟩,
  ⟨0x20200120, [(16, 0x100)], .ro, 0x0, 0xFFFFFFFF⟩,
  ⟨0x20200124, [(16, 0x100)], .ro, 0x0, 0xFFFFFFFF⟩,
  ⟨0x20200128, [(16, 0x100)], .ro, 0x0, 0xFFFF⟩,
  ⟨0x2020012C, [(16, 0x100)], .rc, 0x0, 0xFFFFFFFF⟩,
  ⟨0x20200130, [(16, 0x100)], .rc, 0x0, 0xFFFFFFFF⟩,
  ⟨0x20200134, [(16, 0x100)], .rc, 0x0, 0xFFFFFFFF⟩,
  ⟨0x20200138, [(16, 0x100)], .rc, 0x0, 0xFFFFFFFF⟩,
  ⟨0x2020013C, [(16, 0x100)], .rc, 0x0, 0xFFFFFFFF⟩]
def sapRowsB : List RegRow := [
  ⟨0x20200140, [(16, 0x100)], .rc, 0x0, 0xFFFFFFFF⟩,
  ⟨0x20200144, [(16, 0x100)], .w1c, 0x0, 0x3F⟩,
  ⟨0x20200148, [(16, 0x100)], .w1c, 0x0, 0x7F⟩,
  ⟨0x2020014C, [(16, 0x100)], .rw, 0x7F, 0x7F⟩]
def sapRows : List RegRow := sapRowsA ++ sapRowsB
def laneUnitRows : List RegRow := [
  ⟨0x20300000, [], .ro, 0x0, 0xFFFFFFFF⟩,
  ⟨0x20300004, [], .ro, 0x0, 0xFFFFFFFF⟩]
def laneRowsA : List RegRow := [
  ⟨0x20300100, [(32, 0x100)], .ro, 0x0, 0xF0FF3FFF⟩,
  ⟨0x20300104, [(32, 0x100)], .ro, 0x1, 0x1F3F⟩,
  ⟨0x20300108, [(32, 0x100)], .ro, 0x1, 0xFFFFFFFF⟩,
  ⟨0x2030010C, [(32, 0x100)], .ro, 0x0, 0xFFFFFFFF⟩,
  ⟨0x20300110, [(32, 0x100)], .ro, 0x0, 0xFFFF⟩,
  ⟨0x20300114, [(32, 0x100)], .ro, 0x0, 0xFFFF⟩,
  ⟨0x20300118, [(32, 0x100)], .rw, 0xC00, 0xFFF⟩,
  ⟨0x2030011C, [(32, 0x100)], .rw, 0x140000C8, 0xFF00FFFF⟩,
  ⟨0x20300120, [(32, 0x100)], .rw, 0x695A050C, 0xFFFFFFFF⟩,
  ⟨0x20300124, [(32, 0x100)], .rw, 0x5C0100C8, 0xFFFFFFFF⟩,
  ⟨0x20300128, [(32, 0x100)], .rw, 0x401F4, 0xFFFFF⟩,
  ⟨0x2030012C, [(32, 0x100)], .rw, 0x641414, 0xFFFFFFFF⟩,
  ⟨0x20300130, [(32, 0x100)], .rw, 0x1E280900, 0xFFFFFF00⟩,
  ⟨0x20300134, [(32, 0x100)], .rw, 0x280000A, 0xFFFFFFFF⟩,
  ⟨0x20300138, [(32, 0x100)], .wo, 0x0, 0x1⟩,
  ⟨0x2030013C, [(32, 0x100)], .wo, 0x0, 0x1⟩]
def laneRowsB : List RegRow := [
  ⟨0x20300140, [(32, 0x100)], .ro, 0x0, 0xFFFFFFFF⟩,
  ⟨0x20300144, [(32, 0x100)], .ro, 0x0, 0xFFFF⟩,
  ⟨0x20300148, [(32, 0x100)], .ro, 0x0, 0xFFFFFFFF⟩,
  ⟨0x2030014C, [(32, 0x100)], .ro, 0x0, 0x1FFFF⟩,
  ⟨0x20300150, [(32, 0x100)], .rc, 0x0, 0xFFFFFFFF⟩,
  ⟨0x20300154, [(32, 0x100)], .rc, 0x0, 0xFFFFFFFF⟩,
  ⟨0x20300158, [(32, 0x100)], .rc, 0x0, 0xFFFFFFFF⟩,
  ⟨0x2030015C, [(32, 0x100)], .rc, 0x0, 0xFFFFFFFF⟩,
  ⟨0x20300160, [(32, 0x100)], .rc, 0x0, 0xFFFFFFFF⟩,
  ⟨0x20300164, [(32, 0x100)], .w1c, 0x0, 0x1F⟩,
  ⟨0x20300168, [(32, 0x100)], .w1c, 0x0, 0x7FF⟩,
  ⟨0x2030016C, [(32, 0x100)], .rw, 0x7FF, 0x7FF⟩]
def laneRows : List RegRow := laneRowsA ++ laneRowsB
def auxRows : List RegRow := [
  ⟨0x20304000, [(8, 0x10)], .ro, 0x0, 0xC0000000⟩,
  ⟨0x20304004, [(8, 0x10)], .ro, 0x0, 0xFFFFFFFF⟩,
  ⟨0x20304008, [(8, 0x10)], .ro, 0x0, 0xFFFFFFFF⟩,
  ⟨0x2030400C, [(8, 0x10)], .ro, 0x0, 0xFFFFFFFF⟩,
  ⟨0x20304080, [], .ro, 0x0, 0xFF⟩]
def bootRows : List RegRow := [
  ⟨0x20400000, [], .ro, 0x0, 0xFE000000⟩,
  ⟨0x20400004, [], .ro, 0x0, 0xFFFFFF00⟩,
  ⟨0x20400008, [], .ro, 0x0, 0xFFFFFFFF⟩,
  ⟨0x2040000C, [], .ro, 0x0, 0xFFFF⟩,
  ⟨0x20400010, [], .ro, 0x0, 0xFFFF⟩,
  ⟨0x20400014, [], .ro, 0x0, 0xFFFFFFFF⟩,
  ⟨0x20400018, [], .ro, 0x0, 0xFFFFFFFF⟩,
  ⟨0x2040001C, [], .ro, 0x0, 0xFFFF1F0F⟩,
  ⟨0x20400020, [], .rw, 0x0, 0x3⟩,
  ⟨0x20400024, [], .rw, 0x0, 0xFFFFFFFF⟩,
  ⟨0x20400028, [], .wo, 0x0, 0x3⟩,
  ⟨0x2040002C, [], .ro, 0x0, 0xF0000000⟩,
  ⟨0x20400030, [], .w1c, 0x0, 0xF⟩,
  ⟨0x20400034, [], .rw, 0xF, 0xF⟩,
  ⟨0x20400100, [(64, 0x4)], .rw, 0x0, 0xFFFFFFFF⟩]
def secRows : List RegRow := [
  ⟨0x20500000, [], .ro, 0x0, 0xFFF80000⟩,
  ⟨0x20500004, [], .w1c, 0x0, 0x1F⟩,
  ⟨0x20500008, [], .rw, 0x1F, 0x1F⟩,
  ⟨0x2050000C, [], .ro, 0x0, 0xFFFFFFFF⟩,
  ⟨0x20500010, [], .ro, 0x0, 0xFFFFFFFF⟩,
  ⟨0x20500014, [], .ro, 0x0, 0xFFF⟩,
  ⟨0x20500018, [], .ro, 0x0, 0x1FF⟩,
  ⟨0x2050001C, [], .rc, 0x0, 0xFFFFFFFF⟩,
  ⟨0x20500020, [], .rc, 0x0, 0xFFFFFFFF⟩,
  ⟨0x20500024, [], .w1c, 0x0, 0x3⟩,
  ⟨0x20500028, [], .ro, 0x0, 0xFFFF⟩,
  ⟨0x20500100, [(48, 0x4)], .ro, 0x0, 0xFF000000⟩,
  ⟨0x205001C0, [(12, 0x4)], .ro, 0x0, 0xFFFFFFFF⟩]
def fbRowsA : List RegRow := [
  ⟨0x20600000, [], .rw, 0x1, 0x3⟩,
  ⟨0x20600004, [], .ro, 0x1428003C, 0xFFFF00FF⟩,
  ⟨0x20600008, [], .ro, 0x35202BC, 0xFFFFFFFF⟩,
  ⟨0x2060000C, [], .ro, 0x2EE, 0xFFFFFFFF⟩,
  ⟨0x20600010, [], .ro, 0x0, 0xE0FFFFFF⟩,
  ⟨0x20600014, [], .ro, 0x0, 0xFFFF⟩,
  ⟨0x20600018, [], .ro, 0x3C, 0xFFFF⟩,
  ⟨0x2060001C, [], .ro, 0x0, 0x7FFF⟩,
  ⟨0x20600020, [], .ro, 0x0, 0xFFFFFFFF⟩,
  ⟨0x20600024, [], .ro, 0x0, 0xFFFFFFFF⟩,
  ⟨0x20600028, [], .ro, 0x0, 0xFFFF81FF⟩,
  ⟨0x2060002C, [], .ro, 0x0, 0x800001FF⟩,
  ⟨0x20600030, [], .ro, 0x0, 0xF000FFFF⟩,
  ⟨0x20600034, [], .ro, 0x0, 0xFFFFFFFF⟩,
  ⟨0x20600038, [], .rc, 0x0, 0xFFFFFFFF⟩,
  ⟨0x2060003C, [], .rc, 0x0, 0xFFFFFFFF⟩]
def fbRowsB : List RegRow := [
  ⟨0x20600040, [], .w1c, 0x0, 0x3⟩,
  ⟨0x20600044, [], .w1c, 0x0, 0xF⟩,
  ⟨0x20600048, [], .rw, 0xF, 0xF⟩,
  ⟨0x2060004C, [], .rw, 0x0, 0x3FF⟩,
  ⟨0x20600050, [], .ro, 0x0, 0xF0FFFFFF⟩]
def fbRows : List RegRow := fbRowsA ++ fbRowsB
def memRowsA : List RegRow := [
  ⟨0x20608000, [(21, 0x100)], .rw, 0x0, 0xFFFFFFFC⟩,
  ⟨0x20608004, [(21, 0x100)], .rw, 0x0, 0xFFFFFFFC⟩,
  ⟨0x20608008, [(21, 0x100)], .rw, 0x4, 0xFF⟩,
  ⟨0x2060800C, [(21, 0x100)], .wo, 0x0, 0x3⟩,
  ⟨0x20608010, [(21, 0x100)], .ro, 0x0, 0xFC000000⟩,
  ⟨0x20608014, [(21, 0x100)], .ro, 0x0, 0xFFFFFFFF⟩,
  ⟨0x20608018, [(21, 0x100)], .ro, 0x0, 0xFFFFFFFF⟩,
  ⟨0x2060801C, [(21, 0x100)], .ro, 0x0, 0xFFFFFFFF⟩,
  ⟨0x20608020, [(21, 0x100)], .ro, 0x0, 0xFFFFFFFF⟩,
  ⟨0x20608024, [(21, 0x100)], .ro, 0x0, 0xFFFFFFFF⟩,
  ⟨0x20608028, [(21, 0x100)], .ro, 0xFFFFFFFF, 0xFFFFFFFF⟩,
  ⟨0x2060802C, [(21, 0x100)], .ro, 0xFFFFFFFF, 0xFFFFFFFF⟩,
  ⟨0x20608030, [(21, 0x100)], .ro, 0x0, 0xFFFFFFFF⟩,
  ⟨0x20608034, [(21, 0x100)], .rc, 0x0, 0xFFFFFFFF⟩,
  ⟨0x20608038, [(21, 0x100)], .rc, 0x0, 0xFFFFFFFF⟩,
  ⟨0x2060803C, [(21, 0x100)], .w1c, 0x0, 0x7F⟩]
def memRowsB : List RegRow := [
  ⟨0x20608040, [(21, 0x100)], .rw, 0x0, 0xFFFFFFFF⟩,
  ⟨0x20608044, [(21, 0x100)], .rw, 0x0, 0xFFFFFFFF⟩,
  ⟨0x20608048, [(21, 0x100)], .rw, 0x0, 0xFF⟩,
  ⟨0x2060804C, [(21, 0x100)], .rw, 0x0, 0xFFFFFFFD⟩,
  ⟨0x20608050, [(21, 0x100)], .wo, 0x0, 0x3⟩,
  ⟨0x20608054, [(21, 0x100)], .ro, 0x0, 0xE0000000⟩,
  ⟨0x20608058, [(21, 0x100)], .ro, 0x0, 0xFFFFFFFF⟩,
  ⟨0x2060805C, [(21, 0x100)], .ro, 0x0, 0xFFFFFFFF⟩,
  ⟨0x20608060, [(21, 0x100)], .rw, 0x1, 0x1⟩,
  ⟨0x20608064, [(21, 0x100)], .ro, 0x0, 0xFFFFFFFF⟩,
  ⟨0x20608068, [], .w1c, 0x0, 0xFF⟩,
  ⟨0x2060806C, [], .rw, 0xFF, 0xFF⟩,
  ⟨0x20608168, [(20, 0x100)], .w1c, 0x0, 0x7F⟩,
  ⟨0x2060816C, [(20, 0x100)], .rw, 0x7F, 0x7F⟩]
def memRows : List RegRow := memRowsA ++ memRowsB
def patrolRows : List RegRow := [
  ⟨0x20609800, [], .ro, 0xE10, 0xFFFF⟩]
def mfRowsA : List RegRow := [
  ⟨0x20700000, [], .ro, 0x0, 0xFF0F0000⟩,
  ⟨0x20700004, [], .ro, 0x0, 0xFFFFFFFF⟩,
  ⟨0x20700008, [], .ro, 0x0, 0xFFFF⟩,
  ⟨0x2070000C, [], .ro, 0x1, 0xF⟩,
  ⟨0x20700010, [], .ro, 0x64000C, 0xFFFFFFFF⟩,
  ⟨0x20700014, [], .ro, 0x0, 0xFFFF⟩,
  ⟨0x20700018, [], .wo, 0x0, 0x7⟩,
  ⟨0x2070001C, [], .ro, 0x0, 0xF⟩,
  ⟨0x20700020, [], .ro, 0x0, 0x800001FF⟩,
  ⟨0x20700024, [], .wo, 0x0, 0xFFFFFFFF⟩,
  ⟨0x20700028, [], .ro, 0x0, 0xFFFF⟩,
  ⟨0x2070002C, [], .ro, 0x0, 0xFF80FFFF⟩,
  ⟨0x20700030, [], .wo, 0x0, 0xF00001FF⟩,
  ⟨0x20700034, [], .ro, 0x0, 0xF40001FF⟩,
  ⟨0x20700038, [], .ro, 0x0, 0xF00001FF⟩,
  ⟨0x2070003C, [], .ro, 0xFFFFFFFF, 0xFFFFFFFF⟩]
def mfRowsB : List RegRow := [
  ⟨0x20700040, [], .rw, 0xE, 0xF⟩,
  ⟨0x20700044, [], .w1c, 0x0, 0xFF⟩,
  ⟨0x20700048, [], .rw, 0xFF, 0xFF⟩,
  ⟨0x2070004C, [], .rc, 0x0, 0xFFFFFFFF⟩,
  ⟨0x20700050, [], .w1c, 0x0, 0x1⟩,
  ⟨0x20700080, [(14, 0x4)], .ro, 0x0, 0xFFFFFFFF⟩]
def mfRows : List RegRow := mfRowsA ++ mfRowsB
def fabRows : List RegRow := [
  ⟨0x20702000, [], .ro, 0x0, 0x1⟩,
  ⟨0x20702004, [], .ro, 0x64, 0xFFFF⟩,
  ⟨0x20702008, [], .ro, 0x64, 0xFFFF⟩,
  ⟨0x2070200C, [], .w1c, 0x0, 0x3F⟩,
  ⟨0x20702010, [], .rw, 0x3F, 0x3F⟩,
  ⟨0x20702014, [], .rws, 0x0, 0xFFFFF⟩,
  ⟨0x20702018, [], .rws, 0x0, 0xFFFFF⟩,
  ⟨0x2070201C, [], .rc, 0x0, 0xFFFFFFFF⟩,
  ⟨0x20702020, [], .rc, 0x0, 0xFFFFFFFF⟩,
  ⟨0x20702024, [], .rc, 0x0, 0xFFFFFFFF⟩,
  ⟨0x20702028, [], .w1c, 0x0, 0x7⟩,
  ⟨0x2070202C, [], .ro, 0x0, 0xF⟩,
  ⟨0x20702030, [(4, 0x4)], .ro, 0x0, 0x1FFFF⟩,
  ⟨0x20702040, [], .ro, 0x0, 0xFFFFFFFF⟩]
def rulRows : List RegRow := [
  ⟨0x20704000, [], .ro, 0x0, 0xF⟩,
  ⟨0x20704004, [], .ro, 0x0, 0xFFFF⟩,
  ⟨0x20704008, [], .ro, 0x0, 0xFFFFFF⟩,
  ⟨0x2070400C, [], .ro, 0x0, 0xFFF⟩,
  ⟨0x20704010, [], .ro, 0x0, 0xFFFF⟩,
  ⟨0x20704014, [], .rc, 0x0, 0xFFFFFFFF⟩,
  ⟨0x20704018, [], .rc, 0x0, 0xFFFFFFFF⟩,
  ⟨0x2070401C, [], .w1c, 0x0, 0x3⟩,
  ⟨0x20704020, [], .rw, 0x3C0001, 0xFFFF0001⟩,
  ⟨0x20704024, [], .w1c, 0x0, 0x3F⟩,
  ⟨0x20704028, [], .rw, 0x3F, 0x3F⟩,
  ⟨0x2070402C, [], .rws, 0x0, 0xFFFFFFF0⟩,
  ⟨0x20704040, [(16, 0x4)], .ro, 0x0, 0xFFE1FFFF⟩]
def mirRowsA : List RegRow := [
  ⟨0x20706000, [], .ro, 0x0, 0xC00FFC00⟩,
  ⟨0x20706004, [], .ro, 0x0, 0xFFFFF07F⟩,
  ⟨0x20706008, [], .ro, 0x3078078, 0xFFFFFFFF⟩,
  ⟨0x2070600C, [], .ro, 0x2EE0, 0xFFFFFFFF⟩,
  ⟨0x20706010, [], .ro, 0x0, 0x3FFFFFF⟩,
  ⟨0x20706014, [], .ro, 0x0, 0xFFF⟩,
  ⟨0x20706018, [], .ro, 0x0, 0xFFC00FFF⟩,
  ⟨0x2070601C, [], .ro, 0x0, 0xFFFFFFFF⟩,
  ⟨0x20706020, [], .ro, 0x0, 0x3FFFFFF⟩,
  ⟨0x20706024, [], .ro, 0x0, 0xFFFF0000⟩,
  ⟨0x20706028, [], .ro, 0x0, 0xFFFFFFFF⟩,
  ⟨0x2070602C, [], .ro, 0x0, 0xFFFFFFFF⟩,
  ⟨0x20706030, [], .ro, 0x0, 0xFFFFFFFF⟩,
  ⟨0x20706034, [], .ro, 0x0, 0xFFFF⟩,
  ⟨0x20706038, [], .rc, 0x0, 0xFFFFFFFF⟩,
  ⟨0x2070603C, [], .rc, 0x0, 0xFFFFFFFF⟩]
def mirRowsB : List RegRow := [
  ⟨0x20706040, [], .rc, 0x0, 0xFFFFFFFF⟩,
  ⟨0x20706044, [], .rc, 0x0, 0xFFFFFFFF⟩,
  ⟨0x20706048, [], .w1c, 0x0, 0xF⟩,
  ⟨0x2070604C, [], .w1c, 0x0, 0xFF⟩,
  ⟨0x20706050, [], .rw, 0xFF, 0xFF⟩,
  ⟨0x20706054, [], .wo, 0x0, 0x3⟩]
def mirRows : List RegRow := mirRowsA ++ mirRowsB
def tagRowsA : List RegRow := [
  ⟨0x20708000, [], .ro, 0x0, 0xFFFF0000⟩,
  ⟨0x20708004, [], .ro, 0x2EE0, 0xFFFFF⟩,
  ⟨0x20708008, [], .ro, 0x4B0, 0x3FFF⟩,
  ⟨0x2070800C, [], .ro, 0x0, 0x1FFF⟩,
  ⟨0x20708010, [], .ro, 0x0, 0x3FFF0FFF⟩,
  ⟨0x20708014, [], .rc, 0x0, 0xFFFFFFFF⟩,
  ⟨0x20708018, [], .rc, 0x0, 0xFFFFFFFF⟩,
  ⟨0x2070801C, [], .rc, 0x0, 0xFFFFFFFF⟩,
  ⟨0x20708020, [], .rc, 0x0, 0xFFFFFFFF⟩,
  ⟨0x20708024, [], .rc, 0x0, 0xFFFFFFFF⟩,
  ⟨0x20708028, [], .rc, 0x0, 0xFFFFFFFF⟩,
  ⟨0x2070802C, [], .rc, 0x0, 0xFFFFFFFF⟩,
  ⟨0x20708030, [], .rc, 0x0, 0xFFFFFFFF⟩,
  ⟨0x20708034, [], .rc, 0x0, 0xFFFFFFFF⟩,
  ⟨0x20708038, [], .rc, 0x0, 0xFFFFFFFF⟩,
  ⟨0x2070803C, [], .rc, 0x0, 0xFFFFFFFF⟩]
def tagRowsB : List RegRow := [
  ⟨0x20708040, [], .rc, 0x0, 0xFFFFFFFF⟩,
  ⟨0x20708044, [], .rc, 0x0, 0xFFFFFFFF⟩,
  ⟨0x20708048, [], .rc, 0x0, 0xFFFFFFFF⟩,
  ⟨0x2070804C, [], .rc, 0x0, 0xFFFFFFFF⟩,
  ⟨0x20708050, [], .rc, 0x0, 0xFFFFFFFF⟩,
  ⟨0x20708054, [], .rc, 0x0, 0xFFFFFFFF⟩,
  ⟨0x20708058, [], .w1c, 0x0, 0x1FFFF⟩,
  ⟨0x2070805C, [], .w1c, 0x0, 0x3F⟩,
  ⟨0x20708060, [], .rw, 0x3F, 0x3F⟩,
  ⟨0x20708064, [], .rw, 0x0, 0xFFFFFFFC⟩,
  ⟨0x20708068, [], .ro, 0x0, 0xE0003FFF⟩,
  ⟨0x2070806C, [], .ro, 0x0, 0xFFFFFFFF⟩,
  ⟨0x20708070, [], .ro, 0x0, 0xFFFF⟩,
  ⟨0x20708100, [(32, 0x4)], .ro, 0x0, 0xC3FFFFFF⟩,
  ⟨0x20708180, [(16, 0x4)], .ro, 0x0, 0x83FFFFFF⟩]
def tagRows : List RegRow := tagRowsA ++ tagRowsB
def colwRows : List RegRow := [
  ⟨0x20708400, [(16, 0x40)], .ro, 0x0, 0x800003FF⟩,
  ⟨0x20708404, [(16, 0x40)], .ro, 0xFFFF, 0xFFFF⟩,
  ⟨0x20708408, [(16, 0x40), (8, 0x4)], .ro, 0x0, 0xFFFFFFFF⟩]
def mchRows : List RegRow := [
  ⟨0x20800000, [], .ro, 0x0, 0xF000003F⟩,
  ⟨0x20800004, [], .rc, 0x0, 0xFFFFFFFF⟩,
  ⟨0x20800008, [], .rc, 0x0, 0xFFFFFFFF⟩,
  ⟨0x2080000C, [], .rc, 0x0, 0xFFFFFFFF⟩,
  ⟨0x20800010, [], .rc, 0x0, 0xFFFFFFFF⟩,
  ⟨0x20800014, [], .rc, 0x0, 0xFFFFFFFF⟩,
  ⟨0x20800018, [], .w1c, 0x0, 0x1F⟩,
  ⟨0x2080001C, [], .w1c, 0x0, 0x7⟩,
  ⟨0x20800020, [], .rw, 0x7, 0x7⟩]

/-- The rows of the unit whose registers lie around an address (an address of PLD0 for the polders). -/
def unitRows (a : Nat) : List RegRow :=
  if a < 0x20105000 then
    if a < 0x20000400 then
      if a < 0x13080000 then
        if a < 0x13000000 then
          if a < 0x12880000 then nibRows else
          nibEvtRows
        else
          if a < 0x13040000 then fabPldRows else
          sluRows
      else
        if a < 0x13300000 then
          if a < 0x13100000 then gaugeRows else
          inkRows
        else
          if a < 0x20000000 then
            bruRows
          else
            if a < 0x20000200 then netRows else
            netNwRows
    else
      if a < 0x20100000 then
        if a < 0x20040000 then
          if a < 0x20008000 then netPortRows else
          flowRows
        else
          if a < 0x20050000 then
            rxfRows
          else
            if a < 0x20060000 then txfRows else
            rxmRows
      else
        if a < 0x20101200 then
          if a < 0x20101000 then refRows else
          tbRows
        else
          if a < 0x20102000 then
            tbuRows
          else
            if a < 0x20104000 then ptpRows else
            pulseRows
  else
    if a < 0x20600000 then
      if a < 0x20300000 then
        if a < 0x20200000 then
          if a < 0x20108000 then captRows else
          stkRows
        else
          if a < 0x20200100 then sapUnitRows else
          sapRows
      else
        if a < 0x20304000 then
          if a < 0x20300100 then laneUnitRows else
          laneRows
        else
          if a < 0x20400000 then
            auxRows
          else
            if a < 0x20500000 then bootRows else
            secRows
    else
      if a < 0x20704000 then
        if a < 0x20609800 then
          if a < 0x20608000 then fbRows else
          memRows
        else
          if a < 0x20700000 then
            patrolRows
          else
            if a < 0x20702000 then mfRows else
            fabRows
      else
        if a < 0x20708000 then
          if a < 0x20706000 then rulRows else
          mirRows
        else
          if a < 0x20708400 then
            tagRows
          else
            if a < 0x2070C000 then colwRows else
            mchRows


/-- Whether an offset from a row's first address is the offset of one of its registers. -/
def inDims : List (Nat × Nat) → Nat → Bool
  | [], o => o == 0
  | (c, st) :: ds, o => decide (o / st < c) && inDims ds (o % st)

/-- An address with the polder taken away: the same place in PLD0 (R527). -/
def foldPolder (a : Nat) : Nat :=
  if 0x10000000 ≤ a ∧ a < 0x20000000 then a % 0x4000000 + 0x10000000 else a

/-- The row of the register at an address, when a register lies there. -/
def regRow (a : Nat) : Option RegRow :=
  (unitRows (foldPolder a)).find? fun r =>
    decide (r.base ≤ foldPolder a) && inDims r.dims (foldPolder a - r.base)

/-- The reset value of a register (R11), 0 where no register lies. -/
def regReset (a : Nat) : Word :=
  match regRow a with
  | some r => BitVec.ofNat 32 r.reset
  | none => 0

end Sys2Proof.Machine
end

