-- ==== Sys2Proof/Machine/Bits.lean ====
section
/-! DEFINITION. Bit, byte and integer helpers that the units share. -/

namespace Sys2Proof.Machine

/-- Bit `i` of a word. -/
def bitOf {w : Nat} (x : BitVec w) (i : Nat) : Bool := x.getLsbD i

/-- The word with bit `i` set or cleared. -/
def setBit {w : Nat} (x : BitVec w) (i : Nat) (b : Bool) : BitVec w :=
  if b then x ||| BitVec.ofNat w (2 ^ i) else x &&& ~~~ BitVec.ofNat w (2 ^ i)

/-- 1 for true. -/
def b2n (b : Bool) : Nat := if b then 1 else 0

/-- How many bits of a word are 1. -/
def ones {w : Nat} (x : BitVec w) : Nat := (List.range w).countP fun i => x.getLsbD i

/-- The value of a word as a two's-complement integer. -/
def sval {w : Nat} (x : BitVec w) : Int := x.toInt

/-- A word from an integer, wrapping. -/
def wrap (w : Nat) (x : Int) : BitVec w := BitVec.ofInt w x

/-- The nearest integer in a range. -/
def clampI (lo hi x : Int) : Int := if x < lo then lo else if hi < x then hi else x

/-- Whether a value lies outside the signed range of a width. -/
def outOf (w : Nat) (x : Int) : Bool := decide (x < -(2 : Int) ^ (w - 1)) || decide ((2 : Int) ^ (w - 1) - 1 < x)

/-- Saturation to the signed range of a width. -/
def sat (w : Nat) (x : Int) : Int := clampI (-(2 : Int) ^ (w - 1)) ((2 : Int) ^ (w - 1) - 1) x

/-- Comparison of wrapping counters (R13): `a` later than `b`. -/
def laterThan {w : Nat} (a b : BitVec w) : Bool :=
  decide (1 ≤ (a - b).toNat) && decide ((a - b).toNat ≤ 2 ^ (w - 1) - 1)

/-- Division towards minus infinity with the remainder kept exact. -/
def floorDiv (a b : Int) : Int := a / b

/-- `a / b` rounded to the nearest integer, ties to even (`b` positive). -/
def roundHalfEven (a b : Int) : Int :=
  let q := a / b
  let r := a - q * b
  if 2 * r < b then q else if b < 2 * r then q + 1 else if q % 2 = 0 then q else q + 1

/-- `a / b` rounded to the nearest integer, ties away from zero (`b` positive). -/
def roundHalfAway (a b : Int) : Int :=
  if 0 ≤ a then (2 * a + b) / (2 * b) else - ((2 * (-a) + b) / (2 * b))

/-- `a / b` truncated towards zero (`b` positive). -/
def truncDiv (a b : Int) : Int := if 0 ≤ a then a / b else - ((-a) / b)

/-- The low word and the high word of a wide value. -/
def loWord {w : Nat} (x : BitVec w) : Word := BitVec.ofNat 32 x.toNat
def hiWord {w : Nat} (x : BitVec w) : Word := BitVec.ofNat 32 (x.toNat / 2 ^ 32)

/-- A wide value from its two words. -/
def joinWords (w : Nat) (hi lo : Word) : BitVec w := BitVec.ofNat w (2 ^ 32 * hi.toNat + lo.toNat)

/-- Put an element into a list before the first element that it comes before. -/
def insertBy {α : Type} (before : α → α → Bool) (x : α) : List α → List α
  | [] => [x]
  | y :: l => if before x y then x :: y :: l else y :: insertBy before x l

/-- A stable sort: elements neither of which comes before the other keep their order. -/
def sortBy {α : Type} (before : α → α → Bool) (l : List α) : List α := l.foldl (fun acc x => insertBy before x acc) []

/-- Fold a list through a state, left to right. -/
def each {α σ : Type} (l : List α) (f : α → σ → σ) (s : σ) : σ := l.foldl (fun s a => f a s) s

/-- Apply a change when a condition holds. -/
def when {σ : Type} (b : Bool) (f : σ → σ) (s : σ) : σ := if b then f s else s

end Sys2Proof.Machine
end

