-- ==== Sys2Proof/Machine/State.lean ====
section
/-! DEFINITION. The state of the block as plain data, the reasons a step can stop, and the state after
reset. Registers live in one sparse store keyed by fabric address (`State.regs`), whose default is the
reset value of the register map; SRAM bytes live in `State.mem`; what the spec gives the machine beside
its registers and memories stands in one structure per unit. -/

namespace Sys2Proof.Machine

/-- Why a step stops with a fault. -/
inductive Fault where
  /-- Raised by RESET_N_ASSERT: a RESET_N pulse of a width for which R689 leaves the outcome undefined. Safe:
  the machine stops where the spec promises nothing. -/
  | resetWidth
  deriving DecidableEq, Repr

/-- Why a command has no meaning. -/
inductive Refusal where
  /-- An arm of the dispatch whose meaning is not written. Safe. -/
  | notModelled (mnemonic : String)
  deriving DecidableEq, Repr

/-! ### Memory (spec/17_memory_protection.md) -/

/-- What distinguishes a stored SRAM word from the clean encoding of its data (R557, R566): whether the
stored-poison encoding underlies it, and which data and check bits are flipped against that encoding. -/
structure Mark where
  poison : Bool := false
  dflip : Word64 := 0
  cflip : BitVec 8 := 0
  deriving DecidableEq, Repr

/-- The state of one memory group beside its registers (R566, R569, R572, R573). -/
structure MemGroup where
  /-- data and check mask of the injection record: the syndrome that the mask alone produces -/
  recD : Word64 := 0
  recC : BitVec 8 := 0
  /-- an ARM refused under R567 that acts at the next POISED or SERVICE (R601) -/
  armLater : Bool := false
  /-- the scrub started by GO: words not yet visited lie at and above MEM_SCRUB_POS -/
  scrub : Bool := false
  /-- the address at which a patrol stands -/
  patrol : Option Nat := none
  /-- spare rows used, by repair segment (R573) -/
  used : SMap Nat := []
  /-- rows redirected to a spare, by the address of their first word (R574) -/
  rows : List Nat := []
  /-- hard words awaiting repair -/
  hard : List Nat := []
  /-- hard words found since power-up, by repair segment (R673) -/
  found : SMap Nat := []
  /-- rows repaired since the power-up of the group's domains (R576) -/
  repaired : Nat := 0
  deriving DecidableEq, Repr

/-! ### Nibs (spec/03_nib_datapath.md, spec/04_nib_instruction_set.md) -/

/-- A register value with its poison bit (R86). -/
structure PVal where
  v : Word := 0
  psn : Bool := false
  deriving DecidableEq, Repr

/-- An accumulator lane with its poison bit (R86, R93). -/
structure AccVal where
  v : BitVec 72 := 0
  psn : Bool := false
  deriving DecidableEq, Repr

/-- One register bank (R86). `s` holds the S space of R131 as an instruction reads it as data, `sa` as
address formation reads it: the two differ inside the latency windows of R158. -/
structure Bank where
  s : SMap PVal := []
  sa : SMap PVal := []
  fl : BitVec 16 := 0
  amode : Word := 0
  amodeA : Word := 0
  rmode : BitVec 2 := 0
  repc : BitVec 13 := 0
  /-- the repeated instruction's address while iterations remain (R110) -/
  repAt : Option (BitVec 13) := none
  deriving DecidableEq, Repr

/-- What a result lands in (R158): `bank` true is the shadow bank. -/
inductive Landing where
  | data (bank : Bool) (r : BitVec 6) (x : PVal)
  | addr (bank : Bool) (r : BitVec 6) (x : PVal)
  | flags (bank : Bool) (nzcv : BitVec 4) (fp : Bool)
  | sticky (bank : Bool) (bits : BitVec 16)
  | fl (bank : Bool) (x : BitVec 16)
  | amode (bank : Bool) (x : Word)
  | amodeA (bank : Bool) (x : Word)
  | rmode (bank : Bool) (x : BitVec 2)
  | epc (x : BitVec 13)
  | acMac (r : BitVec 3) (x : AccVal)
  | acExt (r : BitVec 3) (x : AccVal)
  | bexpMin (x : BitVec 6)
  | bexp (x : BitVec 6)
  deriving DecidableEq, Repr

/-- A store, HALT or FENCE that waits for posted quire SRAM stores (R85, R150, R153). -/
inductive Blocked where
  | st (ds : BitVec 5) (p : BitVec 3) (mode : MemMode) (bx : Bool)
  | stq (qs : BitVec 3) (p : BitVec 3) (mode : MemMode) (bx : Bool)
  | halt
  | fence
  deriving DecidableEq, Repr

/-- One word of a quire SRAM load that the core waits for (R85): local address, destination. -/
structure QLoad where
  addr : Nat
  dst : BitVec 6
  deriving DecidableEq, Repr

/-- A nib beside its registers of R125. Shadow is `true`. -/
structure Nib where
  run : Bool := false
  bank : Bool := false
  pc : BitVec 13 := 0
  /-- address of the instruction issuing, or of the last issued (NIB_STAT.PC) -/
  last : BitVec 13 := 0
  /-- END for the last slice (NIB_STAT.END) -/
  ended : BitVec 2 := 0
  prim : Bank := {}
  shad : Bank := {}
  epc : BitVec 13 := 0
  /-- accumulator lanes 4·X + l as QMAC reads them, and as EXT and ACST read them (R158) -/
  ac : SMap AccVal := []
  acx : SMap AccVal := []
  bexp : BitVec 6 := 31
  imask : BitVec 3 := 0
  irq : BitVec 3 := 0
  tcmp : Word := 0
  armed : Bool := false
  /-- results under way, oldest first, with the advancing cycles left -/
  flight : List (Nat × Landing) := []
  /-- delay slots still to issue, and the address that follows them when the branch is taken (R151) -/
  slots : Nat := 0
  target : Option (BitVec 13) := none
  /-- quire SRAM accesses the core waits for, in service order, each with its words -/
  loads : List (List QLoad) := []
  blocked : Option Blocked := none
  /-- posted quire SRAM stores not yet acknowledged (at most 16) -/
  posted : Nat := 0
  /-- system counter at the first cycle of the slice; NIB_CYC at the slice's end -/
  start : BitVec 64 := 0
  cyc : Word := 0
  /-- the repeated instruction's word once it has been fetched (R110) -/
  held : Option Word := none
  intVec : BitVec 13 := 0
  trapVec : BitVec 13 := 0
  /-- NIB_WARN_LEAD as the dispatch took it (R126) -/
  lead : Nat := 0
  /-- the ruling entry that dispatched the slice, and its DEADLINE -/
  entry : Nat := 0
  cutAt : Nat := 0
  deriving DecidableEq, Repr

/-! ### Stroke timer (spec/02_stroke_and_timing.md) -/

/-- Where an alignment stands (R57): none in progress, in its lengthened stroke with the number of the next, in its
fine pull. -/
inductive Align where
  | idle
  | coarse (j : Fin 4) (target : Stroke)
  | pull
  deriving DecidableEq, Repr

/-- The stroke timer (R51 to R57). -/
structure Timer where
  sysCnt : BitVec 64 := 0
  strk : Stroke := 0
  bnd : BitVec 64 := 0
  align : Align := .idle
  /-- an alignment is due and has not started -/
  due : Bool := false
  /-- STK_ALIGN_LIM and STK_STEER as the boundary took them (R74) -/
  lim : Word := 0x4CD
  steer : Word := 0x640A
  deriving DecidableEq, Repr

/-! ### Slate and ruling (spec/01_engine_architecture.md, spec/05_ruling.md) -/

/-- The claim and the STALE flag of one slot copy (R34, R36). A claim holds in the stroke that made it;
the master is 0 to 19 for a chip-level port of R503, 20 + 19·p + i for a polder-level port of PLD[p]. -/
structure SlotCopy where
  claim : Option Nat := none
  stale : Bool := false
  deriving DecidableEq, Repr

/-- An entry of the active ruling in the current stroke (R173 to R176). -/
structure EntrySt where
  started : Bool := false
  running : Bool := false
  tainted : Bool := false
  /-- rows, elements or beats done -/
  done : Nat := 0
  deriving DecidableEq, Repr

/-- A move of slice entries under preparation or in force at a quire's relief nib (R180, R184): the home
nib within the quire, whether it is a rotation step, whether the images are written, whether it commits
at the next boundary, whether the next commit moves the entries home, whether it retires the home nib (R664), and
the nib (with its retirement) whose entries move after the rotated ones have gone home (R186). -/
structure ReliefMove where
  home : Fin 16
  rotation : Bool := false
  prepared : Bool := false
  commit : Bool := false
  back : Bool := false
  retire : Bool := false
  next : Option (Fin 16 × Bool) := none
  deriving DecidableEq, Repr

/-- The ruling beside its registers. -/
structure Rul where
  /-- the rulings of the loaded folio (R163) -/
  rulings : List Ruling := []
  st : SMap EntrySt := []
  /-- the seal has stopped the ruling: no entry starts (R586) -/
  stopped : Bool := false
  /-- a tainted entry has been counted in this stroke (R176) -/
  counted : Bool := false
  /-- an entry has been cut in this stroke (R174) -/
  cut : Bool := false
  /-- the reduced ruling selected, and whether it commits at the next boundary (R188) -/
  chosen : Option Nat := none
  /-- the nibs newly given entries by the ruling chosen hold their images -/
  prepared : Bool := false
  commit : Bool := false
  moves : SMap (Option ReliefMove) := []
  /-- quires whose rotation a failed test has stopped (R185) -/
  rotFail : List Nat := []
  /-- the stroke of each quire's last rotation step (R184) -/
  stepAt : SMap (Option Stroke) := []
  /-- nibs whose retirement waits for the reduced ruling chosen (R664) -/
  retire : List (Fin 272) := []
  /-- a cause of R425 that phase 1 decides has come up -/
  cause : Bool := false
  deriving DecidableEq, Repr

/-! ### Brush engines (spec/07_brush_and_reservoir.md) -/

/-- A wide accumulator value: (-1)^neg · mant · 2^exp, with its poison and the saturations met (R203). -/
structure Dyad where
  neg : Bool
  mant : Nat
  exp : Int
  deriving DecidableEq, Repr

structure Acc where
  d : Dyad := ⟨false, 0, 0⟩
  psn : Bool := false
  sats : Nat := 0
  deriving DecidableEq, Repr

/-- An element's tails in the tail store, with the ROOT cycle at which they were complete (R245). -/
structure TailSt where
  elem : Nat
  cycle : Nat
  vals : List Acc
  deriving DecidableEq, Repr

/-- A brush engine: its tail store and the cycle at which its sweep ends, both of the stroke in hand, and whether
BRU_SWEEP_MIN has been read since it last took a slack (R262). -/
structure Bru where
  tails : List TailSt := []
  sweepEnd : Nat := 0
  minRead : Bool := false
  deriving DecidableEq, Repr

/-! ### Power domains and gates (spec/01_engine_architecture.md, spec/15_fabric_and_address_map.md) -/

/-- A switched power domain (R43, R46, R47, R520): power, sluice gate, and whether it is off for good until
the next folio load because it was cofferdammed or retired. -/
structure Dom where
  on : Bool := false
  opened : Bool := false
  /-- the gate has closed and transfers may still be in flight -/
  draining : Bool := false
  dead : Bool := false
  deriving DecidableEq, Repr

/-! ### Serial audio ports (spec/08_serial_audio_ports.md) -/

/-- A complete received frame: its number, its slots (zeros when invalid), the system counter at its leading
edge and at its completion. -/
structure SapRx where
  num : BitVec 32
  slots : List Word
  edge : BitVec 64
  done : BitVec 64
  deriving DecidableEq, Repr

/-- A transmit position and the frame that carries it: one value for each slot, first bit in bit 31, and the slots that
the mask made active when the block was fetched. -/
structure SapTx where
  num : BitVec 32
  slots : List Word
  act : Word
  deriving DecidableEq, Repr

/-- A serial audio port beside its registers. -/
structure Sap where
  /-- frames complete so far; the last complete frame is numbered one less -/
  count : BitVec 32 := 0
  frames : List SapRx := []
  good : Nat := 0
  bad : Nat := 0
  mapped : Bool := false
  /-- LOCK has set since the last release point -/
  fresh : Bool := false
  f0 : BitVec 32 := 0
  /-- frames up to this one are not placed again: a late slip's zeros (R278) -/
  usedTo : Option (BitVec 32) := none
  x : Nat := 0
  txq : List SapTx := []
  deriving DecidableEq, Repr

/-! ### Drive lanes (spec/09_drive_lanes.md) -/

/-- What the gates of a lane do in the carrier period in hand (R302, R312): both 0; centre-aligned from a duty
code; limited from a cycle of the period on, with the gate that goes to 1 (`hi`: LANEk_HI). -/
inductive Drive where
  | off
  | pwm (d : Nat)
  | limited (d : Nat) (hi : Bool) (cycle : Nat)
  deriving DecidableEq, Repr

/-- A load-sense window that runs (R323): the carrier periods so far, and the sums of the slow-path current and
voltage times sine and cosine at the pilot frequency. -/
structure LoadWin where
  t : Nat := 0
  iSin : Rat := 0
  iCos : Rat := 0
  vSin : Rat := 0
  vCos : Rat := 0
  deriving DecidableEq, Repr

/-- The causes that hold a lane in SAFE (R308, R325). -/
inductive SafeCause where
  | start
  | short
  | therm
  | sense
  deriving DecidableEq, Repr

/-- A drive lane beside its registers. -/
structure Lane where
  drive : Drive := .off
  /-- the gate that was 1 at the end of the previous period, where that period was limited (R296, R312) -/
  ended : Option Bool := none
  /-- the relay has opened within the last DT cycles, its pin still 1 (R310) -/
  opening : Bool := false
  /-- the gates modulated at the start of the period in hand (R325) -/
  ran : Bool := false
  /-- the lane has latched for DC in the period in hand (R325) -/
  dcNew : Bool := false
  causes : List SafeCause := []
  /-- the newest bits of the two sense bitstreams, newest first (R305) -/
  isd : List Bool := []
  vsd : List Bool := []
  /-- samples held for the interpolator, oldest first -/
  hist : List Word := []
  /-- the dither LFSR; `none` until the first carrier period after a folio load (R301) -/
  lfsr : Option Word := none
  errs : List Rat := []
  /-- the loop's accumulated value, and what step 4 produced for the previous period (R300) -/
  acc : Rat := 0
  step4 : Rat := 0
  /-- the rail-sag gain g (R321) -/
  sag : Rat := 1
  /-- carrier periods left of the retry ramp, and its length (R314) -/
  rampLeft : Nat := 0
  rampLen : Nat := 0
  /-- fold-back attenuation in dB (R319) -/
  fold : Rat := 0
  /-- held temperature in Q16.16 (R318) -/
  th : Option Int := none
  /-- the period in hand is limited; consecutive limited periods (R313) -/
  tripped : Bool := false
  limited : Nat := 0
  /-- the slow-path values of the previous carrier period, as Q1.31 -/
  slowI : Word := 0
  slowV : Word := 0
  /-- the DC filter's output in volts, and the carrier periods it has stayed above DC_TH (R317) -/
  dc : Rat := 0
  dcOver : Nat := 0
  /-- a short retry fell due during a thermal SAFE (R320) -/
  retryDue : Bool := false
  /-- a load-sense window runs (R322, R323) -/
  window : Option LoadWin := none
  /-- the sum of squares of the interpolated input since the last window ended, and its periods (R322) -/
  sq : Rat := 0
  sqN : Nat := 0
  calibrating : Bool := false
  /-- the sum of the current filter's output since calibration began, and its periods (R327) -/
  calSum : Int := 0
  calN : Nat := 0
  deriving DecidableEq, Repr

/-! ### Network transport (spec/10_network_transport.md) -/

/-- A joined group: the group's address and the one source it includes, 0 for any (R343). -/
structure Group where
  ipv6 : Bool
  addr : BitVec 128
  src : BitVec 128
  deriving DecidableEq, Repr

/-- What a stream frame's headers carry beside its payload (R344 to R346). -/
structure TxHdr where
  t : Nat
  stroke : Stroke
  ttl : BitVec 8
  dscp : BitVec 6
  pcp : BitVec 3
  bytes : Nat
  deriving DecidableEq, Repr

/-- A frame that a port sends. -/
inductive Frame where
  | gsf (h : TxHdr) (pkt : GsfPacket)
  | rtp (h : TxHdr) (pkt : RtpPacket)
  /-- an IGMPv3 or MLDv2 report: a state change (with the groups joined and left) or a current state -/
  | report (ipv6 change : Bool) (joined left : List Group)
  /-- an ARP reply for `ip` to an asker; the gratuitous one is a reply to all -/
  | arpReply (ip : BitVec 32) (toIp : BitVec 32) (toMac : BitVec 48)
  | arpGratuitous (ip : BitVec 32)
  /-- a Neighbour Advertisement for `ip` to an asker, or to all nodes -/
  | advert (ip : BitVec 128) (dest : Option (BitVec 128 × BitVec 48))
  | ptp (kind : PtpKind) (seq : BitVec 16) (stamp : Option PtpTime) (port : BitVec 80)
  deriving DecidableEq, Repr

/-- The merge's entry for one STROKE of one member of a GSF receive flow (R360, R361), with the packet whose
block it holds (R357): the system counter at the first copy and at each network's copy. -/
structure Copy where
  b1 : Bool
  first : BitVec 64
  a : Option (BitVec 64)
  b : Option (BitVec 64)
  pkt : GsfPacket
  released : Bool := false
  deriving DecidableEq, Repr

/-- The merge's entry for one RTP timestamp of an interop receive flow (R365): the grid sample of its first
row, and its samples as stored. -/
structure RtpCopy where
  ts : Word
  x0 : Int
  b1 : Bool
  first : BitVec 64
  a : Option (BitVec 64)
  b : Option (BitVec 64)
  rows : List (List Word)
  deriving DecidableEq, Repr

/-- A receive flow beside its registers. -/
structure RxFlow where
  copies : List Copy := []
  rtp : List RtpCopy := []
  /-- it has released from a copy since it was enabled (R348) -/
  seen : Bool := false
  /-- SEQ of the last first copy of member 0 and of member 1 (R362) -/
  seq0 : Option (BitVec 16) := none
  seq1 : Option (BitVec 16) := none
  /-- the member used at the most recent release from a copy (R419) -/
  last : Option Bool := none
  deriving DecidableEq, Repr

/-- A transmit flow beside its registers: SEQ, the latest STROKE sent since the last entry to LOAD (R351), its
relay queue (R391), rows fetched and not yet in an interop packet (R364). -/
structure TxFlow where
  seq : BitVec 16 := 0
  sent : Option Stroke := none
  relay : List RawTag := []
  rows : List (Int × List Word × Bool) := []
  deriving DecidableEq, Repr

/-- A network port: stream frames queued and not started, and the frames sent in the current stroke. -/
structure NetPort where
  queued : List Frame := []
  sent : List Frame := []
  deriving DecidableEq, Repr

/-- What a network still has to send: the second state-change reports (R343), the second announcement of a
change of active port (R339), the answers to queries with the system-counter values at which they fall due (R343). -/
structure NetNw where
  lfsr : Word := 0
  repeats : List Frame := []
  announce : Bool := false
  queries : List (Bool × GroupQuery × BitVec 64) := []
  deriving DecidableEq, Repr

/-- The network unit. -/
structure Net where
  rx : SMap RxFlow := []
  tx : SMap TxFlow := []
  ports : SMap NetPort := []
  nws : SMap NetNw := []
  /-- ALIGNED has been 1 at some boundary since the last entry to LOAD (R351) -/
  aligned : Bool := false
  deriving DecidableEq, Repr

/-! ### Margin tags (spec/11_margin_tags_and_authority.md) -/

/-- The path of a change (R395): a tag source, the management chain, a source quire. -/
inductive ChPath where
  | tag (s : Fin 32)
  | chain
  | nib (x : Fin 16)
  deriving DecidableEq, Repr

/-- A staged change (R380, R382, R384); the staging store keeps them in the order in which they were staged. -/
structure Change where
  path : ChPath
  /-- the restoration of a late revoke -/
  restore : Bool := false
  target : Word
  value : Word
  mask : Word
  apply : Stroke
  due : Stroke
  /-- of a restoration: bits a later change has altered -/
  dirty : Word := 0
  /-- its staged copy is poisoned (R386) -/
  psn : Bool := false
  deriving DecidableEq, Repr

/-- A history record (R383): the word before the write, and the bits that later changes have altered. -/
structure HistRec where
  src : Fin 32
  target : Word
  mask : Word
  apply : Stroke
  prior : Word
  dirty : Word := 0
  applied : Stroke
  deriving DecidableEq, Repr

/-- An intake record held for phase 2 of the next boundary (R389): the ruling entry that wrote it, its place in
the window, its source quire, its four words. -/
structure Intake where
  idx : Nat
  slot : Fin 256
  src : Fin 16
  words : List (Word × Bool)
  deriving DecidableEq, Repr

/-- The tag stager beside its registers. -/
structure Stager where
  staged : List Change := []
  hist : List HistRec := []
  /-- the SEQ of each source's last accepted tag (R378) -/
  seqs : SMap (Option (BitVec 16)) := []
  intake : List Intake := []
  /-- the words of the stager image that a state record has poisoned (R433, R435) -/
  imgPsn : List Nat := []
  /-- the saturating counts of the colophon since the folio load (R398) -/
  refuse : Nat := 0
  tagLate : Nat := 0
  revLate : Nat := 0
  /-- the staged changes as phase 5 latched them, and the word each path queries (R397) -/
  pend : List Change := []
  pendAddr : SMap Word := []
  /-- the colophon latched in phase 5 (R399) -/
  colophon : Colophon := ⟨0, 0, 0, 0, 0, 0, 0, 0⟩
  deriving DecidableEq, Repr

/-! ### Mirror pair (spec/12_mirror_pair.md) -/

/-- A digest the engine keeps (R418), with the ruling and PARTIAL of its stroke. -/
structure DigRec where
  stroke : Stroke
  d : Word64
  ruling : Nat
  part : Bool
  deriving DecidableEq, Repr

/-- The mirror unit beside its registers. Ages count release points of the peer flow. -/
structure Mir where
  /-- W and S of the stroke in hand (R416, R417) -/
  w : Word64 := 0
  sw : Word64 := 0
  digests : List DigRec := []
  /-- a peer LEAD copy has arrived since the last release point (R422) -/
  arrived : Bool := false
  anyArrived : Bool := false
  /-- mode, ELIG and OOS of the latest peer copy, and its age -/
  peer : Option (Nat × Bool × Bool) := none
  peerAge : Nat := 0
  /-- release points since a peer LEAD copy, and since any peer copy; `none` when there has been none -/
  leadAge : Option Nat := none
  anyAge : Option Nat := none
  /-- release points in the current mode (R421) -/
  points : Nat := 0
  /-- consecutive release points with a peer LEAD copy while in LEAD, and whether every comparison matched -/
  dual : Nat := 0
  dualOk : Bool := true
  /-- strokes since CHECK was entered (R428) -/
  since : Nat := 0
  /-- the mirror state decided for the next boundary -/
  next : Option Nat := none
  /-- records released in the previous stroke (R435) -/
  records : List RawTag := []
  /-- the words taken at the snapshot point for the state records of this stroke (R434) -/
  snap : List (Nat × Word64 × Bool) := []
  /-- a pass is being sent, and whether one has ever been -/
  sending : Bool := false
  begun : Bool := false
  /-- the stroke just ended whose D is not complete yet: number, W, S, ruling, PARTIAL (R418) -/
  ended : Option (Stroke × Word64 × Word64 × Nat × Bool) := none
  /-- indices written in sequence may go on at this PASS (R436); `none` waits for index 0 -/
  pass : Option (BitVec 16) := none
  deriving DecidableEq, Repr

/-! ### References (spec/13_references_and_cleanup.md) -/

/-- A phase sample of a reference input: its stamp in 1/64 ROOT cycle, the periods of the input counted up to there, the
evaluation that took it, and y summed up to there. -/
structure RefStamp where
  stamp : BitVec 64
  periods : Int
  eval : Nat
  ySum : Int
  deriving DecidableEq, Repr

/-- A reference input: present; its first edge of the stroke, in 1/64 ROOT cycle; present throughout the 1 s
window so far; QUALIFIED or DISQUALIFIED at some time since the folio load (R446 to R449). -/
structure RefIn where
  present : Bool := false
  edge : Option (BitVec 64) := none
  /-- the samples of the last 120 evaluations, and that of the first stroke of the 1 s window (R448) -/
  stamps : List RefStamp := []
  first : Option RefStamp := none
  whole : Bool := false
  judged : Bool := false
  deriving DecidableEq, Repr

/-- The reference unit beside its registers. Frequencies are in 2^-48. -/
structure Ref where
  ins : SMap RefIn := []
  y : Int := 0
  h : Int := 0
  /-- history entries: the boundary of the window's last stroke, mean y (R463) -/
  hist : List (BitVec 64 × Int) := []
  /-- y summed over the updates of the window so far, their number, and whether all were in TRACK with the
  active input QUALIFIED -/
  sum : Int := 0
  count : Nat := 0
  tracked : Bool := true
  /-- SEL has been committed since the active input was last chosen (R452) -/
  selNew : Bool := false
  /-- consecutive updates with a small phase error: of acquisition, of LOCKED (R458, R460) -/
  acq : Nat := 0
  lockRun : Nat := 0
  /-- the loop's bandwidth in Hz in NARROW (R459) -/
  band : Rat := 200
  /-- evaluations since power-good, and the sum of y over them -/
  evals : Nat := 0
  ySum : Int := 0
  /-- an input has become active and its offset is not absorbed yet (R461) -/
  fresh : Bool := false
  /-- strokes since entry to HOLDOVER -/
  held : Nat := 0
  /-- what the trim has moved below REF_ABSORB's resolution, in hundred-thousandths of 1/64 cycle (R462) -/
  frac : Nat := 0
  /-- HISTOK was 1 at entry to HOLDOVER -/
  heldH : Bool := false
  deriving DecidableEq, Repr

/-! ### Time bases, PTP, pulses, captures (spec/14_time_bases.md) -/

/-- A time base: its value in units of 2^-32 ns at the first cycle of triad `tri`, and the pending offset P
there (R469 to R472). RATE lies in TB_RATE. -/
structure TimeBase where
  v : Nat := 0
  p : Int := 0
  tri : Nat := 0
  deriving DecidableEq, Repr

/-- A PTP instance beside its registers (R478 to R483); times in units of 2^-32 ns. -/
structure Ptp where
  delayOk : Bool := false
  delay : Int := 0
  /-- the next measurement is discarded -/
  discard : Bool := false
  /-- consecutive offsets within LOCKTH, and beyond 4·LOCKTH -/
  good : Nat := 0
  bad : Nat := 0
  /-- a two-step Sync that waits for its Follow_Up -/
  waiting : Option PtpSync := none
  /-- the sender of the current parent's messages, and its data set -/
  parent : Option (BitVec 64 × BitVec 128) := none
  /-- of the last complete Sync, its origin time with its correction, and the base's value at its arrival -/
  sync : Option (Int × Int) := none
  /-- of the last delay request sent, its number and the base's value as it left -/
  req : Option (BitVec 16 × Int) := none
  /-- a two-step peer response that waits for its Follow_Up: the turn-around time so far, and its arrival -/
  peer : Option (BitVec 16 × Int × Int) := none
  /-- the next sequence number by message kind, and the number and stamp of the last Sync sent -/
  seqs : SMap (BitVec 16) := []
  lastSync : BitVec 16 := 0
  stamp : Option PtpTime := none
  deriving DecidableEq, Repr

/-- A pulse output: the edges passed, and the system-counter value at which the output becomes inactive. -/
structure Pulse where
  passed : Nat := 0
  ends : Option (BitVec 64) := none
  deriving DecidableEq, Repr

/-- A capture entry (R494): NS and SEC of the four bases. -/
structure CapEntry where
  rise : Bool
  sys : BitVec 64
  strk : BitVec 16
  times : List (Nat × Nat)
  deriving DecidableEq, Repr

structure Capt where
  fifo : List CapEntry := []
  last : Option (BitVec 64) := none
  deriving DecidableEq, Repr

/-! ### Modes and faults (spec/18_faults_and_modes.md) -/

/-- An entry of the containment queue (R583, R584). -/
inductive Contain where
  | nib (n : Fin 272)
  | quire (x : Fin 16)
  | polder (p : Fin 4)
  | recorded
  | retire (n : Fin 272)
  deriving DecidableEq, Repr

/-- A tide reset as R585 looks back on it: the stroke, and what it counts towards: a quire (level polder), a
polder's window (level chip), or a port of a polder. -/
inductive TideMark where
  | quire (x : Fin 16)
  | window (p : Fin 4)
  | ports (p : Fin 4)
  deriving DecidableEq, Repr

/-- A self-test that runs (R602 to R604): a nib in place, a quire's rotation step with its nib, the full test. -/
inductive TestRun where
  | inPlace (n : Fin 272)
  | rotation (q : Fin 16) (n : Fin 256)
  | full
  deriving DecidableEq, Repr

/-- The modes-and-faults unit beside its registers. -/
structure Mf where
  /-- CONTAIN raisings in arrival order (R583) -/
  queue : List Contain := []
  /-- transitions of R595 decided for the next boundary -/
  decided : List Nat := []
  /-- MF_CTL.RUN has been applied since entry to POISED (R594) -/
  run : Bool := false
  /-- MF_FAULT as phase 5 latched it (R66) -/
  summary : Word := 0
  /-- the scribe is held in reset (R586, R607) -/
  scribeHeld : Bool := true
  /-- the scribe has kicked since its release; ALIVE's level, and whether it still toggles (R589 to R591) -/
  kicked : Bool := false
  alive : Bool := false
  /-- tide resets of the last 12,000 strokes (R585) -/
  tides : List (Stroke × TideMark) := []
  /-- SERVICE was entered by a blot (R595) -/
  blotted : Bool := false
  tests : List TestRun := []
  /-- strokes in ISLAND with lock and ALIGNED = 0 (R595, transition 10) -/
  islTimer : Nat := 0
  /-- PWR_GOOD is high; ROOT runs; RESET_N is held low -/
  power : Bool := false
  root : Bool := false
  inReset : Bool := false
  deriving DecidableEq, Repr

/-! ### Boot, flash and folio (spec/19_boot_and_chain.md) -/

/-- Where the boot stands (R607, R618 to R622). -/
inductive BootStep where
  | idle
  | flashInit
  | pass1 (slot : Fin 2)
  | pass2 (slot : Fin 2)
  | validate (slot : Fin 2)
  | loaded (slot : Fin 2)
  | failed
  deriving DecidableEq, Repr

/-- A flash operation that the device works on (R626). -/
inductive FlashOp where
  | erase (addr : Nat)
  | program (addr : Nat) (words : List Word)
  deriving DecidableEq, Repr

/-- The boot and flash unit beside its registers. -/
structure Boot where
  step : BootStep := .idle
  /-- slots that have failed in this LOAD (R621) -/
  failed : List (Fin 2) := []
  /-- header of the slot in hand, its signature digest of pass 1, the OTP slot of its signer -/
  header : Option FolioHeader := none
  digest : BitVec 384 := 0
  signer : Fin 4 := 0
  /-- the sections of the folio in hand or loaded, as its flash slot holds them (R624) -/
  sections : List FolioSection := []
  /-- image reads that have failed once (R625) -/
  retries : List ImageAction := []
  /-- stroke of the last entry to LOAD (BOOT_LOADT) -/
  entry : Stroke := 0
  /-- flash pages of 256 bytes as the engine's own commands have left them, 64 words each; `none` where they have
  not been -/
  flash : SMap (Option (List Word)) := []
  /-- intervals in which the flash pins were high-impedance, open to a board-level programmer (R608) -/
  opened : Nat := 0
  op : Option FlashOp := none
  deriving DecidableEq, Repr

/-! ### Management chain (spec/19_boot_and_chain.md R627 to R638) -/

/-- A chain command taken: its frame, and the outcome of its access once it has one: status, data. -/
structure MchCmd where
  fr : MchFrame
  res : Option (Nat × Word) := none
  /-- the stroke in which a write was accepted -/
  stroke : Word := 0
  deriving DecidableEq, Repr

/-- The management chain beside its registers: commands executing, responses held, consecutive SYNCs with a valid
CRC and consecutive CRC failures (R629), whether it has had aligned traffic since power-good (R634), the frame last
sent downstream. -/
structure Mch where
  run : List MchCmd := []
  resp : List MchFrame := []
  syncs : Nat := 0
  bad : Nat := 0
  seen : Bool := false
  sent : Option MchFrame := none
  deriving DecidableEq, Repr

/-! ### Security (spec/20_security.md) -/

/-- One copy of the OTP (R639, R640). -/
structure Otp where
  root : BitVec 256 := 0
  signers : List (BitVec 384) := []
  programmed : BitVec 4 := 0
  revoked : BitVec 4 := 0
  svc : BitVec 384 := 0
  chipId : BitVec 64 := 0
  lidEn : Bool := false
  lidPol : Bool := false
  locked : Bool := false
  deriving DecidableEq, Repr

/-- The instructions of the test port (R644, R646). -/
inductive TapIr where
  | idcode
  | sample
  | chal
  | resp
  | stat
  | bypass
  | extest
  | revoke
  deriving DecidableEq, Repr

/-- The test access port: its instruction, and its data register from the first bit shifted out (R644). -/
structure Tap where
  ir : TapIr := .idcode
  dr : List Bool := []
  deriving DecidableEq, Repr

/-- The security unit beside its registers. -/
structure Sec where
  /-- key SRAM: the stream keys by index, the folio key at 256 -/
  keys : SMap (BitVec 256) := []
  /-- the two copies of the OTP -/
  otpA : Otp := {}
  otpB : Otp := {}
  tap : Tap := {}
  /-- the last challenge captured, while no response has answered it (R645) -/
  chal : Option (BitVec 384) := none
  /-- a response under verification, with the challenge that it answers -/
  verifying : Option (List Word × BitVec 384) := none
  /-- failed responses since power-good (ATTEMPT) -/
  attempts : Nat := 0
  /-- a blot runs (R649), and its start -/
  blot : Option (BitVec 64) := none
  deriving DecidableEq, Repr

/-! ### Fabric (spec/15_fabric_and_address_map.md) -/

/-- A beat of a response: its data, its poison mark, and STALE of the slot copy it was read from (R36). -/
structure RspBeat where
  w : Word64
  psn : Bool := false
  stale : Bool := false
  deriving DecidableEq, Repr

/-- A transaction outstanding at a master port: the request, what it was decoded to (the start of its target's
range, for R508) and REMAP as it was then (R528), the beats captured for its response, whether the response is dry,
how many beats of a write its target has accepted and those it has not accepted yet. -/
structure FabTx where
  req : FabReq
  tgt : Nat
  remap : Bool := false
  beats : List RspBeat
  dry : Bool
  accepted : Nat := 0
  rest : List (Word64 × BitVec 8 × Bool) := []
  deriving DecidableEq, Repr

/-- A master port: its transactions, oldest first (at most 16, R507); requests that wait at its entry, in order
(R507, R508, R514); the last response delivered. -/
structure PortSt where
  outs : List FabTx := []
  held : List FabReq := []
  last : Option FabTx := none
  deriving DecidableEq, Repr

/-- The fabric beside its registers; `coffs` holds cofferdams ordered and not yet recorded (R525). -/
structure Fab where
  ports : SMap PortSt := []
  coffs : List Contain := []
  deriving DecidableEq, Repr

/-! ### Sluice (spec/16_sluice_dma.md) -/

/-- A descriptor by its fields (R539). -/
structure Desc where
  addr : Nat
  next : Nat
  src : Nat
  dst : Nat
  len : Nat
  chained : Bool
  srel : Bool
  note : Bool
  fin : Bool
  barrier : Bool
  op : Nat
  fill : Word64
  deriving DecidableEq, Repr

/-- A sluice channel that runs a chain: the address to fetch next, the descriptor in progress and its bytes done,
the hop budget, whether the descriptor in progress is the last by the budget (R549), whether a dry response has
ended it (R551). -/
structure ChainSt where
  fetch : Option Nat := none
  desc : Option Desc := none
  pos : Nat := 0
  budget : Nat := 0
  loops : Bool := false
  dry : Bool := false
  deriving DecidableEq, Repr

/-! ### Freeboard (spec/21_freeboard_and_spares.md) -/

/-- A ledger record by its fields (R668); KIND 2 nib retired, 3 nib retirement pending, 4 row repaired, 5 snapshot,
1 sector header. -/
structure LedgerRec where
  kind : Nat
  loc : Word
  life : BitVec 64
  vdd : BitVec 16
  seq : Word
  boots : Word
  deriving DecidableEq, Repr

/-- The voltage step under way: upwards or downwards (R660), the request's retry after a fault (R661), the request of
the recorded voltage in LOAD (R670). -/
inductive VStep where
  | restore
  | raise
  | lower
  | retry
  deriving DecidableEq, Repr

/-- The freeboard unit beside its registers. -/
structure Fb where
  /-- the active sector of the ledger, oldest record first, and the flash slots that hold it -/
  ledger : List LedgerRec := []
  slots : List (Fin 2) := []
  /-- how often the ledger has gone over into its other sector -/
  turns : Nat := 0
  /-- the part of FB_LIFE below one second, and the system counter at the end of the previous read set -/
  frac : Rat := 0
  last : Option (BitVec 64) := none
  reading : Bool := false
  good : Nat := 0
  steps : Nat := 0
  step : Option VStep := none
  /-- nibs that have been raised as due, and nibs retired -/
  due : List Nat := []
  retired : List Nat := []
  /-- BOOTS, and whether this power-good still has to be counted in it -/
  boots : Word := 0
  newBoot : Bool := true
  deriving DecidableEq, Repr

/-! ### The state -/

/-- The machine. -/
structure State where
  /-- commands that wait, first in first out -/
  pending : List Instr := []
  /-- the model's own counter of free values consumed -/
  free : Nat := 0
  tim : Timer := {}
  /-- registers that do not hold their reset value -/
  regs : SMap Word := []
  /-- shadow latches of wide counters, by path and low-word address (R16): the words above the low one.
  The key is the path's number times 2^32 plus the address. -/
  latch : SMap (List Word) := []
  /-- SRAM bytes as stored, and the marks of their words -/
  mem : List Host.Cell := []
  marks : SMap Mark := []
  groups : SMap MemGroup := []
  nibs : SMap Nib := []
  /-- slot copies with a claim or STALE, keyed by copy · 16384 + slot -/
  slate : SMap SlotCopy := []
  rul : Rul := {}
  /-- INK_ROW_STATE as it stood after the previous stroke, for rows changed since, by row address (R227) -/
  inkPrev : SMap Word := []
  brus : SMap Bru := []
  /-- the elements 512·p + e that have bank 1 in the stroke that is ending (R242) -/
  bruLive : List Nat := []
  /-- power domains, keyed as `domKey` numbers them -/
  doms : SMap Dom := []
  saps : SMap Sap := []
  /-- groups whose mapping is held (R281, R282) -/
  sapHeld : List Nat := []
  /-- an alignment stroke has ended since the last release point (R280) -/
  sapRemap : Bool := false
  /-- masks written and not yet swapped in, by register address (R285) -/
  sapMasks : SMap Word := []
  lanes : SMap Lane := []
  /-- sense bitstreams that have failed and not recovered (R307) -/
  senseBad : List Sense := []
  /-- the newest bits of each auxiliary bitstream, newest first (R306) -/
  auxBits : SMap (List Bool) := []
  net : Net := {}
  stager : Stager := {}
  mir : Mir := {}
  ref : Ref := {}
  tbs : SMap TimeBase := []
  ptps : SMap Ptp := []
  pulses : SMap Pulse := []
  capts : SMap Capt := []
  /-- the entry each path's last read of CAP_POP latched, keyed by path · 8 + input (R496) -/
  capLatch : SMap (Option CapEntry) := []
  fab : Fab := {}
  /-- chains that run, by flat channel index -/
  chains : SMap ChainSt := []
  fb : Fb := {}
  sec : Sec := {}
  boot : Boot := {}
  mch : Mch := {}
  mf : Mf := {}
  deriving DecidableEq, Repr

/-! ### The state with one field replaced -/

def State.withPending (x : List Instr) (s : State) : State := { s with pending := x }
def State.withFree (x : Nat) (s : State) : State := { s with free := x }
def State.withTim (x : Timer) (s : State) : State := { s with tim := x }
def State.withRegs (x : SMap Word) (s : State) : State := { s with regs := x }
def State.withLatch (x : SMap (List Word)) (s : State) : State := { s with latch := x }
def State.withMem (x : List Host.Cell) (s : State) : State := { s with mem := x }
def State.withMarks (x : SMap Mark) (s : State) : State := { s with marks := x }
def State.withGroups (x : SMap MemGroup) (s : State) : State := { s with groups := x }
def State.withNibs (x : SMap Nib) (s : State) : State := { s with nibs := x }
def State.withSlate (x : SMap SlotCopy) (s : State) : State := { s with slate := x }
def State.withRul (x : Rul) (s : State) : State := { s with rul := x }
def State.withInkPrev (x : SMap Word) (s : State) : State := { s with inkPrev := x }
def State.withBrus (x : SMap Bru) (s : State) : State := { s with brus := x }
def State.withBruLive (x : List Nat) (s : State) : State := { s with bruLive := x }
def State.withDoms (x : SMap Dom) (s : State) : State := { s with doms := x }
def State.withSaps (x : SMap Sap) (s : State) : State := { s with saps := x }
def State.withSapHeld (x : List Nat) (s : State) : State := { s with sapHeld := x }
def State.withSapRemap (x : Bool) (s : State) : State := { s with sapRemap := x }
def State.withSapMasks (x : SMap Word) (s : State) : State := { s with sapMasks := x }
def State.withLanes (x : SMap Lane) (s : State) : State := { s with lanes := x }
def State.withSenseBad (x : List Sense) (s : State) : State := { s with senseBad := x }
def State.withAuxBits (x : SMap (List Bool)) (s : State) : State := { s with auxBits := x }
def State.withNet (x : Net) (s : State) : State := { s with net := x }
def State.withStager (x : Stager) (s : State) : State := { s with stager := x }
def State.withMir (x : Mir) (s : State) : State := { s with mir := x }
def State.withRef (x : Ref) (s : State) : State := { s with ref := x }
def State.withTbs (x : SMap TimeBase) (s : State) : State := { s with tbs := x }
def State.withPtps (x : SMap Ptp) (s : State) : State := { s with ptps := x }
def State.withPulses (x : SMap Pulse) (s : State) : State := { s with pulses := x }
def State.withCapts (x : SMap Capt) (s : State) : State := { s with capts := x }
def State.withCapLatch (x : SMap (Option CapEntry)) (s : State) : State := { s with capLatch := x }
def State.withFab (x : Fab) (s : State) : State := { s with fab := x }
def State.withChains (x : SMap ChainSt) (s : State) : State := { s with chains := x }
def State.withFb (x : Fb) (s : State) : State := { s with fb := x }
def State.withSec (x : Sec) (s : State) : State := { s with sec := x }
def State.withBoot (x : Boot) (s : State) : State := { s with boot := x }
def State.withMch (x : Mch) (s : State) : State := { s with mch := x }
def State.withMf (x : Mf) (s : State) : State := { s with mf := x }

/-- The machine right after reset (R26, R43, R607): nothing is powered beyond the root domain, every register and
every SRAM byte holds its reset value, ROOT does not run yet, the scribe is held, the mode is DARK, and no command
waits. -/
def State.reset : State := {}

end Sys2Proof.Machine
end

