-- ==== Sys2Proof/Machine/Ops.lean ====
section
/-! DEFINITION. The named operations over registers, event sources, statistics counters and SRAM. -/

namespace Sys2Proof.Machine

/-! ### Registers -/

/-- The stored word of a register (R11: its reset value until something writes it). -/
def State.reg (s : State) (a : Nat) : Word := SMap.get regReset s.regs a

/-- Store a word into a register. -/
def State.setReg (s : State) (a : Nat) (w : Word) : State :=
  s.withRegs (SMap.set regReset s.regs a w)

/-- A field of a register. -/
def State.fld (s : State) (a : Nat) (f : Fld) : Nat := f.get (s.reg a)

/-- Whether a field of a register is not 0. -/
def State.on (s : State) (a : Nat) (f : Fld) : Bool := f.on (s.reg a)

/-- Store a field of a register. -/
def State.setFld (s : State) (a : Nat) (f : Fld) (v : Nat) : State := s.setReg a (f.put (s.reg a) v)

/-- Set or clear one bit of a register. -/
def State.setRegBit (s : State) (a : Nat) (i : Nat) (b : Bool) : State := s.setReg a (setBit (s.reg a) i b)

/-- Every register from `lo` up to but not at `hi` goes to its reset value (R11), and the shadow latches of its wide
registers read 0 again (R16). -/
def State.resetRegs (lo hi : Nat) (s : State) : State :=
  (s.withRegs (SMap.clear lo hi s.regs)).withLatch
    (s.latch.filter fun (e : Nat × List Word) => !(decide (lo ≤ e.1 % 2 ^ 32) && decide (e.1 % 2 ^ 32 < hi)))

/-! ### Statistics counters (R14) -/

/-- The all-ones value of a counter. -/
def Ctr.max (c : Ctr) : Nat :=
  match regRow c.addr with
  | some r => r.mask
  | none => 2 ^ 32 - 1

/-- Count `n` more: saturating at all ones, which sets the SATURATED bit. -/
def State.bumpBy (c : Ctr) (n : Nat) (s : State) : State :=
  let v := Nat.min ((s.reg c.addr).toNat + n) c.max
  let s := s.setReg c.addr (BitVec.ofNat 32 v)
  if n ≠ 0 ∧ v = c.max then s.setRegBit c.satReg c.satBit true else s

/-- Count one more. -/
def State.bump (c : Ctr) (s : State) : State := s.bumpBy c 1

/-! ### Free values -/

/-- A value the spec leaves open, and the counter moved on. -/
def State.freshWord (s : State) : Word × State :=
  (Config.freeWord s.free, (s.withFree (s.free + 1)))

/-! ### Event sources (R578 to R583) -/

/-- The line of a GRAVE source (R579, R586). -/
def graveLine (e : Evt) : Nat :=
  if e.reg = MF_EVT_STATUS then 245
  else if e.reg = REF_EVT_STATUS then 17
  else if e.reg = SEC_EVT_STATUS then 86 + e.bit
  else 102

/-- Raise an event source whose class needs nothing more than its bits: the sticky status bit, and
MF_FAULT.DEGRADE for class DEGRADE (R582). -/
def State.mark (e : Evt) (s : State) : State :=
  let s := s.setRegBit e.reg e.bit true
  if e.cls = .degrade then s.setRegBit MF_FAULT 0 true else s

/-- Raise a CONTAIN source: its status bit, and an entry of the containment queue (R583). -/
def State.contain (e : Evt) (c : Contain) (s : State) : State :=
  let s := s.setRegBit e.reg e.bit true
  s.withMf { s.mf with queue := s.mf.queue ++ [c] }

/-! ### Modes (R592) -/

def State.mode (s : State) : Nat := s.fld MF_MODE MF_MODE_MODE

def modeDark : Nat := 0
def modeLoad : Nat := 1
def modePoised : Nat := 2
def modeLead : Nat := 3
def modeShadow : Nat := 4
def modeIsland : Nat := 5
def modeService : Nat := 6
def modeSealed : Nat := 7

/-- Decide a mode transition of R595 for the next boundary. -/
def State.decideMode (t : Nat) (s : State) : State :=
  if s.mf.decided.contains t then s else s.withMf { s.mf with decided := s.mf.decided ++ [t] }

/-- A blot has started since power-good (R649, R652). -/
def State.blotOn (s : State) : Bool := s.fld SEC_STAT SEC_STAT_BLOT != 0

/-! ### Sealing (R586) -/

def State.lane (s : State) (k : Nat) : Lane := SMap.get (fun _ => {}) s.lanes k
def State.setLane (k : Nat) (x : Lane) (s : State) : State := s.withLanes (SMap.set (fun _ => {}) s.lanes k x)

def laneDisabled : Nat := 0

/-- Store STATE, CAUSE and RLY of a lane. -/
def State.setLaneState (k st cause : Nat) (rly : Bool) (s : State) : State :=
  let s := s.setFld (LANE_STAT k) LANE_STAT_STATE st
  let s := s.setFld (LANE_STAT k) LANE_STAT_CAUSE cause
  s.setFld (LANE_STAT k) LANE_STAT_RLY (b2n rly)

/-- Every lane enters DISABLED (R311, R586). -/
def State.lanesOff (s : State) : State :=
  each (List.range 32) (fun k s =>
    let x := { s.lane k with drive := .off, ran := false, opening := s.on (LANE_STAT k) LANE_STAT_RLY, causes := [], window := none }
    (s.setLane k { x with calibrating := false }).setLaneState k laneDisabled 0 false) s

def State.pulse (s : State) (k : Nat) : Pulse := SMap.get (fun _ => {}) s.pulses k
def State.setPulse (k : Nat) (x : Pulse) (s : State) : State := s.withPulses (SMap.set (fun _ => {}) s.pulses k x)

/-- The pulse is disarmed. -/
def State.pulDisarm (k : Nat) (s : State) : State := s.setFld (PUL_STAT k) PUL_STAT_ARMED 0

/-- Every pulse is disarmed and inactive (R493). -/
def State.pulsesOff (s : State) : State :=
  each (List.range 16) (fun k s => (s.pulDisarm k).setPulse k { s.pulse k with ends := none }) s

/-- Whether a GRAVE source has been raised. -/
def State.isSealing (s : State) : Bool := s.on MF_FAULT MF_FAULT_GRAVE

/-- What the raising of a GRAVE source does within 64 ROOT cycles (R586): the ruling, the lanes, the serial ports,
the pulses, the MACs, the scribe and ALIVE stop. -/
def State.sealNow (s : State) : State :=
  let s := s.withRul { s.rul with stopped := true }
  let s := s.lanesOff.pulsesOff
  let s := s.withSaps (s.saps.map fun (e : Nat × Sap) => (e.1, { e.2 with txq := [] }))
  let s := s.withNet { s.net with ports := s.net.ports.map fun (e : Nat × NetPort) => (e.1, { e.2 with queued := [] }) }
  s.withMf { s.mf with scribeHeld := true }

/-- Raise a GRAVE source and seal (R583, R586): the status bit, MF_FAULT.GRAVE, the line of the first; transition
14 is decided. -/
def State.grave (e : Evt) (s : State) : State :=
  let s := s.setRegBit e.reg e.bit true
  let s := if s.on MF_GRAVE MF_GRAVE_VALID then s else s.setReg MF_GRAVE (BitVec.ofNat 32 (0x80000000 + graveLine e))
  if s.isSealing then s else ((s.setFld MF_FAULT MF_FAULT_GRAVE 1).sealNow).decideMode 14

/-! ### SRAM: where it lies (R25, R526, R527, R558) -/

/-- Whether an address lies in a nib window, where words have 32 bits (R78). -/
def inNibWindow (a : Nat) : Bool :=
  decide (0x12000000 ≤ foldPolder a) && decide (foldPolder a < 0x12880000)

/-- Bytes per SRAM word at an address (R25). -/
def wordLen (a : Nat) : Nat := if inNibWindow a then 4 else 8

/-- The address of the word that holds a byte. -/
def wordBase (a : Nat) : Nat := a / wordLen a * wordLen a

/-- The polder of an address in a polder window. -/
def polderOf (a : Nat) : Nat := a / 0x4000000 - 4

/-- The memory group of an SRAM address (R558); `none` where no SRAM lies. -/
def groupOf (a : Nat) : Option Nat :=
  if 0x04000000 ≤ a ∧ a < 0x04080000 then some 0
  else if 0x08000000 ≤ a ∧ a < 0x08200000 then some 0
  else if 0x10000000 ≤ a ∧ a < 0x20000000 then
    let o := a % 0x4000000
    let p := polderOf a
    if o < 0x1000000 then some (1 + p)
    else if 0x1000000 ≤ o ∧ o < 0x1800000 then some (5 + 4 * p + o / 0x200000 % 4)
    else if 0x2000000 ≤ o ∧ o < 0x2800000 then
      if o % 0x20000 < 0x8000 ∨ 0x10000 ≤ o % 0x20000 then some (5 + 4 * p + o / 0x200000 % 4) else none
    else if 0x2800000 ≤ o ∧ o < 0x2880000 then
      if o % 0x20000 < 0x8000 ∨ 0x10000 ≤ o % 0x20000 then some (5 + 4 * p + o / 0x20000 % 4) else none
    else if 0x3200000 ≤ o ∧ o < 0x3240000 then some (1 + p)
    else if 0x3310000 ≤ o ∧ o < 0x3318000 then some (1 + p)
    else if 0x3400000 ≤ o then some (1 + p)
    else none
  else none

/-- What a byte that nothing has written reads as: zero (R26), but for the two LEVEL bytes of a
crosspoint row, whose row resets to OFF (R195). -/
def memDflt (a : Nat) : Byte :=
  let o := foldPolder a
  if 0x13200000 ≤ o ∧ o < 0x13240000 ∧ (o % 16 = 9 ∨ o % 16 = 13) then 0x80 else 0

/-- The canonical form of memory: addresses strictly rising, no entry equal to what an unlisted address reads as. -/
def Memory.wf (m : List Host.Cell) : Bool := SMap.wf memDflt m

/-- A stored byte. -/
def State.byte (s : State) (a : Nat) : Byte := SMap.get memDflt s.mem a

/-- Store a byte. -/
def State.setByte (a : Nat) (b : Byte) (s : State) : State := s.withMem (SMap.set memDflt s.mem a b)

/-- `n` stored bytes from an address, little-endian (R6). -/
def State.bytesLE (s : State) (a : Nat) : Nat → Nat
  | 0 => 0
  | n + 1 => (s.byte a).toNat + 256 * s.bytesLE (a + 1) n

/-- The stored word at a word's address, as stored: no code is looked at. -/
def State.rawWord (s : State) (a : Nat) : Word64 := BitVec.ofNat 64 (s.bytesLE a (wordLen a))

/-- Store `n` bytes of a value from an address. -/
def putBytes (a : Nat) (v : Nat) : Nat → State → State
  | 0, s => s
  | n + 1, s => putBytes (a + 1) (v / 256) n (s.setByte a (BitVec.ofNat 8 v))

/-- Store a word's bytes. -/
def State.setRawWord (a : Nat) (w : Word64) (s : State) : State := putBytes a w.toNat (wordLen a) s

/-- The mark of the word at an address. -/
def State.markAt (s : State) (a : Nat) : Mark := SMap.get (fun _ => {}) s.marks a

def State.setMark (a : Nat) (m : Mark) (s : State) : State := s.withMarks (SMap.set (fun _ => {}) s.marks a m)

/-- One memory group's hidden state. -/
def State.group (s : State) (g : Nat) : MemGroup := SMap.get (fun _ => {}) s.groups g

def State.setGroup (g : Nat) (x : MemGroup) (s : State) : State :=
  s.withGroups (SMap.set (fun _ => {}) s.groups g x)

/-- Every byte from `lo` up to but not at `hi` back to its default, with clean marks (R26); an injection record there
goes with its word (R568). -/
def State.zeroMem (lo hi : Nat) (s : State) : State :=
  let s := (s.withMem (SMap.clear lo hi s.mem)).withMarks (SMap.clear lo hi s.marks)
  match groupOf lo with
  | none => s
  | some g =>
    let a := (s.reg (MEM_INJ_ADDR g)).toNat
    if s.on (MEM_FLIP_STAT g) MEM_FLIP_STAT_RECORD ∧ lo ≤ a ∧ a < hi then
      (s.setFld (MEM_FLIP_STAT g) MEM_FLIP_STAT_RECORD 0).setGroup g { s.group g with recD := 0, recC := 0 }
    else s

/-! ### Reading an SRAM word (R559 to R562, R568, R703, R704) -/

/-- The outcomes of a read. -/
inductive EccRow where
  | clean
  | corrected
  | poisoned
  | fresh
  deriving DecidableEq, Repr

/-- The row of R559 that a word's syndrome selects. -/
def eccRow (stored : Word64) (m : Mark) : EccRow :=
  let n := ones m.dflip + ones m.cflip
  if n = 0 then (if m.poison then .poisoned else .clean)
  else if m.poison = false ∧ n = 1 then .corrected
  else if m.poison = false ∧ n = 2 then .fresh
  else if m.poison = true ∧ n = 1 then .fresh
  else
    match Config.manyBitRow stored m.dflip m.cflip m.poison % 4 with
    | 0 => .clean
    | 1 => .corrected
    | 2 => .poisoned
    | _ => .fresh

/-- The data bits a correctable outcome flips back. -/
def eccFix (stored : Word64) (m : Mark) : Word64 :=
  if ones m.dflip + ones m.cflip = 1 then m.dflip
  else Config.manyBitFix stored m.dflip m.cflip m.poison

/-- What a read delivers. `stall` says that the read wrote the word back (R560). -/
structure MemRes where
  w : Word64
  psn : Bool
  row : EccRow
  inj : Bool
  deriving DecidableEq, Repr

def MemRes.stall (r : MemRes) : Bool := decide (r.row = .corrected) || decide (r.row = .fresh)

/-- Whether a group's injection record names this word with this syndrome (R568). -/
def State.injected (s : State) (g a : Nat) (m : Mark) : Bool :=
  s.on (MEM_FLIP_STAT g) MEM_FLIP_STAT_RECORD && decide ((s.reg (MEM_INJ_ADDR g)).toNat = a) &&
    decide (m.dflip = (s.group g).recD) && decide (m.cflip = (s.group g).recC)

/-- What a read of the word at a word's address delivers, the state left alone (R559). -/
def State.peek (s : State) (a : Nat) : MemRes :=
  let w := s.rawWord a
  let m := s.markAt a
  match groupOf a with
  | none => ⟨w, false, .clean, false⟩
  | some g =>
    match eccRow w m with
    | .clean => ⟨w, false, .clean, false⟩
    | .corrected => ⟨w ^^^ eccFix w m, false, .corrected, s.injected g a m⟩
    | .poisoned => ⟨w, true, .poisoned, false⟩
    | .fresh => ⟨w, true, .fresh, s.injected g a m⟩

/-- Drop a group's injection record when it names this word (R568). -/
def State.dropRecord (g a : Nat) (s : State) : State :=
  if s.on (MEM_FLIP_STAT g) MEM_FLIP_STAT_RECORD ∧ (s.reg (MEM_INJ_ADDR g)).toNat = a then
    (s.setFld (MEM_FLIP_STAT g) MEM_FLIP_STAT_RECORD 0).setGroup g { s.group g with recD := 0, recC := 0 }
  else s

/-- Whether an address lies in the mirror map or the authority map of scribe SRAM (R565). -/
def inScribeMap (a : Nat) : Bool := decide (0x04068000 ≤ a) && decide (a < 0x04080000)

/-! ### Mirror words and the causes of R425 -/

/-- Whether the engine is a mirror member (R405). -/
def State.member (s : State) : Bool := s.on MIR_CFG MIR_CFG_EN

def mirOff : Nat := 0
def mirWait : Nat := 1
def mirLead : Nat := 2
def mirSync : Nat := 3
def mirCheck : Nat := 4
def mirReady : Nat := 5

def State.mirState (s : State) : Nat := s.fld MIR_STAT MIR_STAT_STATE

/-- Decide the mirror state of the next boundary (R409). -/
def State.mirNext (x : Nat) (s : State) : State := s.withMir { s.mir with next := some x }

/-- A cause of R425: a LEAD with an eligible peer hands over; a SHADOW in CHECK or READY goes to SYNC. -/
def State.mirrorCause (s : State) : State :=
  if s.member = false then s
  else if s.mode = modeLead then
    if s.on MIR_STAT MIR_STAT_PEER_ELIG ∧ s.mf.decided.contains 5 = false then
      ((s.decideMode 5).mirNext mirSync).mark EVT_MIR_HANDOVER |>.bump CTR_MIR_ROLE_CNT
    else s
  else if s.mode = modeShadow ∧ (s.mirState = mirCheck ∨ s.mirState = mirReady) ∧ s.mir.next ≠ some mirSync then
    (s.mirNext mirSync).mark EVT_MIR_OOS
  else s

/-- The nib on which the slices of an active nib run (R70, R180): its quire's relief nib while that carries it. -/
def State.runsOn (s : State) (n : Nat) : Nat :=
  if n < 256 ∧ s.fld (RUL_RELIEF (n / 16)) RUL_RELIEF_STATE = 2 ∧ s.fld (RUL_RELIEF (n / 16)) RUL_RELIEF_HOME = n % 16 then
    256 + n / 16
  else n

/-- The nib whose window holds an address of nib program or data RAM, and the offset there. -/
def nibOfAddr (a : Nat) : Option (Nat × Nat) :=
  let o := a % 0x4000000
  let p := polderOf a
  if a < 0x10000000 ∨ 0x20000000 ≤ a ∨ o < 0x2000000 ∨ 0x2880000 ≤ o then none
  else if o < 0x2800000 then some (64 * p + o / 0x20000 % 64, o % 0x20000)
  else some (256 + 4 * p + o / 0x20000 % 4, o % 0x20000)

/-- The first address of a nib's window. -/
def nibWin (n : Nat) : Nat :=
  if n < 256 then 0x12000000 + 0x4000000 * (n / 64) + 0x20000 * (n % 64)
  else 0x12800000 + 0x4000000 * ((n - 256) / 4) + 0x20000 * ((n - 256) % 4)

/-- The mirror address of a memory address (R411): a word of nib data RAM is named in the home nib's window; none
while the slices of the nib run elsewhere. -/
def State.mirrorAddr (s : State) (a : Nat) : Option Nat :=
  match nibOfAddr a with
  | none => some a
  | some (n, o) =>
    if n < 256 then (if s.runsOn n = n then some a else none)
    else if s.fld (RUL_RELIEF (n - 256)) RUL_RELIEF_STATE = 2 then
      some (nibWin (16 * (n - 256) + s.fld (RUL_RELIEF (n - 256)) RUL_RELIEF_HOME) + o)
    else none

/-- Where a mirror address lies now: a word of nib data RAM lies with the nib that runs the slices. -/
def State.mirrorPlace (s : State) (a : Nat) : Nat :=
  match nibOfAddr a with
  | none => a
  | some (n, o) => nibWin (s.runsOn n) + o

/-- An entry of the mirror map (R410). -/
structure MirEntry where
  base : Nat
  count : Nat
  stride : Nat
  words : Nat
  deriving DecidableEq, Repr

/-- Entry `i` of the mirror map as a read of scribe SRAM delivers it. -/
def State.mirEntry (s : State) (i : Nat) : MirEntry :=
  let w0 := (s.peek (0x04068000 + 16 * i)).w.toNat
  let w1 := (s.peek (0x04068000 + 16 * i + 8)).w.toNat
  ⟨w0 % 2 ^ 32, w0 / 2 ^ 48 + 1, w0 / 2 ^ 32 % 2 ^ 16, w1 % 2 ^ 16⟩

/-- Whether an entry holds the mirror word at an aligned address. -/
def MirEntry.holds (e : MirEntry) (a : Nat) : Bool :=
  decide (e.base ≤ a) &&
    (if e.stride = 0 then decide (a < e.base + 8 * e.words)
     else decide ((a - e.base) / e.stride < e.count) && decide ((a - e.base) % e.stride < 8 * e.words))

/-- Whether an aligned mirror address is a mirror word (R410). -/
def State.inMirror (s : State) (a : Nat) : Bool :=
  (List.range (s.fld MIR_MAPN ⟨11, 0⟩)).any fun i => (s.mirEntry i).holds a

/-- The mixing function of the digest (R415). -/
def mix (z : Word64) : Word64 :=
  let z := 0xBF58476D1CE4E5B9 * (z ^^^ (z >>> 30))
  let z := 0x94D049BB133111EB * (z ^^^ (z >>> 27))
  z ^^^ (z >>> 31)

/-- h(a, d, p) of R415. -/
def mirHash (a : Nat) (d : Word64) (p : Bool) : Word64 :=
  mix (d + mix (BitVec.ofNat 64 a + (if p then 0x100000000 else 0)))

/-- The 64-bit word at an aligned address as the digest sees it: two words of a nib RAM make one. -/
def State.mirrorWord (s : State) (a : Nat) : Word64 × Bool :=
  if wordLen a = 4 then
    (BitVec.ofNat 64 (2 ^ 32 * (s.peek (a + 4)).w.toNat + (s.peek a).w.toNat), (s.peek a).psn || (s.peek (a + 4)).psn)
  else ((s.peek a).w, (s.peek a).psn)

/-- Term 1 of W for a write of the mirror word at an aligned address, `x` as written (R416). -/
def State.mirrorWrote (a : Nat) (x : Word64 × Bool) (s : State) : State :=
  match s.mirrorAddr a with
  | some m =>
    if s.inMirror m then s.withMir { s.mir with w := s.mir.w + mirHash m x.1 x.2 } else s
  | none => s

/-- The source of an inkstone or a brush engine that an uncorrectable error in one of its tables raises, whichever
reader meets it: rows (R223, R224), descriptors (R260), coefficients (R259). -/
def tableEvt (a : Nat) : Option Evt :=
  let o := foldPolder a
  let p := polderOf a
  if 0x13200000 ≤ o ∧ o < 0x13240000 then some (EVT_INK_POISON_ROW p)
  else if 0x13310000 ≤ o ∧ o < 0x13318000 then some (EVT_BRU_POISON_EL p)
  else if (0x13400000 ≤ o ∧ o < 0x13800000) ∨ (0x13C00000 ≤ o ∧ o < 0x14000000) then some (EVT_BRU_POISON_COEF p)
  else none

/-- What a fresh uncorrectable error does beyond its report: outside the two maps, one in scribe SRAM
raises EVT_MEM_SCRIBE (R565); one in the mirror map or in a mirror word is a cause of R425. -/
def State.freshHook (a : Nat) (s : State) : State :=
  let s := match tableEvt a with | some e => s.mark e | none => s
  let s := if 0x04000000 ≤ a ∧ a < 0x04080000 ∧ inScribeMap a = false then s.grave (EVT_MEM_SCRIBE 0) else s
  let s := if 0x04068000 ≤ a ∧ a < 0x04070000 then s.mirrorCause else s
  match s.mirrorAddr (a / 8 * 8) with
  | some m => if s.inMirror m then s.mirrorCause else s
  | none => s

/-- The report of a read outcome to its memory group: counters and events for a real error, EVT_MEM_INJECTED
for an injected one (R559, R568). -/
def State.eccReport (g a : Nat) (row : EccRow) (inj : Bool) (s : State) : State :=
  match row with
  | .corrected =>
    if inj then s.mark (EVT_MEM_INJECTED g) else (s.bump (CTR_MEM_CE_CNT g)).mark (EVT_MEM_CE g)
  | .fresh =>
    (if inj then s.mark (EVT_MEM_INJECTED g) else (s.bump (CTR_MEM_UE_CNT g)).mark (EVT_MEM_UE g)).freshHook a
  | _ => s

/-- The write-back of a read outcome (R559, R560, R561): the corrected encoding, or the stored-poison
encoding of the data as read; the injection record of the word clears (R568). -/
def State.writeBack (a : Nat) (r : MemRes) (s : State) : State :=
  match groupOf a, r.row with
  | some g, .corrected => ((s.setRawWord a r.w).setMark a {}).dropRecord g a
  | some g, .fresh => (s.setMark a { poison := true }).dropRecord g a
  | _, _ => s

/-- A read of the SRAM word at a word's address, by any reader: delivered data, report and write-back. -/
def State.readWord (a : Nat) (s : State) : MemRes × State :=
  let r := s.peek a
  match groupOf a with
  | none => (r, s)
  | some g => (r, (s.writeBack a r).eccReport g a r.row r.inj)

/-! ### Writing an SRAM word (R563, R566) -/

/-- Whether the group's armed flip mask takes a write to this word (R566). -/
def State.flipTakes (s : State) (g a : Nat) : Bool :=
  s.on (MEM_FLIP_STAT g) MEM_FLIP_STAT_ARMED &&
    (!bitOf (s.reg (MEM_FLIP_ADDR g)) 0 ||
      decide (wordBase ((s.reg (MEM_FLIP_ADDR g)).toNat / 4 * 4) = a))

/-- The data and check flips of a group's mask for a word (R566). -/
def State.flipMask (s : State) (g a : Nat) : Word64 × BitVec 8 :=
  let lo := (s.reg (MEM_FLIP_DLO g)).toNat
  let hi := (s.reg (MEM_FLIP_DHI g)).toNat
  let c := (s.reg (MEM_FLIP_CHK g)).toNat
  if wordLen a = 4 then (BitVec.ofNat 64 lo, BitVec.ofNat 8 (c % 128))
  else (BitVec.ofNat 64 (2 ^ 32 * hi + lo), BitVec.ofNat 8 c)

/-- Store a word with its encoding; `psn` stores the stored-poison encoding, `carries` says that the write
itself carried poison, which neither takes the mask nor clears ARMED (R566). -/
def State.storeWord (a : Nat) (w : Word64) (psn carries : Bool) (s : State) : State :=
  match groupOf a with
  | none => s
  | some g =>
    let s := s.dropRecord g a
    if carries = false ∧ s.flipTakes g a = true then
      let (d, c) := s.flipMask g a
      let s := (s.setRawWord a (w ^^^ d)).setMark a ⟨psn, d, c⟩
      let s := s.setFld (MEM_FLIP_STAT g) MEM_FLIP_STAT_ARMED 0
      let s := s.setFld (MEM_FLIP_STAT g) MEM_FLIP_STAT_RECORD 1
      let s := s.setReg (MEM_INJ_ADDR g) (BitVec.ofNat 32 a)
      s.setGroup g { s.group g with recD := d, recC := c }
    else (s.setRawWord a w).setMark a { poison := psn }

/-- The bits of a word that byte enables select. -/
def byteMask (be : BitVec 8) : Word64 :=
  BitVec.ofNat 64 ((List.range 8).foldl (fun acc i => if be.getLsbD i then acc + 255 * 256 ^ i else acc) 0)

/-- A write of the enabled bytes of the word at a word's address (R563). A write to a 64-bit memory is a write of
a mirror word where one lies there (R416); those to nib RAM are told by the unit that makes them. -/
def State.writeWord (a : Nat) (w : Word64) (be : BitVec 8) (psn : Bool) (s : State) : State :=
  let full : BitVec 8 := if wordLen a = 4 then 15 else 255
  let (x, p, s) :=
    if be &&& full = full then (w, psn, s)
    else
      let (r, s) := s.readWord a
      let m := byteMask be
      ((r.w &&& ~~~ m) ||| (w &&& m), r.psn || psn, s)
  let s := s.storeWord a x p psn
  if wordLen a = 8 then s.mirrorWrote a (x, p) else s

/-- A write of one aligned 32-bit word, a partial write of a 64-bit memory. -/
def State.writeWord32 (a : Nat) (w : Word) (psn : Bool) (s : State) : State :=
  if wordLen a = 4 then s.writeWord a (w.setWidth 64) 15 psn
  else if a % 8 = 0 then s.writeWord a (w.setWidth 64) 15 psn
  else s.writeWord (a - 4) (BitVec.ofNat 64 (2 ^ 32 * w.toNat)) 240 psn

/-- A read of one aligned 32-bit word: a word of a 64-bit memory takes its 64-bit word's poison (R564). -/
def State.readWord32 (a : Nat) (s : State) : (Word × Bool × Bool) × State :=
  if wordLen a = 4 ∨ a % 8 = 0 then
    let (r, s) := s.readWord a
    ((r.w.setWidth 32, r.psn, r.stall), s)
  else
    let (r, s) := s.readWord (a - 4)
    ((BitVec.ofNat 32 (r.w.toNat / 2 ^ 32), r.psn, r.stall), s)

end Sys2Proof.Machine
end

