-- ==== Sys2Proof/Machine/Entries.lean ====
section
/-! DEFINITION. Ruling entries by their fields, the slate's claims and STALE flags, and the taint rules of
spec/05_ruling.md that more than one unit uses. -/

namespace Sys2Proof.Machine

/-! ### Entry fields (R167, R168) -/

/-- Bits hi to lo of a word as a number. -/
def bits (w : Word) (hi lo : Nat) : Nat := w.toNat / 2 ^ lo % 2 ^ (hi + 1 - lo)

def eType (e : Entry) : Nat := bits e.w0 31 28
def eUnit (e : Entry) : Nat := bits e.w0 23 16
def eNotify (e : Entry) : Bool := bitOf e.w0 1
def eChained (e : Entry) : Bool := bitOf e.w0 0
def eStart (e : Entry) : Nat := bits e.w1 16 0
def eDeadline (e : Entry) : Nat := bits e.w2 16 0
def eIvec (e : Entry) : Nat := bits e.w3 28 16
def eEntry (e : Entry) : Nat := bits e.w3 12 0
def eRmode (e : Entry) : Nat := bits e.w4 17 16
def eTvec (e : Entry) : Nat := bits e.w4 12 0
def eCarryLen (e : Entry) : Nat := bits e.w5 25 16
def eCarryBase (e : Entry) : Nat := bits e.w5 11 0
def eSrc (e : Entry) : Nat := e.w3.toNat
def eDst (e : Entry) : Nat := e.w4.toNat
def eLen (e : Entry) : Nat := bits e.w5 15 0
/-- FIRST and COUNT of an INK entry, a BRU entry, an IDLE entry. -/
def eFirst (e : Entry) : Nat := bits e.w3 13 0
def eCount (e : Entry) : Nat := bits e.w4 14 0
/-- The entry indices of an entry's dependencies. -/
def eDeps (e : Entry) : List Nat :=
  [bits e.w6 15 0, bits e.w6 31 16, bits e.w7 15 0, bits e.w7 31 16].filter fun d => d != 0xFFFF

/-- The flat channel index of a SLU entry. -/
def eChan (e : Entry) : Nat := 16 * (eUnit e / 64) + eUnit e % 16

/-- The polder of an entry: of a NIB entry's nib, of a SLU entry's sluice, of an INK or BRU entry. -/
def ePolder (e : Entry) : Nat :=
  if eType e = 1 then eUnit e / 64 else if eType e = 2 then eUnit e / 64 else eUnit e % 4

/-! ### Rulings (R165) -/

def rulCount (r : Ruling) : Nat := bits r.h0 31 16
def rulIndex (r : Ruling) : Nat := bits r.h0 2 0
def rulPrep (r : Ruling) : Nat := bits r.h4 15 0

/-- The quires a ruling excludes, a bit for 4·p + q; an excluded polder excludes its four (R166). -/
def rulExcl (r : Ruling) : BitVec 16 :=
  let pq := (List.range 4).foldl (fun acc p => if bitOf r.h1 (16 + p) then acc + 15 * 16 ^ p else acc) 0
  BitVec.ofNat 16 (bits r.h1 15 0) ||| BitVec.ofNat 16 pq

/-- The active ruling (R163). -/
def State.ruling (s : State) : Option Ruling :=
  s.rul.rulings.find? fun r => rulIndex r == s.fld RUL_ACTIVE RUL_ACTIVE_INDEX

/-- The entries of a ruling: COUNT of them (R165). -/
def rulEntries (r : Ruling) : List Entry := r.entries.take (rulCount r)

/-- The entries of the active ruling. -/
def State.entries (s : State) : List Entry :=
  match s.ruling with
  | some r => rulEntries r
  | none => []

def State.entry (s : State) (i : Nat) : Option Entry := s.entries[i]?

def State.entrySt (s : State) (i : Nat) : EntrySt := SMap.get (fun _ => {}) s.rul.st i

def State.setEntrySt (i : Nat) (x : EntrySt) (s : State) : State :=
  s.withRul { s.rul with st := SMap.set (fun _ => {}) s.rul.st i x }

/-! ### Modes in which units run -/

/-- The modes in which the ruling runs (R164, R592). -/
def State.rulingRuns (s : State) : Bool :=
  (s.mode == modePoised || s.mode == modeLead || s.mode == modeShadow || s.mode == modeIsland) && !s.rul.stopped

/-- The modes in which input units write the slate (R164). -/
def State.inputsWrite (s : State) : Bool := s.rulingRuns || ((s.mode == modeService || s.mode == modeLoad) && !s.rul.stopped && !s.mf.tests.contains .full)

/-- LEAD, SHADOW and ISLAND. -/
def State.live (s : State) : Bool := s.mode == modeLead || s.mode == modeShadow || s.mode == modeIsland

/-- The modes in which outputs are muted (R593). -/
def State.muted (s : State) : Bool := s.mode == modePoised || s.mode == modeService

/-- Samples per stroke at the folio's rate (R49). -/
def State.samples (s : State) : Nat :=
  match s.fld STK_CFG STK_CFG_RATE with
  | 0 => 4
  | 1 => 8
  | _ => 16

/-- The sample period in ROOT cycles (R49). -/
def State.samplePeriod (s : State) : Nat := 102400 / s.samples

/-- Move the system counter to a ROOT cycle of the current stroke, never back. -/
def State.atRoot (c : Nat) (s : State) : State :=
  let t := s.tim.bnd + BitVec.ofNat 64 c
  if (s.tim.sysCnt - s.tim.bnd).toNat < c then s.withTim { s.tim with sysCnt := t } else s

/-- The ROOT cycle within the current stroke (STK_PHASE). -/
def State.phase (s : State) : Nat := (s.tim.sysCnt - s.tim.bnd).toNat

/-! ### Power domains (R43 to R47) -/

/-- The key of a domain. -/
def domKey (d : Domain) : Nat :=
  match d with
  | .net i => i.val
  | .sap => 4
  | .lane => 5
  | .pld p => 6 + p.val
  | .qre q => 10 + q.val
  | .nib n => 26 + n.val

def State.dom (s : State) (k : Nat) : Dom := SMap.get (fun _ => {}) s.doms k
def State.setDom (k : Nat) (x : Dom) (s : State) : State := s.withDoms (SMap.set (fun _ => {}) s.doms k x)

/-- Whether a domain's sluice gate is open. -/
def State.isOpen (s : State) (k : Nat) : Bool := (s.dom k).opened

/-! ### The slate (R28 to R37) -/

/-- The address of word `k` of a slot copy. -/
def slotAddr (copy slot k : Nat) : Nat := 0x08000000 + 0x100000 * copy + 0x40 * slot + k * 4

def slotKey (copy slot : Nat) : Nat := 16384 * copy + slot

def State.slot (s : State) (copy slot : Nat) : SlotCopy := SMap.get (fun _ => {}) s.slate (slotKey copy slot)

def State.setSlot (copy slot : Nat) (x : SlotCopy) (s : State) : State :=
  s.withSlate (SMap.set (fun _ => {}) s.slate (slotKey copy slot) x)

/-- The copy that writes of the current stroke go to (R31). -/
def State.curCopy (s : State) : Nat := s.tim.strk.toNat % 2

/-- The copy that a read of a kind goes to (R32). -/
def State.readCopy (s : State) (chained : Bool) : Nat := if chained then s.curCopy else 1 - s.curCopy

/-- Set STALE on a slot copy. -/
def State.setStale (copy slot : Nat) (s : State) : State :=
  s.setSlot copy slot { s.slot copy slot with stale := true }

/-- Whether an IDLE entry of the active ruling marks a slot idle (R35, R169). -/
def State.idleSlot (s : State) (slot : Nat) : Bool :=
  s.entries.any fun e => decide (eType e = 5) && decide (eFirst e ≤ slot) && decide (slot < eFirst e + eCount e)

/-- What a read of a slot copy brings: the sample words 0 to S − 1 with their poison, and STALE. -/
structure Block where
  words : List (Word × Bool)
  stale : Bool
  deriving DecidableEq, Repr

/-- A block of zeros. -/
def zeroBlock (n : Nat) (stale : Bool) : Block := ⟨List.replicate n (0, false), stale⟩

/-- Sample `k` of a block; zero past its end (R30). -/
def Block.word (b : Block) (k : Nat) : Word := (b.words.getD k (0, false)).1
def Block.psn (b : Block) (k : Nat) : Bool := (b.words.getD k (0, false)).2

/-- Read consecutive 32-bit words from a memory address through the code. -/
def readWords (a : Nat) : Nat → State → List (Word × Bool) × State
  | 0, s => ([], s)
  | n + 1, s =>
    let (r, s) := s.readWord32 a
    let (l, s) := readWords (a + 4) n s
    ((r.1, r.2.1) :: l, s)

/-- The slot copy's block for a reader (R30, R35, R36): an unclaimed copy gives zeros, with STALE unless the
slot is idle, and raises EVT_SLATE_UNWRITTEN except for a cofferdammed reader, an idle slot, or in a mode
without ruling (R164). -/
def State.readBlock (copy slot : Nat) (coffered : Bool) (s : State) : Block × State :=
  let x := s.slot copy slot
  match x.claim with
  | some _ =>
    let (l, s) := readWords (slotAddr copy slot 0) s.samples s
    (⟨l, x.stale⟩, s)
  | none =>
    let idle := s.idleSlot slot
    let quiet := idle || coffered || !s.rulingRuns
    (zeroBlock s.samples (!idle), if quiet then s else s.mark EVT_SLATE_UNWRITTEN)

/-- The source block of a row or of an element: an idle slot reads as zeros without STALE, whatever has been written to it
(R222, R255). -/
def State.readSource (chained : Bool) (slot : Nat) (s : State) : Block × State :=
  if s.idleSlot slot then (zeroBlock s.samples false, s) else s.readBlock (s.readCopy chained) slot false

/-- Whether a write beat of a master is accepted by a slot copy; the first claims it (R34). A beat of another
master is dropped and raises EVT_SLATE_CLAIM. -/
def State.claimSlot (copy slot master : Nat) (s : State) : Bool × State :=
  let x := s.slot copy slot
  match x.claim with
  | none => (true, s.setSlot copy slot { x with claim := some master })
  | some m => if m = master then (true, s) else (false, s.mark EVT_SLATE_CLAIM)

/-- Write consecutive 32-bit words, each poisoned or not, two to a beat: a beat is poisoned when either of its
words is (R564). -/
def writeBeats (a : Nat) : List (Word × Bool) → State → State
  | [], s => s
  | [x], s => s.writeWord a (BitVec.ofNat 64 x.1.toNat) 15 x.2
  | x :: y :: l, s =>
    writeBeats (a + 8) l (s.writeWord a (BitVec.ofNat 64 (2 ^ 32 * y.1.toNat + x.1.toNat)) 255 (x.2 || y.2))

/-- A unit writes its block of a slot copy: words 0 to S − 1 (R30), claimed for the master; `stale` goes with
the first beat. -/
def State.writeBlock (copy slot master : Nat) (words : List (Word × Bool)) (stale : Bool) (s : State) : State :=
  let (ok, s) := s.claimSlot copy slot master
  if ok then
    let s := writeBeats (slotAddr copy slot 0) (words.take s.samples) s
    if stale then s.setStale copy slot else s
  else s

/-! ### Taint (R175, R176) -/

/-- The slate slots an entry writes: of a SLU entry whose DST is a slate address, of an INK or BRU entry by
its rows' buses or its elements' outputs, which the owning unit gives. -/
def sluSlots (e : Entry) : List Nat :=
  let d := eDst e
  if 0x08000000 ≤ d ∧ d < 0x08200000 then
    let s0 := d % 0x100000 / 0x40
    (List.range (eLen e)).map (s0 + ·)
  else []

/-- Count the stroke's first tainted entry (R176). -/
def State.countTaint (s : State) : State :=
  if s.rul.counted then s
  else
    let s := s.withRul { s.rul with counted := true }
    (s.bump CTR_RUL_TAINT_CNT).mark EVT_RUL_TAINT

/-- Mark an entry tainted. -/
def State.taintEntry (i : Nat) (s : State) : State :=
  (s.setEntrySt i { s.entrySt i with tainted := true }).countTaint

/-- Set STALE on a list of slots in the current copy. -/
def State.staleSlots (l : List Nat) (s : State) : State :=
  each l (fun x s => s.setStale s.curCopy x) s

/-- Whether a dependency of an entry is tainted in this stroke (R175). -/
def State.depTainted (s : State) (e : Entry) : Bool := (eDeps e).any fun d => (s.entrySt d).tainted

end Sys2Proof.Machine
end

