-- ==== Sys2Proof/Machine/AddrMap.lean ====
section
/-! DEFINITION. The address map of spec/15_fabric_and_address_map.md (R526 to R528): what each fabric address
decodes to. -/

namespace Sys2Proof.Machine

/-- The register blocks outside the polder windows, each from its first address up to but not at its end. -/
def chipBlocks : List (Nat × Nat) := [
  (0x20000000, 0x20000180), (0x20000200, 0x20000800), (0x20008000, 0x20028000), (0x20040000, 0x20054000),
  (0x20060000, 0x20064000), (0x20100000, 0x201000E0), (0x20101000, 0x2010120C), (0x20102000, 0x20102200),
  (0x20104000, 0x20104400), (0x20105000, 0x20105400), (0x20108000, 0x2010803C), (0x20200000, 0x20200080),
  (0x20200100, 0x20201100), (0x20300000, 0x20302100), (0x20304000, 0x20304084), (0x20400000, 0x20400200),
  (0x20500000, 0x20501000), (0x20600000, 0x20600100), (0x20608000, 0x20609500), (0x20609800, 0x20609804),
  (0x20700000, 0x20700100), (0x20702000, 0x20702100), (0x20704000, 0x20704080), (0x20706000, 0x20706100),
  (0x20708000, 0x20708800), (0x20800000, 0x20800100)]

/-- The register blocks of a polder window, by offset from its start. -/
def polderBlocks : List (Nat × Nat) := [
  (0x3000000, 0x3000100), (0x3040000, 0x3040500), (0x3080000, 0x3080210), (0x3100000, 0x3100140),
  (0x3300000, 0x3301400)]

def inBlocks (l : List (Nat × Nat)) (a : Nat) : Bool := l.any fun b => decide (b.1 ≤ a) && decide (a < b.2)

/-- Whether an address lies in the register block of a nib (R78), 64 bytes from window offset 0x8000. -/
def inNibRegs (a : Nat) : Bool :=
  let o := a % 0x4000000
  decide (0x10000000 ≤ a) && decide (a < 0x20000000) && decide (0x2000000 ≤ o) && decide (o < 0x2880000) &&
    decide (0x8000 ≤ o % 0x20000) && decide (o % 0x20000 < 0x8040)

/-- Whether an address lies in the nib event block of a quire (R127). -/
def inNibEvt (a : Nat) : Bool :=
  let o := a % 0x4000000
  decide (0x10000000 ≤ a) && decide (a < 0x20000000) && decide (0x2880000 ≤ o) && decide (o < 0x2884000) &&
    decide (o % 0x1000 < 0x20)

/-- Whether an address lies in a register block. -/
def inRegs (a : Nat) : Bool :=
  inBlocks chipBlocks a || inNibRegs a || inNibEvt a ||
    (decide (0x10000000 ≤ a) && decide (a < 0x20000000) && inBlocks polderBlocks (a % 0x4000000))

/-- What an address decodes to. -/
inductive Target where
  /-- boot ROM, at an offset -/
  | rom (o : Nat)
  /-- scribe SRAM; the address is its address with REMAP = 0 -/
  | scribe (a : Nat)
  /-- a slot copy -/
  | slate (a : Nat)
  /-- polder SRAM -/
  | sram (a : Nat)
  | regs (a : Nat)
  | intake (a : Nat)
  | image (a : Nat)
  | keys (a : Nat)
  | flash (o : Nat)
  deriving DecidableEq, Repr

/-- Decode an address under the map (R526, R527, R643); `none` where it does not decode. Scribe SRAM bytes keep
their place in the model's memory whichever window reaches them. -/
def decodeAt (remap : Bool) (a : Nat) : Option Target :=
  if a < 0x20000 then some (if remap then .scribe (0x04000000 + a) else .rom a)
  else if 0x04000000 ≤ a ∧ a < 0x04020000 then some (if remap then .rom (a % 0x04000000) else .scribe a)
  else if 0x04020000 ≤ a ∧ a < 0x04080000 then some (.scribe a)
  else if 0x08000000 ≤ a ∧ a < 0x08200000 then some (.slate a)
  else if 0x40000000 ≤ a ∧ a < 0x50000000 then some (.flash (a % 0x10000000))
  else if 0x2070C000 ≤ a ∧ a < 0x2070D000 then some (.intake a)
  else if 0x20710000 ≤ a ∧ a < 0x20750000 then some (.image a)
  else if 0x20510000 ≤ a ∧ a < 0x20512100 then some (.keys a)
  else if inRegs a then some (.regs a)
  else if (groupOf a).isSome then some (.sram a)
  else none

/-- What an address decodes to now. -/
def State.target (s : State) (a : Nat) : Option Target := decodeAt (s.on (FAB_CTL 0) FAB_CTL_REMAP) a

/-- Whether an address decodes. -/
def State.decodes (s : State) (a : Nat) : Bool := (s.target a).isSome

/-! ### Values that a register takes (R74, R331, R497) -/

/-- The fields of a register that take the nearest limit for a value outside their range, with the range. -/
def fieldLimits (a : Nat) : List (Fld × Nat × Nat) :=
  let k := a / 0x100 % 0x100 - 1
  if a = STK_STEER then [(STK_STEER_POISED_PPM, 1, 100), (STK_STEER_RUN_PPM, 1, 100)]
  else if 0x20300100 ≤ a ∧ a < 0x20302100 then
    if a = LANE_ILIM k then [(LANE_ILIM_ILIM, 1, 4095)]
    else if a = LANE_DC k then [(LANE_DC_DC_T, 1, 255)]
    else if a = LANE_THERM k then [(LANE_THERM_HYS, 1, 20), (LANE_THERM_FBMAX, 0, 24)]
    else if a = LANE_SAG k then [(LANE_SAG_FRAC, 50, 100), (LANE_SAG_ATK, 1, 255), (LANE_SAG_REL, 1, 10000)]
    else if a = LANE_RETRY k then [(LANE_RETRY_WAIT, 10, 60000)]
    else if a = LANE_RAMP k then [(LANE_RAMP_RAMP, 1, 10000), (LANE_RAMP_START, 0, 60), (LANE_RAMP_RLYSET, 1, 255)]
    else if a = LANE_LS k then [(LANE_LS_PILOT, 20, 60), (LANE_LS_FREQ, 5, 20)]
    else []
  else if 0x20101000 ≤ a ∧ a < 0x20101200 then
    let i := a / 0x80 % 32
    if a = TB_SLEW i then [(TB_SLEW_SLEWMAX, 1, 1048576)]
    else if a = TB_SET_NS i then [(TB_SET_NS_NS, 0, 999999999)]
    else []
  else []

/-- A field moved to the nearest limit of its range. -/
def clampFld (x : Fld × Nat × Nat) (w : Word) : Word := x.1.put w (Nat.max x.2.1 (Nat.min x.2.2 (x.1.get w)))

def clampWord (a : Nat) (w : Word) : Word := (fieldLimits a).foldl (fun w x => clampFld x w) w

end Sys2Proof.Machine
end

