-- ==== Sys2Proof/Machine/Tag.lean ====
section
/-! DEFINITION. The authority map, the staging of changes and the judgement of margin tags
(spec/11_margin_tags_and_authority.md). -/

namespace Sys2Proof.Machine

/-! ### The authority map (R392 to R395) -/

/-- An entry of the authority map. -/
structure AuthEntry where
  base : Nat
  count : Nat
  stride : Nat
  owner : Nat
  pulse : Bool
  group : Nat
  quire : Nat
  words : Nat
  deriving DecidableEq, Repr

/-- Entry `i` as its two words of scribe SRAM give it. -/
def authOf (w0 w1 : Nat) : AuthEntry :=
  ⟨w0 % 2 ^ 32, w0 / 2 ^ 48 + 1, w0 / 2 ^ 32 % 2 ^ 16, w1 / 2 ^ 30 % 4, decide (w1 / 2 ^ 29 % 2 = 1), w1 / 2 ^ 24 % 16,
    w1 / 2 ^ 20 % 16, w1 % 2 ^ 16⟩

/-- The address of entry `i`. -/
def authAddr (i : Nat) : Nat := 0x04070000 + 16 * i

def State.authEntry (s : State) (i : Nat) : AuthEntry :=
  authOf (s.peek (authAddr i)).w.toNat (s.peek (authAddr i + 8)).w.toNat

/-- Whether an entry's items hold the word at an address. -/
def AuthEntry.holds (e : AuthEntry) (a : Nat) : Bool :=
  decide (e.base ≤ a) &&
    (if e.count = 1 then decide (a < e.base + 4 * e.words)
     else decide ((a - e.base) / e.stride < e.count) && decide ((a - e.base) % e.stride < 4 * e.words))

/-- The entry that holds a word. -/
def State.authFind (s : State) (a : Nat) : Option Nat :=
  (List.range (s.fld AUTH_CFG ⟨12, 0⟩)).find? fun i => (s.authEntry i).holds a

/-- Whether a word lies in an item of the map (R68). -/
def State.isItem (s : State) (a : Nat) : Bool := (s.authFind a).isSome

/-- The entry that holds a word as a judgement reads it, through the code; `none` outside every item or where
the entry reads poisoned (R565). -/
def State.authRead (a : Nat) (s : State) : Option AuthEntry × State :=
  match s.authFind a with
  | none => (none, s)
  | some i =>
    let (r0, s) := s.readWord (authAddr i)
    let (r1, s) := s.readWord (authAddr i + 8)
    (if r0.psn || r1.psn then none else some (authOf r0.w.toNat r1.w.toNat), s)

/-- Whether a path may change an item (R395). -/
def State.permits (s : State) (p : ChPath) (e : AuthEntry) : Bool :=
  match p with
  | .tag src => decide (e.owner = 1) && bitOf (s.reg (TAG_SRC src)) e.group
  | .chain => decide (e.owner = 2)
  | .nib x => decide (e.owner = 3) && decide (e.quire = x.val)

/-- The refusal of a change that is not permitted (R395). -/
def State.authRefuse (p : ChPath) (s : State) : State :=
  let c := match p with
    | .tag _ => CTR_AUTH_REFUSE_TAG
    | .chain => CTR_AUTH_REFUSE_CHAIN
    | .nib _ => CTR_AUTH_REFUSE_NIB
  let s := (s.bump c).mark EVT_TAG_REFUSE
  s.withStager { s.stager with refuse := Nat.min (s.stager.refuse + 1) 0xFFFF }

/-- Whether a change by a path is permitted; refused and counted where it is not. -/
def State.authJudge (p : ChPath) (a : Nat) (s : State) : Bool × State :=
  let (e, s) := s.authRead a
  match e with
  | some e => if s.permits p e then (true, s) else (false, s.authRefuse p)
  | none => (false, s.authRefuse p)

/-! ### The staging store (R385, R702) -/

/-- A change refused for CAP; it is also a cause of R425. -/
def State.capRefuse (s : State) : State := ((s.bump CTR_TAG_CAP).mark EVT_TAG_CAP).mirrorCause

/-- Whether the staging store is full. -/
def State.storeFull (s : State) : Bool := decide (8192 ≤ s.stager.staged.length)

/-- Put a change into the staging store. -/
def State.stage (c : Change) (s : State) : State :=
  s.withStager { s.stager with staged := s.stager.staged ++ [c] }

/-- A staged write of a path that has no apply stroke: due at the next boundary (R67). -/
def State.stageNext (p : ChPath) (a : Nat) (value mask : Word) (s : State) : State :=
  s.stage { path := p, target := BitVec.ofNat 32 a, value := value, mask := mask, apply := s.tim.strk + 1, due := s.tim.strk + 1 }

/-! ### Margin tags (R372 to R383) -/

def tagTarget (t : RawTag) : Word := t.w0
def tagValue (t : RawTag) : Word := t.w1
def tagMask (t : RawTag) : Word := t.w2
def tagApply (t : RawTag) : Stroke := BitVec.ofNat 48 (2 ^ 16 * t.w3.toNat + t.w4.toNat / 2 ^ 16)
def tagSeq (t : RawTag) : BitVec 16 := BitVec.ofNat 16 t.w4.toNat
def tagNode (t : RawTag) : Nat := t.w5.toNat / 2 ^ 16
def tagOp (t : RawTag) : Nat := t.w5.toNat / 2 ^ 12 % 16
def tagSync (t : RawTag) : Bool := bitOf t.w5 11
def tagResv (t : RawTag) : Nat := t.w5.toNat % 2 ^ 11

/-- Whether a tag is refused for FORMAT (R373). -/
def State.tagMalformed (s : State) (t : RawTag) : Bool :=
  decide ((tagTarget t).toNat % 4 ≠ 0) || !s.decodes (tagTarget t).toNat || decide (2 ≤ (tagOp t)) || decide ((tagResv t) ≠ 0) ||
    (if (tagOp t) = 0 then decide ((tagMask t) = 0) else decide ((tagValue t) ≠ 0) || decide ((tagMask t) ≠ 0))

/-- The SEQ test of R378. -/
def State.tagSeqOk (s : State) (src : Fin 32) (t : RawTag) : Bool :=
  match SMap.get (fun _ => none) s.stager.seqs src.val with
  | none => true
  | some k => laterThan (tagSeq t) k || (tagSync t)

def State.setSeq (src : Fin 32) (q : BitVec 16) (s : State) : State :=
  s.withStager { s.stager with seqs := SMap.set (fun _ => none) s.stager.seqs src.val (some q) }

/-- Whether a staged change is of a source's writes to a word with an apply stroke. -/
def Change.ofSet (c : Change) (src : Fin 32) (a : Word) (ap : Stroke) : Bool :=
  decide (c.path = .tag src) && !c.restore && decide (c.target = a) && decide (c.apply = ap)

def HistRec.ofSet (h : HistRec) (src : Fin 32) (a : Word) (ap : Stroke) : Bool :=
  decide (h.src = src) && decide (h.target = a) && decide (h.apply = ap)

/-- The outcomes of a local WRITE (R380). -/
def State.tagWrite (src : Fin 32) (t : RawTag) (s : State) : State :=
  let r := s.tim.strk
  let c : Change := { path := .tag src, target := (tagTarget t), value := (tagValue t), mask := (tagMask t), apply := (tagApply t), due := (tagApply t) }
  if laterThan (tagApply t) r then
    if s.fld TAG_HORIZON ⟨19, 0⟩ < ((tagApply t) - r).toNat then s.bump CTR_TAG_FAR
    else if s.storeFull then s.capRefuse
    else (s.stage c).bump CTR_TAG_ACCEPT
  else if s.storeFull then s.capRefuse
  else
    let s := (s.stage { c with due := r + 1 }).bump CTR_TAG_ACCEPT
    let s := (s.bump CTR_TAG_LATE).mark EVT_TAG_LATE
    s.withStager { s.stager with tagLate := Nat.min (s.stager.tagLate + 1) 0xFF }

/-- The removal of the staged writes of a set; whether there were any. -/
def State.withdraw (src : Fin 32) (a : Word) (ap : Stroke) (s : State) : Bool × State :=
  (s.stager.staged.any fun c => c.ofSet src a ap,
   (s.withStager { s.stager with staged := s.stager.staged.filter fun c => !c.ofSet src a ap }))

/-- The restoration that a late REVOKE stages from the history store (R382). -/
def State.lateRestore (src : Fin 32) (t : RawTag) (pulse : Bool) (s : State) : State :=
  let set := s.stager.hist.filter fun h => h.ofSet src (tagTarget t) (tagApply t)
  match set with
  | [] => s.bump CTR_TAG_NORESTORE
  | h :: _ =>
    let mask := set.foldl (fun m x => m ||| x.mask) (0 : Word)
    let dirty := set.foldl (fun m x => m ||| x.dirty) (0 : Word)
    if pulse || decide (dirty &&& mask ≠ 0) then s.bump CTR_TAG_NORESTORE
    else if s.storeFull then s.capRefuse
    else
      let r := s.tim.strk
      s.stage { path := .tag src, restore := true, target := (tagTarget t), value := h.prior, mask := mask, apply := (tagApply t), due := r + 1 }

/-- A local REVOKE (R381, R382). -/
def State.tagRevoke (src : Fin 32) (t : RawTag) (pulse : Bool) (s : State) : State :=
  if laterThan (tagApply t) s.tim.strk then
    let (any, s) := s.withdraw src (tagTarget t) (tagApply t)
    if any then s else s.bump CTR_TAG_NOMATCH
  else
    let s := (s.bump CTR_TAG_REVLATE).mark EVT_TAG_LATEREV
    let s := s.withStager { s.stager with revLate := Nat.min (s.stager.revLate + 1) 0xFF }
    let (any, s) := s.withdraw src (tagTarget t) (tagApply t)
    if any then s else s.lateRestore src t pulse

/-- Relay to a transmit flow's queue (R391). -/
def State.relayTo (t : Nat) (g : RawTag) (s : State) : State :=
  let x := SMap.get (fun _ => {}) s.net.tx t
  if 256 ≤ x.relay.length then (s.bump CTR_TAG_RLY_DROP).mark EVT_TAG_RELAY
  else s.withNet { s.net with tx := SMap.set (fun _ => {}) s.net.tx t { x with relay := x.relay ++ [g] } }

/-- The enabled relay entries for a node. -/
def State.relays (s : State) (node : Nat) : List Nat :=
  (List.range 16).filter fun j => s.on (TAG_RLY j) TAG_RLY_EN && decide (s.fld (TAG_RLY j) TAG_RLY_NODE = node)

/-- The judgement of one tag of a source (R379): SEQ, NODE with relay, FORMAT, authority, outcome. -/
def State.judgeTag (src : Fin 32) (t : RawTag) (s : State) : State :=
  if s.tagSeqOk src t then
    let s := s.setSeq src (tagSeq t)
    let rl := s.relays (tagNode t)
    let s := each rl (fun j s => s.relayTo (bits (s.reg (TAG_RLY j)) 25 16) t) s
    if (tagNode t) = 0xFFFF ∨ (tagNode t) = bits (s.reg TAG_CFG) 31 16 then
      if s.tagMalformed t then s.bump CTR_TAG_FORMAT
      else
        let pulse := match s.authFind (tagTarget t).toNat with
          | some i => (s.authEntry i).pulse
          | none => false
        let (ok, s) := s.authJudge (.tag src) (tagTarget t).toNat
        if ok then (if (tagOp t) = 0 then s.tagWrite src t else s.tagRevoke src t pulse) else s
    else if rl.isEmpty then s.bump CTR_TAG_OTHER
    else s
  else s.bump CTR_TAG_DUP

/-! ### The history store (R383) -/

/-- Keep a record of a WRITE tag that applied; the oldest is dropped when the store is full. -/
def State.remember (h : HistRec) (s : State) : State :=
  let l := s.stager.hist ++ [h]
  s.withStager { s.stager with hist := l.drop (l.length - 2048) }

/-- HISTORY_EXPIRY: records older than TAG_HOLD strokes are dropped (R383). -/
def State.expireHistory (s : State) : State :=
  let hold := s.fld TAG_HOLD ⟨13, 0⟩
  s.withStager { s.stager with hist := s.stager.hist.filter fun h => decide ((s.tim.strk - h.applied).toNat ≤ hold) }

def execHistoryExpiry (s : State) : Host.Outcome State Fault Refusal := .next s.expireHistory

/-! ### Nib-local writes (R389, R390, R403) -/

/-- The quire whose SRAM holds the whole source range of a SLU entry that writes the intake window (R390). -/
def intakeSource (e : Entry) : Option (Fin 16) :=
  let a := eSrc e
  let z := a + 64 * eLen e - 1
  let o := a % 0x4000000
  if eType e = 2 ∧ 0x2070C000 ≤ eDst e ∧ eDst e < 0x2070D000 ∧ 0x10000000 ≤ a ∧ z < 0x20000000 ∧ 0x1000000 ≤ o ∧ o < 0x1800000 ∧
      a / 0x200000 = z / 0x200000 then
    some (Fin.ofNat 16 (4 * polderOf a + o / 0x200000 % 4))
  else none

/-- A record reaches the intake window (R389, R403): held for the next boundary when a ruling entry accepted under
R390 wrote it, else dropped and counted. -/
def State.intakeWrite (idx : Option Nat) (slot : Fin 256) (words : List (Word × Bool)) (s : State) : State :=
  let src := do
    let i ← idx
    let e ← s.entry i
    let x ← intakeSource e
    pure (i, x)
  match src with
  | some (i, x) =>
    let r : Intake := { idx := i, slot := slot, src := x, words := (words ++ List.replicate 4 (0, false)).take 4 }
    s.withStager { s.stager with intake := s.stager.intake ++ [r] }
  | none => s.bump CTR_AUTH_REFUSE_NIB

def execIntakeRecordWrite (idx : Option Nat) (slot : Fin 256) (words : List (Word × Bool)) (s : State) :
    Host.Outcome State Fault Refusal :=
  .next (s.intakeWrite idx slot words)

/-- The record's order: the ruling entries that wrote them in turn, then address order (R389). -/
def intakeBefore (a b : Intake) : Bool := decide (a.idx < b.idx) || (decide (a.idx = b.idx) && decide (a.slot.val < b.slot.val))

/-- One record taken: the number of records counted so far, then the state (R389). -/
def takeIntake (r : Intake) (ns : Nat × State) : Nat × State :=
  let (n, s) := ns
  let w := fun i => (r.words.getD i (0, false)).1
  let psn := r.words.any fun x => x.2
  let ctl := w 3
  if !bitOf ctl 31 && !psn then (n, s)
  else if 256 ≤ n then (n + 1, s.capRefuse)
  else if psn then (n + 1, (s.bump CTR_TAG_POISON).mark EVT_TAG_POISON)
  else
    let a := (w 0).toNat
    if a % 4 ≠ 0 ∨ s.decodes a = false ∨ w 2 = 0 ∨ bits ctl 30 0 ≠ 0 then (n + 1, s.bump CTR_TAG_FORMAT)
    else
      let (ok, s) := s.authJudge (.nib r.src) a
      if ok then
        if s.storeFull then (n + 1, s.capRefuse)
        else
          let c : Change := { path := .nib r.src, target := w 0, value := w 1, mask := w 2, apply := s.tim.strk, due := s.tim.strk }
          (n + 1, s.stage c)
      else (n + 1, s)

/-- The records of the previous stroke are taken for phase 2 of this boundary (R389). -/
def State.takeIntakes (s : State) : State :=
  let l := sortBy intakeBefore s.stager.intake
  let s := s.withStager { s.stager with intake := [] }
  (l.foldl (fun ns r => takeIntake r ns) (0, s)).2

/-! ### PENDING (R397) -/

/-- A path's number among the access paths: the ports of R503. -/
def portIx (p : Port) : Nat :=
  match p with
  | .chip i => i.val
  | .pld p i => 20 + 19 * p.val + i.val

/-- TAG_PEND_ADDR: the path selects a word (R397). -/
def State.selectPend (port : Port) (a : Word) (s : State) : State :=
  s.withStager { s.stager with pendAddr := SMap.set (fun _ => 0) s.stager.pendAddr (portIx port) (a &&& 0xFFFFFFFC) }

def execTagPendAddr (port : Port) (addr : Word) (s : State) : Host.Outcome State Fault Refusal := .next (s.selectPend port addr)

/-- The staged changes to a path's word as phase 5 latched them. -/
def State.pendOf (s : State) (port : Port) : List Change :=
  let a := SMap.get (fun _ => (0 : Word)) s.stager.pendAddr (portIx port)
  s.stager.pend.filter fun c => decide (c.target = a)

/-- The code of a path in TAG_PEND.PATH. -/
def ChPath.code (p : ChPath) : Nat :=
  match p with
  | .tag _ => 1
  | .chain => 2
  | .nib _ => 3

/-- TAG_PEND as a path reads it. -/
def State.pendWord (s : State) (port : Port) : Word :=
  match s.pendOf port with
  | [] => 0
  | c :: l => BitVec.ofNat 32 (2 ^ 31 + 2 ^ 29 * c.path.code + (l.length + 1) % 2 ^ 14)

/-- The earliest apply stroke among a path's changes (R56). -/
def State.pendStroke (s : State) (port : Port) : Stroke :=
  match s.pendOf port with
  | [] => 0
  | c :: l => l.foldl (fun m x => if laterThan m x.due then x.due else m) c.due

end Sys2Proof.Machine
end

