-- ==== Sys2Proof/Machine/Mirror.lean ====
section
/-! DEFINITION. The mirror pair (spec/12_mirror_pair.md): the map, the digest, the roles, the state records. -/

namespace Sys2Proof.Machine

/-! ### Conditions that the roles rest on -/

/-- Whether the governing time base reports lock (R486). -/
def State.govLock (s : State) : Bool := s.on (TB_STAT (s.fld STK_STAT STK_STAT_GOV)) TB_STAT_LOCK

def State.aligned (s : State) : Bool := s.on STK_STAT STK_STAT_ALIGNED

/-- The run conditions of an exit from POISED (R594). -/
def State.mayRun (s : State) : Bool :=
  s.aligned && s.govLock && decide (s.fld REF_STAT REF_STAT_LOOP = 3) && (s.on MF_CFG MF_CFG_AUTORUN || s.mf.run) &&
    !s.on MF_TEST_STAT MF_TEST_STAT_FULLPEND

/-- The conditions of an exit from ISLAND (R595, transitions 8 and 9). -/
def State.mayReturn (s : State) : Bool := s.aligned && s.govLock

/-! ### Mirror state (R408) -/

/-- Enter a mirror state; OOS and ELIG follow it. -/
def State.setMirState (x : Nat) (s : State) : State :=
  let s := s.setFld MIR_STAT MIR_STAT_STATE x
  let s := s.setFld MIR_STAT MIR_STAT_OOS (b2n (x == mirWait || x == mirSync))
  let s := s.setFld MIR_STAT MIR_STAT_ELIG (b2n (x == mirLead || x == mirReady))
  let s := s.withMir { s.mir with next := none }
  if x = mirCheck then (s.setReg MIR_MATCH 0).setReg MIR_CURSOR 0 |> fun s => s.withMir { s.mir with since := 0, pass := none }
  else if x = mirSync then ((s.setReg MIR_CURSOR 0).withMir { s.mir with since := 0, pass := none, sending := false })
  else if x = mirLead then ((s.setReg MIR_CURSOR 0).withMir { s.mir with dual := 0, dualOk := true, sending := false, pass := none })
  else s

/-- The mirror state that goes with the mode of this boundary (R405, R408, R409); `moved` says that the mode has
just changed. -/
def State.mirrorPhase1 (moved : Bool) (s : State) : State :=
  let next := s.mir.next
  let s := if moved then s.withMir { s.mir with points := 0 } else s
  if s.member = false then s.setMirState mirOff
  else if s.mode = modeLead then (if moved || s.mirState != mirLead then s.setMirState mirLead else s)
  else if s.mode = modeShadow then
    match next with
    | some x => s.setMirState x
    | none => if moved then s.setMirState mirSync else s
  else s.setMirState mirWait

/-! ### The map by index (R411) -/

def MirEntry.size (e : MirEntry) : Nat := e.count * e.words

/-- The mirror address of an index among entries `i`, `i + 1`, … -/
def State.mirIndexFrom (s : State) (x : Nat) : List Nat → Option Nat
  | [] => none
  | i :: l =>
    let e := s.mirEntry i
    if x < e.size then some (e.base + x / e.words * e.stride + x % e.words * 8) else s.mirIndexFrom (x - e.size) l

/-- The mirror address of a mirror word index. -/
def State.mirIndex (s : State) (x : Nat) : Option Nat := s.mirIndexFrom x (List.range (s.fld MIR_MAPN ⟨11, 0⟩))

/-- Wtot. -/
def State.wtot (s : State) : Nat := s.fld MIR_WORDS ⟨25, 0⟩

/-! ### The stager image (R412) -/

def pathNums (p : ChPath) : Nat × Nat :=
  match p with
  | .tag i => (1, i.val)
  | .chain => (2, 0)
  | .nib x => (3, x.val)

def pathOf (c x : Nat) : ChPath := if c = 1 then .tag (Fin.ofNat 32 x) else if c = 2 then .chain else .nib (Fin.ofNat 16 x)

def changeNums (c : Change) : List Nat :=
  [(pathNums c.path).1, (pathNums c.path).2, b2n c.restore, c.target.toNat, c.value.toNat, c.mask.toNat, c.apply.toNat,
   c.due.toNat, c.dirty.toNat]

def changeOf (l : List Nat) : Change :=
  let n := fun i => l.getD i 0
  { path := pathOf (n 0) (n 1), restore := n 2 == 1, target := BitVec.ofNat 32 (n 3), value := BitVec.ofNat 32 (n 4),
    mask := BitVec.ofNat 32 (n 5), apply := BitVec.ofNat 48 (n 6), due := BitVec.ofNat 48 (n 7), dirty := BitVec.ofNat 32 (n 8) }

def histNums (h : HistRec) : List Nat :=
  [h.src.val, h.target.toNat, h.mask.toNat, h.apply.toNat, h.prior.toNat, h.dirty.toNat, h.applied.toNat]

def histOf (l : List Nat) : HistRec :=
  let n := fun i => l.getD i 0
  { src := Fin.ofNat 32 (n 0), target := BitVec.ofNat 32 (n 1), mask := BitVec.ofNat 32 (n 2), apply := BitVec.ofNat 48 (n 3),
    prior := BitVec.ofNat 32 (n 4), dirty := BitVec.ofNat 32 (n 5), applied := BitVec.ofNat 48 (n 6) }

def rawTagNums (t : Nat) (g : RawTag) : List Nat := [t, g.w0.toNat, g.w1.toNat, g.w2.toNat, g.w3.toNat, g.w4.toNat, g.w5.toNat]

def rawTagOf (l : List Nat) : Nat × RawTag :=
  let n := fun i => BitVec.ofNat 32 (l.getD i 0)
  (l.getD 0 0, ⟨n 1, n 2, n 3, n 4, n 5, n 6⟩)

/-- A counted list of records of one size. -/
def packNums {α : Type} (f : α → List Nat) (l : List α) : List Nat := l.length :: l.flatMap f

/-- `n` records of size `k` from the front of a list. -/
def unpackNums (k : Nat) : Nat → List Nat → List (List Nat)
  | 0, _ => []
  | n + 1, l => l.take k :: unpackNums k n (l.drop k)

/-- The addresses of the words of the items that lie in register blocks (R412). -/
def State.itemRegs (s : State) : List Nat :=
  (List.range (s.fld AUTH_CFG ⟨12, 0⟩)).flatMap fun i =>
    let e := s.authEntry i
    if e.pulse || !inRegs e.base then []
    else (List.range e.count).flatMap fun j => (List.range e.words).map fun k => e.base + j * e.stride + 4 * k

/-- What the stager image holds (R412), as numbers: staged changes, history, last SEQs, relay queues, committed
values of the items in register blocks. -/
def State.stagerContent (s : State) : List Nat :=
  packNums changeNums s.stager.staged ++ packNums histNums s.stager.hist ++
    packNums (fun (e : Nat × Option (BitVec 16)) => [e.1, match e.2 with
      | some q => q.toNat + 1
      | none => 0]) s.stager.seqs ++
    packNums (fun (e : Nat × RawTag) => rawTagNums e.1 e.2) (s.net.tx.flatMap fun e => e.2.relay.map fun g => (e.1, g)) ++
    packNums (fun a => [a, (s.reg a).toNat]) s.itemRegs

/-- The stager takes what an image holds; with it, the committed values of the items in register blocks. -/
def State.stagerLoad (l : List Nat) (s : State) : List (Nat × Word) × State :=
  let take := fun (k : Nat) (l : List Nat) => (unpackNums k (l.headD 0) l.tail, l.tail.drop (k * l.headD 0))
  let (cs, l) := take 9 l
  let (hs, l) := take 7 l
  let (qs, l) := take 2 l
  let (rs, l) := take 7 l
  let (vs, _) := take 2 l
  let seqs : SMap (Option (BitVec 16)) := qs.foldl (fun m q =>
    SMap.set (fun _ => none) m (q.getD 0 0) (if q.getD 1 0 = 0 then none else some (BitVec.ofNat 16 (q.getD 1 0 - 1)))) []
  let s := s.withStager { s.stager with staged := cs.map changeOf, hist := hs.map histOf, seqs := seqs }
  let s := s.withNet { s.net with tx := s.net.tx.map fun e => (e.1, { e.2 with relay := [] }) }
  let s := each (rs.map rawTagOf) (fun e s =>
    let x := SMap.get (fun _ => {}) s.net.tx e.1
    (s.withNet { s.net with tx := SMap.set (fun _ => {}) s.net.tx e.1 { x with relay := x.relay ++ [e.2] } })) s
  (vs.map fun v => (v.getD 0 0, BitVec.ofNat 32 (v.getD 1 0)), s)

/-- The firmware revision (R433). -/
def State.fwRev (s : State) : BitVec 16 := BitVec.ofNat 16 (s.reg BOOT_FWREV).toNat

/-- The index of a word of the stager image. -/
def imageIx (a : Nat) : Nat := (a - 0x20710000) / 8

/-- The mirror word at a place, through the code where it lies in SRAM. -/
def State.readMirror (a : Nat) (s : State) : (Word64 × Bool) × State :=
  if 0x20710000 ≤ a ∧ a < 0x20750000 then
    ((Config.stagerImage s.fwRev s.stagerContent (imageIx a), s.stager.imgPsn.contains (imageIx a)), s)
  else if wordLen a = 4 then
    let (r0, s) := s.readWord a
    let (r1, s) := s.readWord (a + 4)
    ((BitVec.ofNat 64 (2 ^ 32 * r1.w.toNat + r0.w.toNat), r0.psn || r1.psn), s)
  else
    let (r, s) := s.readWord a
    ((r.w, r.psn), s)

/-! ### The digest (R415 to R418) -/

/-- A term of W. -/
def State.addW (a : Nat) (d : Word64) (s : State) : State := s.withMir { s.mir with w := s.mir.w + mirHash a d false }

/-- The stroke that ends leaves its W and S to be completed; the next begins with term 4 (R416). -/
def State.digestBoundary (s : State) : State :=
  let part := s.on RUL_ACTIVE RUL_ACTIVE_PARTIAL
  s.withMir { s.mir with ended := some (s.tim.strk, s.mir.w, s.mir.sw, s.fld RUL_ACTIVE RUL_ACTIVE_INDEX, part), w := 0, sw := 0, since := s.mir.since + 1 }

/-- D of the stroke that ended is complete (R415, R418). -/
def State.digestComplete (s : State) : State :=
  match s.mir.ended with
  | none => s
  | some (n, w, sw, rul, part) =>
    let d := mix (w ^^^ mix (sw ^^^ n.setWidth 64))
    let l := s.mir.digests ++ [⟨n, d, rul, part⟩]
    let s := s.withMir { s.mir with digests := l.drop (l.length - 32), ended := none }
    let s := (s.setReg MIR_DIG_LO (loWord d)).setReg MIR_DIG_HI (hiWord d)
    (s.setReg MIR_DSTK_LO (loWord n)).setReg MIR_DSTK_HI (hiWord n)

/-- The engine's own D of a stroke. -/
def State.digestOf (s : State) (n : Stroke) : Option DigRec := s.mir.digests.find? fun r => r.stroke == n

/-- One word of the sweep (R417). -/
def State.sweepWord (x : Nat) (s : State) : State :=
  match s.mirIndex x with
  | none => s
  | some m =>
    let (d, s) := s.readMirror (s.mirrorPlace m)
    s.withMir { s.mir with sw := s.mir.sw + mirHash m d.1 d.2 }

/-- Whether a LEAD streams: the latest peer copy shows SHADOW out of step (R434). -/
def State.streams (s : State) : Bool :=
  s.member && decide (s.mode = modeLead) &&
    match s.mir.peer with
    | some (m, _, oos) => decide (m = modeShadow) && oos
    | none => false

/-- A pass begins, goes on or stops as R434 says. -/
def State.passStep (s : State) : State :=
  if s.streams then
    if s.mir.sending then s
    else
      let p := if s.mir.begun then s.fld MIR_PASS MIR_PASS_PASS + 1 else s.fld MIR_PASS MIR_PASS_PASS
      let s := (s.setFld MIR_PASS MIR_PASS_PASS p).setReg MIR_CURSOR 0
      s.withMir { s.mir with sending := true, begun := true }
  else if s.mir.sending then ((s.setReg MIR_CURSOR 0).withMir { s.mir with sending := false })
  else s

/-- The words of the state records of a stroke, taken at the snapshot point (R434). -/
def State.snapWords (s : State) : List (Nat × Word64 × Bool) × State :=
  let n := min (16 * s.fld MIR_STREAM MIR_STREAM_SPKT) (s.wtot - (s.reg MIR_CURSOR).toNat)
  let c := (s.reg MIR_CURSOR).toNat
  (List.range n).foldl (fun (ls : List (Nat × Word64 × Bool) × State) i =>
    match ls.2.mirIndex (c + i) with
    | none => ls
    | some m =>
      let (d, s) := ls.2.readMirror (ls.2.mirrorPlace m)
      (ls.1 ++ [(c + i, d.1, d.2)], s)) ([], s)

/-- STATE_DIGEST_SNAPSHOT: D of the stroke before is completed; the sweep and the state records take their words
(R417, R418, R434). -/
def execStateDigestSnapshot (s : State) : Host.Outcome State Fault Refusal :=
  let s := (s.atRoot 2048).digestComplete
  let n := 512 * s.tim.strk.toNat
  let s := each (List.range (min 512 s.wtot)) (fun i s => s.sweepWord ((n + i) % s.wtot)) s
  let s := s.passStep
  if s.mir.sending then
    let (l, s) := s.snapWords
    .next (s.withMir { s.mir with snap := l })
  else .next (s.withMir { s.mir with snap := [] })

/-! ### State records at the SHADOW (R433, R435, R436) -/

def recIndex (g : RawTag) : Nat := g.w0.toNat
def recData (g : RawTag) : Word64 := BitVec.ofNat 64 (2 ^ 32 * g.w1.toNat + g.w2.toNat)
def recPass (g : RawTag) : BitVec 16 := BitVec.ofNat 16 g.w4.toNat
def recFid (g : RawTag) : BitVec 16 := BitVec.ofNat 16 (g.w5.toNat / 2 ^ 16)
def recPoison (g : RawTag) : Bool := bitOf g.w5 15
def recFw (g : RawTag) : Nat := g.w5.toNat % 256

/-- The sequence of a pass advances by one record (R436). -/
def State.passRecord (g : RawTag) (s : State) : State :=
  let c := (s.reg MIR_CURSOR).toNat
  let on := decide (s.mir.pass = some (recPass g)) && decide (recIndex g = c)
  let start := decide (recIndex g = 0)
  let s :=
    if on then s.setReg MIR_CURSOR (BitVec.ofNat 32 (c + 1))
    else if start then
      let s := (s.setReg MIR_CURSOR 1).setFld MIR_PASS MIR_PASS_PASS (recPass g).toNat
      s.withMir { s.mir with pass := some (recPass g) }
    else ((s.setReg MIR_CURSOR 0).withMir { s.mir with pass := none })
  if (s.reg MIR_CURSOR).toNat = s.wtot ∧ s.mir.pass.isSome ∧ s.on MIR_STAT MIR_STAT_FOLIO = false then
    (s.bump CTR_MIR_PASS_CNT).setMirState mirCheck
  else s

/-! ### Peer copies and the release point (R421 to R429) -/

/-- The fields of a colophon (R398). -/
def colMode (c : Colophon) : Nat := c.c0.toNat / 2 ^ 28
def colOos (c : Colophon) : Bool := bitOf c.c0 25
def colElig (c : Colophon) : Bool := bitOf c.c0 24
def colStatus (c : Colophon) : Nat := c.c0.toNat / 2 ^ 20 % 4
def colMuted (c : Colophon) : Bool := bitOf c.c0 19
def colSpill (c : Colophon) : Bool := bitOf c.c0 4
def colPartial (c : Colophon) : Bool := bitOf c.c0 6
def colRuling (c : Colophon) : Nat := c.c0.toNat % 8
def colDstroke (c : Colophon) : Stroke := BitVec.ofNat 48 (2 ^ 16 * c.c4.toNat + c.c5.toNat / 2 ^ 16)
def colDigest (c : Colophon) : Word64 := joinWords 64 c.c6 c.c7

/-- A copy of the peer flow that passed checks 1 and 2 of R356 has arrived (R422, R425). -/
def State.peerArrived (c : Colophon) (s : State) : State :=
  let s := s.withMir { s.mir with peer := some (colMode c, colElig c, colOos c), anyArrived := true }
  if colMode c = modeLead then s.withMir { s.mir with arrived := true } else s

/-- The ages and MISSING at a release point. -/
def State.peerAges (s : State) : State :=
  let lead := s.mir.arrived
  let age := fun (now : Bool) (x : Option Nat) => if now then some 0 else x.map (· + 1)
  let s := s.setFld MIR_STAT MIR_STAT_PEER_LEAD (b2n lead)
  let s := s.setFld MIR_STAT MIR_STAT_MISSING (if lead then 0 else Nat.min (s.fld MIR_STAT MIR_STAT_MISSING + 1) 4095)
  let s := s.withMir { s.mir with leadAge := age lead s.mir.leadAge, anyAge := age s.mir.anyArrived s.mir.anyAge }
  let s := s.withMir { s.mir with peerAge := if s.mir.anyArrived then 0 else s.mir.peerAge + 1, points := s.mir.points + 1, arrived := false, anyArrived := false }
  let was := s.on MIR_STAT MIR_STAT_PEER_OOS
  match s.mir.peer with
  | none => s
  | some (m, elig, oos) =>
    let ok := decide (s.mir.peerAge < s.fld MIR_TIME MIR_TIME_PROMOTE) && decide (m = modeShadow) && elig
    let s := (s.setFld MIR_STAT MIR_STAT_PEER_ELIG (b2n ok)).setFld MIR_STAT MIR_STAT_PEER_OOS (b2n oos)
    if s.mode = modeLead ∧ was = false ∧ oos = true ∧ m = modeShadow then s.mark EVT_MIR_PEER_OOS else s

/-- Whether an age lies within the last LISTEN release points. -/
def State.within (s : State) (x : Option Nat) : Bool :=
  match x with
  | some n => decide (n < s.fld MIR_TIME MIR_TIME_LISTEN)
  | none => false

/-- The choice of a role on leaving POISED or ISLAND (R421). -/
def State.chooseRole (s : State) : State :=
  let poised := s.mode = modePoised
  if s.mir.points < s.fld MIR_TIME MIR_TIME_LISTEN ∨ ¬ ((s.mode = modePoised ∧ s.mayRun) ∨ (s.mode = modeIsland ∧ s.mayReturn)) then s
  else if s.within s.mir.leadAge then (s.decideMode (if poised then 4 else 9)).mirNext mirSync
  else if s.on MIR_CFG MIR_CFG_MEMBER = false then s.decideMode (if poised then 3 else 8)
  else if s.within s.mir.anyAge = false then s.decideMode (if poised then 3 else 8)
  else s

/-- Promotion of a SHADOW (R423, R424). -/
def State.promote (s : State) : State :=
  let m := s.fld MIR_STAT MIR_STAT_MISSING
  if s.mode ≠ modeShadow then s
  else if s.mirState = mirReady then
    if m = s.fld MIR_TIME MIR_TIME_PROMOTE then ((s.decideMode 6).mark EVT_MIR_PROMOTE).bump CTR_MIR_ROLE_CNT else s
  else if m = s.fld MIR_TIME MIR_TIME_ORPHAN then ((s.decideMode 6).mark EVT_MIR_ORPHAN).bump CTR_MIR_ROLE_CNT
  else s

/-- The comparison with a LEAD copy's digest: whether it matched, `none` when skipped (R427 to R429). -/
def State.compareDigest (c : Colophon) (s : State) : Option Bool × State :=
  let check := decide (s.mirState = mirCheck)
  match s.digestOf (colDstroke c) with
  | none => (none, s.bump CTR_MIR_SKIP_CNT)
  | some r =>
    if colSpill c ∨ colRuling c ≠ r.ruling ∨ colPartial c ≠ r.part ∨ (check = true ∧ s.mir.since < s.fld MIR_QUAL MIR_QUAL_SETTLE) then
      (none, s.bump CTR_MIR_SKIP_CNT)
    else if colDigest c = r.d then
      let n := Nat.min ((s.reg MIR_MATCH).toNat + 1) (2 ^ 32 - 1)
      let s := s.setReg MIR_MATCH (BitVec.ofNat 32 n)
      (some true, if check ∧ n = s.fld MIR_QUAL MIR_QUAL_QUAL then (s.mirNext mirReady).mark EVT_MIR_ELIG else s)
    else
      let s := (s.setReg MIR_MATCH 0).bump CTR_MIR_MISM_CNT
      (some false, if s.mode = modeShadow then (s.mirNext mirSync).mark EVT_MIR_OOS else s)

/-- Two LEADs (R426). -/
def State.dualLead (cmp : Option Bool) (s : State) : State :=
  if s.on MIR_STAT MIR_STAT_PEER_LEAD then
    let ok := s.mir.dualOk && decide (cmp ≠ some false)
    let s := s.withMir { s.mir with dual := s.mir.dual + 1, dualOk := ok }
    if s.mir.dual = s.fld MIR_TIME MIR_TIME_PROMOTE then
      let s := s.mark EVT_MIR_DUAL
      if s.on MIR_CFG MIR_CFG_MEMBER then
        ((s.decideMode 5).mirNext (if ok then mirCheck else mirSync)).bump CTR_MIR_ROLE_CNT
      else s
    else s
  else s.withMir { s.mir with dual := 0, dualOk := true }

/-- A release point of the peer flow; `lead` is the colophon of the peer's first copy of the released stroke when
its MODE is LEAD. -/
def State.mirrorRelease (lead : Option Colophon) (s : State) : State :=
  if s.member then
    let s := s.peerAges
    let comparing := s.mirState = mirCheck ∨ s.mirState = mirReady ∨ s.mirState = mirLead
    let (cmp, s) := match lead with
      | some c => if comparing then s.compareDigest c else (none, s)
      | none => (none, s)
    if s.mode = modeLead then s.dualLead cmp else s.chooseRole.promote
  else s

/-- RESYNC applied (R425, R441): a SHADOW in CHECK or READY goes to SYNC. -/
def State.resync (s : State) : State := if s.mode = modeShadow then s.mirrorCause else s

def execResync (s : State) : Host.Outcome State Fault Refusal := .next s.resync

/-- HANDOVER applied (R425, R441): a LEAD with an eligible peer hands over. -/
def State.handover (s : State) : State := if s.mode = modeLead then s.mirrorCause else s

def execHandover (s : State) : Host.Outcome State Fault Refusal := .next s.handover

end Sys2Proof.Machine
end

