-- ==== Sys2Proof/Machine/TimeBase.lean ====
section
/-! DEFINITION. The four time bases, the pulse outputs and the capture inputs (spec/14_time_bases.md). -/

namespace Sys2Proof.Machine

/-- Units of 2^-32 ns. -/
def nsUnits : Nat := 2 ^ 32
def secUnits : Nat := 1000000000 * nsUnits

/-- A time base's value wraps with SEC (R469). -/
def tbModulus : Nat := 2 ^ 48 * secUnits

/-- The nominal advance of a triad (R470). -/
def triadUnits : Int := 10485760000

def State.tb (s : State) (i : Nat) : TimeBase := SMap.get (fun _ => {}) s.tbs i
def State.setTb (i : Nat) (x : TimeBase) (s : State) : State := s.withTbs (SMap.set (fun _ => {}) s.tbs i x)

def State.tbRate (s : State) (i : Nat) : Int := if i = 2 then 0 else (s.reg (TB_RATE i)).toInt
def State.tbSlew (s : State) (i : Nat) : Int := s.fld (TB_SLEW i) ⟨20, 0⟩

/-- The adjustment of a triad (R472). -/
def tbAdjust (rate slew p : Int) : Int := clampI (-slew) slew (rate + p)

/-- A value moved by some units, wrapping. -/
def tbMove (v : Nat) (d : Int) : Nat := (((v : Int) + d) % (tbModulus : Int)).toNat

/-- The limit of P (R472). -/
def pendLimit : Int := 2000000000 * (nsUnits : Int)

/-- The base after `n` triads (R472): while RATE + P lies beyond the limit, P changes by the same amount each triad; then
one triad takes up the rest, and P is 0. P never gets there where RATE itself stands at the limit or beyond it. -/
def TimeBase.run (rate slew : Int) (n : Nat) (b : TimeBase) : TimeBase :=
  if n = 0 then b
  else
    let excess : Int := if slew < rate + b.p then rate + b.p - slew else if rate + b.p < -slew then -slew - (rate + b.p) else 0
    let a := tbAdjust rate slew b.p
    let dec := a - rate
    let step := dec.natAbs
    let away : Bool := (decide (slew < rate + b.p) && decide (dec ≤ 0)) || (decide (rate + b.p < -slew) && decide (0 ≤ dec))
    let k : Nat := if excess = 0 then 0 else if away then n else min n ((excess.toNat + step - 1) / step)
    let v := tbMove b.v (k * (triadUnits + a))
    let p := b.p - k * dec
    if k = n then { v := v, p := clampI (-pendLimit) pendLimit p, tri := b.tri + n }
    else
      let a1 := tbAdjust rate slew p
      { v := tbMove v ((triadUnits + a1) + ((n - k - 1 : Nat) : Int) * (triadUnits + rate)), p := 0, tri := b.tri + n }

/-- Bring a base up to the triad of the system counter. -/
def State.tbSync (i : Nat) (s : State) : State :=
  let t := s.tim.sysCnt.toNat / 3
  s.setTb i ((s.tb i).run (s.tbRate i) (s.tbSlew i) (t - (s.tb i).tri))

def State.tbsSync (s : State) : State := each (List.range 4) State.tbSync s

/-- The base's value at a system-counter value (R470). -/
def State.tbAt (s : State) (i : Nat) (c : BitVec 64) : Nat :=
  let b := s.tb i
  let t := c.toNat / 3
  let rate := s.tbRate i
  let slew := s.tbSlew i
  if b.tri ≤ t then
    let b := b.run rate slew (t - b.tri)
    tbMove b.v (((c.toNat % 3 : Nat) : Int) * ((triadUnits + tbAdjust rate slew b.p) / 3))
  else
    let d := triadUnits + tbAdjust rate slew b.p
    tbMove b.v (((c.toNat % 3 : Nat) : Int) * (d / 3) - ((b.tri - t : Nat) : Int) * d)

def State.tbNow (s : State) (i : Nat) : Nat := s.tbAt i s.tim.sysCnt

/-- SEC, NS and FRAC of a value. -/
def tbSec (v : Nat) : Nat := v / secUnits
def tbNs (v : Nat) : Nat := v / nsUnits % 1000000000
def tbFrac (v : Nat) : Nat := v % nsUnits

/-- The pending offset P now. -/
def State.tbPend (s : State) (i : Nat) : Int :=
  ((s.tb i).run (s.tbRate i) (s.tbSlew i) (s.tim.sysCnt.toNat / 3 - (s.tb i).tri)).p

/-- TRIAD_ADVANCE: the next triad begins, and every base has advanced (R470, R472). -/
def execTriadAdvance (s : State) : Host.Outcome State Fault Refusal :=
  let s := (s.withTim { s.tim with sysCnt := BitVec.ofNat 64 ((s.tim.sysCnt.toNat / 3 + 1) * 3) })
  .next s.tbsSync

/-! ### Pulse outputs (R488 to R493) -/


def State.pulBase (s : State) (k : Nat) : Nat := s.fld (PUL_CFG k) PUL_CFG_BASE
def State.pulStart (s : State) (k : Nat) : Nat :=
  (2 ^ 32 * (s.reg (PUL_START_SEC_HI k)).toNat + (s.reg (PUL_START_SEC_LO k)).toNat) * secUnits +
    (s.reg (PUL_START_NS k)).toNat * nsUnits + (s.reg (PUL_START_FRAC k)).toNat
def State.pulPeriod (s : State) (k : Nat) : Nat := (s.reg (PUL_PER_NS k)).toNat * nsUnits + (s.reg (PUL_PER_FRAC k)).toNat
def State.pulOnce (s : State) (k : Nat) : Bool := !s.on (PUL_CFG k) PUL_CFG_PERIODIC
def State.pulQ (s : State) (k : Nat) : Nat := (s.reg (PUL_PER_NS k)).toNat

/-- Whether the grid period of a pulse is one that R490 allows. -/
def State.pulQOk (s : State) (k : Nat) : Bool :=
  s.pulOnce k || (decide (s.pulQ k ≠ 0) && (decide (102400 % s.pulQ k = 0) || decide (s.pulQ k % 102400 = 0)))

/-- The edges of a base pulse with E_j at or before a value (R489). -/
def State.pulPassedTb (s : State) (k v : Nat) : Nat :=
  if v < s.pulStart k then 0
  else if s.pulOnce k ∨ s.pulPeriod k = 0 then 1
  else (v - s.pulStart k) / s.pulPeriod k + 1

/-- The grid edges at or before a cycle of a stroke (R490). -/
def State.pulPassedGrid (s : State) (k : Nat) (n : Stroke) (c : Nat) : Nat :=
  let s0 : Stroke := BitVec.ofNat 48 (2 ^ 32 * (s.reg (PUL_START_SEC_HI k)).toNat + (s.reg (PUL_START_SEC_LO k)).toNat)
  let ofs := s.fld (PUL_START_NS k) PUL_START_NS_OFS
  if n ≠ s0 ∧ laterThan n s0 = false then 0
  else
    let d := (n - s0).toNat
    let q := s.pulQ k
    if s.pulOnce k then (if d ≠ 0 ∨ ofs ≤ c then 1 else 0)
    else if 102400 % q = 0 then
      let r := ofs % q
      d * (102400 / q) + (if min c 102399 < r then 0 else (min c 102399 - r) / q + 1)
    else
      let m := q / 102400
      d / m + (if d % m ≠ 0 ∨ ofs ≤ c then 1 else 0)

/-- The edges of a pulse passed by now. -/
def State.pulPassed (s : State) (k : Nat) : Nat :=
  if s.pulBase k < 4 then s.pulPassedTb k (s.tbNow (s.pulBase k)) else s.pulPassedGrid k s.tim.strk s.phase

def State.pulArmed (s : State) (k : Nat) : Bool := s.on (PUL_STAT k) PUL_STAT_ARMED

/-- The output becomes active for WIDTH cycles (R491). -/
def State.pulFire (k : Nat) (s : State) : State :=
  let w := max 1 (s.fld (PUL_WIDTH k) PUL_WIDTH_WIDTH)
  s.setPulse k { s.pulse k with ends := some (s.tim.sysCnt + BitVec.ofNat 64 w) }

/-- A period of the grid that R490 does not allow is refused, in the count of the base that governs. -/
def State.pulRefuse (k : Nat) (s : State) : State :=
  if s.pulBase k = 4 ∧ s.pulQOk k = false then (s.bump (CTR_TB_REFUSE_CNT (s.fld STK_STAT STK_STAT_GOV))).mark EVT_TB_REFUSE else s

/-- The edges already passed when a pulse is armed (R492); with a period refused it stays disarmed (R490). -/
def State.pulArm (k : Nat) (s : State) : State :=
  if 4 < s.pulBase k ∨ (s.pulBase k = 4 ∧ s.pulQOk k = false) then s
  else
    let n := s.pulPassed k
    let s := (s.setReg (PUL_STAT k) 0).setFld (PUL_STAT k) PUL_STAT_ARMED 1
    let s := (s.setPulse k { s.pulse k with passed := n }).bumpBy (CTR_PUL_SKIP_CNT k) n
    if s.pulOnce k ∧ n ≠ 0 then (s.setFld (PUL_STAT k) PUL_STAT_LATE 1).mark EVT_TB_PULSE_LATE else s

/-- A forward step of the base that passes edges (R492): a periodic pulse fires once in the step cycle, a once
pulse is late. -/
def State.pulStepped (i k : Nat) (s : State) : State :=
  if s.pulArmed k ∧ s.pulBase k = i then
    let n := s.pulPassed k
    let d := n - (s.pulse k).passed
    if d = 0 then s
    else
      let s := s.setPulse k { s.pulse k with passed := n }
      if s.pulOnce k then ((s.setFld (PUL_STAT k) PUL_STAT_LATE 1).mark EVT_TB_PULSE_LATE).bump (CTR_PUL_SKIP_CNT k)
      else (s.pulFire k).bumpBy (CTR_PUL_SKIP_CNT k) (d - 1)
  else s

/-- PULSE_EDGE: the next edge of an armed pulse is reached (R489 to R491). -/
def execPulseEdge (k : Fin 16) (s : State) : Host.Outcome State Fault Refusal :=
  .next (if s.pulArmed k then
    let n := s.pulPassed k
    let d := n - (s.pulse k).passed
    if d = 0 then s
    else ((s.setPulse k { s.pulse k with passed := n }).bumpBy (CTR_PUL_SKIP_CNT k) (d - 1)).pulFire k
  else s)

/-- PULSE_WIDTH_END: the output becomes inactive (R491). -/
def execPulseWidthEnd (k : Fin 16) (s : State) : Host.Outcome State Fault Refusal :=
  .next (match (s.pulse k).ends with
    | some e =>
      let s := if laterThan e s.tim.sysCnt then s.withTim { s.tim with sysCnt := e } else s
      s.setPulse k { s.pulse k with ends := none }
    | none => s)

/-- The modes in which pulses run (R493). -/
def State.pulsesRun (s : State) : Bool := !(s.mode == modeDark || s.mode == modeLoad || s.mode == modeSealed)

/-- PULSE_ARM applied (R488, R492, R493). -/
def execPulseArm (k : Fin 16) (s : State) : Host.Outcome State Fault Refusal := .next (if s.pulsesRun then s.pulArm k else s)

/-- PULSE_DISARM applied (R488). -/
def execPulseDisarm (k : Fin 16) (s : State) : Host.Outcome State Fault Refusal := .next (s.pulDisarm k)

/-! ### Steps and sets (R473 to R476) -/

def State.governs (s : State) (i : Nat) : Bool := decide (s.fld STK_STAT STK_STAT_GOV = i)

/-- Whether a step of a base is allowed (R473). -/
def State.mayStep (s : State) (i : Nat) : Bool := s.mode == modePoised || s.mode == modeService || !s.governs i

/-- An alignment becomes due (R57, R75). -/
def State.alignDue (s : State) : State :=
  if s.mode = modePoised ∨ s.mode = modeService then s.withTim { s.tim with due := true } else s

/-- A step: V takes a value at a system-counter value, P as given (R473 to R476, R492). -/
def State.tbStep (i : Nat) (c : BitVec 64) (v : Nat) (p : Int) (s : State) : State :=
  let old := s.tbNow i
  let d := triadUnits + tbAdjust (s.tbRate i) (s.tbSlew i) p
  let b : TimeBase := { v := tbMove v (-(((c.toNat % 3 : Nat) : Int) * (d / 3))), p := p, tri := c.toNat / 3 }
  let s := (s.setTb i b).tbSync i
  let s := (s.bump (CTR_TB_STEP_CNT i)).mark (EVT_TB_STEP i)
  let s := if old < s.tbNow i then each (List.range 16) (fun k s => s.pulStepped i k) s else s
  if s.governs i then s.alignDue else s

/-- The value of the set registers. -/
def State.tbSetValue (s : State) (i : Nat) : Nat :=
  (2 ^ 32 * (s.reg (TB_SET_SEC_HI i)).toNat + (s.reg (TB_SET_SEC_LO i)).toNat) * secUnits + (s.reg (TB_SET_NS i)).toNat * nsUnits

/-- A SET applied (R473, R474): V(B(n)) becomes the set value. -/
def State.tbSet (i : Nat) (s : State) : State :=
  if s.mayStep i then s.tbStep i s.tim.bnd (s.tbSetValue i) 0
  else (s.bump (CTR_TB_REFUSE_CNT i)).mark EVT_TB_REFUSE

def execTbSet (i : Fin 4) (s : State) : Host.Outcome State Fault Refusal := .next (s.tbSet i)

/-- A TB_ADJ applied: nanoseconds added to P of TB3 (R472, R497). -/
def State.tbAdj (i : Nat) (ns : Word) (s : State) : State :=
  if i = 3 then
    let s := s.tbSync i
    s.setTb i { s.tb i with p := clampI (-pendLimit) pendLimit ((s.tb i).p + ns.toInt * (nsUnits : Int)) }
  else s

def execTbAdj (i : Fin 4) (ns : Word) (s : State) : Host.Outcome State Fault Refusal := .next (s.tbAdj i ns)

/-- A RATE set by its owner, limited to SLEWMAX (R472). -/
def State.tbSetRate (i : Nat) (r : Int) (s : State) : State :=
  let s := s.tbSync i
  s.setReg (TB_RATE i) (BitVec.ofInt 32 (clampI (-(s.tbSlew i)) (s.tbSlew i) r))

/-! ### Capture inputs (R494 to R496) -/

def State.capt (s : State) (k : Nat) : Capt := SMap.get (fun _ => {}) s.capts k
def State.setCapt (k : Nat) (x : Capt) (s : State) : State := s.withCapts (SMap.set (fun _ => {}) s.capts k x)

/-- CAPTURE_EDGE (R494, R495). -/
def execCaptureEdge (k : Fin 8) (rising : Bool) (stamp : BitVec 64) (s : State) : Host.Outcome State Fault Refusal :=
  let kind := s.fld (CAP_CFG k) CAP_CFG_EDGE
  .next (if s.on (CAP_CFG k) CAP_CFG_EN && (kind == 3 || (kind == 1 && rising) || (kind == 2 && !rising)) then
    let s := if laterThan stamp s.tim.sysCnt then s.withTim { s.tim with sysCnt := stamp } else s
    let x := s.capt k
    let close := match x.last with
      | some l => decide ((stamp - l).toNat < 64)
      | none => false
    if close then s.bump (CTR_CAP_DROP_CNT k)
    else if 4 ≤ x.fifo.length then (s.bump (CTR_CAP_DROP_CNT k)).mark EVT_TB_CAPT_OVF
    else
      let times := (List.range 4).map fun b => (tbNs (s.tbAt b stamp), tbSec (s.tbAt b stamp))
      let e : CapEntry := { rise := rising, sys := stamp, strk := s.tim.strk.setWidth 16, times := times }
      s.setCapt k { fifo := x.fifo ++ [e], last := some stamp }
  else s)

/-- A path's read of CAP_POP: the value, the head removed and latched (R496). -/
def State.capPop (port : Port) (k : Nat) (s : State) : Word × State :=
  let key := portIx port * 8 + k
  match (s.capt k).fifo with
  | [] => (0, (s.withCapLatch (SMap.set (fun _ => none) s.capLatch key none)))
  | e :: l =>
    let s := s.setCapt k { s.capt k with fifo := l }
    (loWord e.sys, (s.withCapLatch (SMap.set (fun _ => none) s.capLatch key (some e))))

def execCapPop (port : Port) (k : Fin 8) (s : State) : Host.Outcome State Fault Refusal := .next (s.capPop port k).2

/-- A word of the entry that a path's last read of CAP_POP latched, by its offset in the bank (R501). -/
def State.capWord (s : State) (port : Port) (k o : Nat) : Word :=
  match SMap.get (fun _ => none) s.capLatch (portIx port * 8 + k) with
  | none => 0
  | some e =>
    if o = 0x0C then BitVec.ofNat 32 (2 ^ 31 + (if e.rise then 2 ^ 30 else 0) + e.strk.toNat)
    else if o = 0x10 then hiWord e.sys
    else
      let (ns, sec) := e.times.getD ((o - 0x14) / 12) (0, 0)
      if (o - 0x14) % 12 = 0 then BitVec.ofNat 32 ns
      else if (o - 0x14) % 12 = 4 then BitVec.ofNat 32 sec
      else BitVec.ofNat 32 (sec / 2 ^ 32)

end Sys2Proof.Machine
end

