-- ==== Sys2Proof/Machine/Reference.lean ====
section
/-! DEFINITION. Reference inputs, their qualification and selection, the clean-up loop and holdover
(spec/13_references_and_cleanup.md). -/

namespace Sys2Proof.Machine

def State.refIn (s : State) (i : Nat) : RefIn := SMap.get (fun _ => {}) s.ref.ins i
def State.setRefIn (i : Nat) (x : RefIn) (s : State) : State :=
  s.withRef { s.ref with ins := SMap.set (fun _ => {}) s.ref.ins i x }

def refAbsent : Nat := 0
def refDisqualified : Nat := 1
def refQualifying : Nat := 2
def refQualified : Nat := 3

def State.monState (s : State) (i : Nat) : Nat := s.fld (MON_STAT i) MON_STAT_STATE
def State.qualified (s : State) (i : Nat) : Bool := s.monState i == refQualified

/-- Whether an input is present (R446). -/
def State.refPresent (s : State) (i : Nat) : Bool :=
  bitOf (s.reg REF_IN_CFG) i &&
    (if i = 3 then s.on (TB_STAT 0) TB_STAT_LOCK
     else if i = 4 then s.on (TB_STAT 1) TB_STAT_LOCK
     else if i = 5 then s.on (SAP_STAT (bits (s.reg REF_IN_CFG) 23 20)) SAP_STAT_LOCK
     else (s.refIn i).present)

/-- Whether a stamp lies in a stroke before this one. -/
def State.oldStamp (s : State) (x : BitVec 64) : Bool := decide ((x - 64 * s.tim.bnd).toInt < 0)

/-- REFERENCE_EDGE: an edge of an enabled input, stamped in 1/64 ROOT cycle (R446, R448); the first of a stroke is its
phase sample (R457). -/
def execReferenceEdge (i : Fin 6) (stamp : BitVec 64) (s : State) : Host.Outcome State Fault Refusal :=
  .next (if bitOf (s.reg REF_IN_CFG) i then
    let x := s.refIn i
    let new := match x.edge with | some e => s.oldStamp e | none => true
    s.setRefIn i { x with present := true, edge := if new then some stamp else x.edge }
  else s)

/-- REF_INPUT_ABSENT: presence is missed and the samples of the stroke from there on are discarded (R446, R456). -/
def execRefInputAbsent (i : Fin 6) (s : State) : Host.Outcome State Fault Refusal :=
  .next (s.setRefIn i { s.refIn i with present := false, edge := none, stamps := [], whole := false })

/-! ### The loop's registers -/

/-- H in ppb times 2^48, for comparisons with ε (R450). -/
def State.centre48 (s : State) : Int := if s.on REF_STAT REF_STAT_HISTOK then 1000000000 * s.ref.h else 0

/-- |ε − C| against a limit given in units of 0.1 ppm times a fraction of ten. -/
def State.epsBeyond (s : State) (eps : Word) (tenths : Nat) : Bool :=
  let d := 2 ^ 48 * eps.toInt - s.centre48
  decide ((tenths : Int) * 10 * 2 ^ 48 < if d < 0 then -d else d)

def State.softTenths (s : State) : Nat := 10 * (bits (s.reg REF_QUAL) 31 24)

/-- REF_ABSORB, signed, in 1/64 ROOT cycle. -/
def State.absorb (s : State) : Int := (joinWords 48 (s.reg REF_ABSORB_HI) (s.reg REF_ABSORB_LO)).toInt
def State.setAbsorb (x : Int) (s : State) : State :=
  let w := BitVec.ofInt 48 x
  (s.setReg REF_ABSORB_LO (loWord w)).setReg REF_ABSORB_HI (hiWord w)

/-- The range of y, ±200 ppm in 2^-48 (R443). -/
def yLimit : Int := 56294995342

/-- Set y, and REF_FREQ in units of 2^-40 (R466). -/
def State.setY (y : Int) (s : State) : State :=
  let y := clampI (-yLimit) yLimit y
  ((s.setReg REF_FREQ (BitVec.ofInt 32 (y / 256))).withRef { s.ref with y := y })

def State.setH (h : Int) (s : State) : State :=
  ((s.setReg REF_HOLDEST (BitVec.ofInt 32 (h / 256))).withRef { s.ref with h := h })

/-- A frequency in ppb as a frequency word. -/
def ppbToY (e : Word) : Int := roundHalfEven (2 ^ 48 * e.toInt) 1000000000

def loopFree : Nat := 0
def loopAcquire : Nat := 1
def loopNarrow : Nat := 2
def loopTrack : Nat := 3
def loopHoldover : Nat := 4

def State.loop (s : State) : Nat := s.fld REF_STAT REF_STAT_LOOP
def State.activeIn (s : State) : Nat := s.fld REF_STAT REF_STAT_ACTIVE

/-- LOCKED clears; EVT_REF_UNLOCK marks a fall in TRACK (R460). -/
def State.unlockLoop (tell : Bool) (s : State) : State :=
  let was := s.on REF_STAT REF_STAT_LOCKED
  let s := ((s.setFld REF_STAT REF_STAT_LOCKED 0).withRef { s.ref with lockRun := 0 })
  if was && tell then s.mark EVT_REF_UNLOCK else s

/-- Enter a loop state. -/
def State.setLoop (l : Nat) (s : State) : State :=
  let s := s.setFld REF_STAT REF_STAT_LOOP l
  let s := if l = loopTrack then s else s.unlockLoop false
  s.withRef { s.ref with acq := 0 }

/-! ### Qualification (R448, R449) -/

/-- Whether a 1 s window completes in this stroke. -/
def State.windowEnds (s : State) : Bool := decide (s.tim.strk.toNat % 12000 = 11999)

/-- The nominal period of an input in 1/100 ROOT cycle (R457). -/
def State.period100 (s : State) (i : Nat) : Int :=
  if i = 0 then (if bitOf (s.reg REF_IN_CFG) 18 then 1280000 else 2560000)
  else if i = 1 then 12288
  else if i = 2 then (if bitOf (s.reg REF_IN_CFG) 19 then 1280000 else 2560000)
  else if i = 5 then (s.samplePeriod : Int) * 100
  else 10240000

/-- ε between two samples in ppb (R448): the periods that lie between them against their distance, which y turns from
ROOT cycles into those of the local oscillator. -/
def State.epsilon (s : State) (i : Nat) (a b : RefStamp) : Option Word :=
  let d : Int := ((b.stamp - a.stamp).toNat : Int)
  let p := s.period100 i
  let k : Int := (b.eval - a.eval : Nat)
  let n := b.periods - a.periods
  let den := 100 * d * 2 ^ 48 * k
  if den = 0 then none
  else
    let num := 64 * n * p * (2 ^ 48 * k + (b.ySum - a.ySum)) - den
    some (BitVec.ofInt 32 (clampI (-2147483648) 2147483647 (roundHalfEven (1000000000 * num) den)))

/-- The sample of this evaluation: the periods since the one before are the nearest whole number. -/
def State.sampleNow (s : State) (i : Nat) : Option RefStamp :=
  (s.refIn i).edge.map fun e =>
    let n := match (s.refIn i).stamps.getLast? with
      | some a => a.periods + roundHalfEven (100 * ((e - a.stamp).toNat : Int)) (64 * s.period100 i)
      | none => 0
    ⟨e, n, s.ref.evals, s.ref.ySum⟩

/-- The fast ε: over the last 10 ms, 120 strokes (R448). -/
def State.measureFast (i : Nat) (s : State) : State :=
  let x := s.refIn i
  match s.sampleNow i with
  | none => s
  | some b =>
    let s := s.setRefIn i { x with stamps := (x.stamps.filter fun a => decide (b.eval < a.eval + 120)) ++ [b] }
    match (x.stamps.find? fun a => a.eval + 120 == b.eval).bind fun a => s.epsilon i a b with
    | some e => s.setReg (MON_FAST i) e
    | none => s

/-- The slow ε of a window that completes, when it counts: the input was present throughout (R448). -/
def State.slowEps (s : State) (i : Nat) : Option Word :=
  let x := s.refIn i
  match x.first, x.stamps.getLast? with
  | some a, some b => if x.whole ∧ a.eval + 11999 = b.eval then s.epsilon i a b else none
  | _, _ => none

/-- The runs of windows of an input (R449): a window that does not count breaks them. -/
def State.noteWindow (i : Nat) (slow : Option Word) (s : State) : State :=
  match slow with
  | none => (s.setFld (MON_STAT i) MON_STAT_OUT 0).setFld (MON_STAT i) MON_STAT_IN 0
  | some e =>
    let out := s.epsBeyond e s.softTenths
    let inside := !s.epsBeyond e (s.softTenths * 8 / 10)
    let s := s.setReg (MON_FREQ i) e
    let s := s.setFld (MON_STAT i) MON_STAT_OUT (if out then min 255 (s.fld (MON_STAT i) MON_STAT_OUT + 1) else 0)
    s.setFld (MON_STAT i) MON_STAT_IN (if inside then min 65535 (s.fld (MON_STAT i) MON_STAT_IN + 1) else 0)

/-- The measurements of one input, and its runs of windows (R448, R449). -/
def State.measure (i : Nat) (s : State) : State :=
  let here := s.refPresent i
  let s := s.setRefIn i { s.refIn i with whole := (s.refIn i).whole && here }
  let s := s.measureFast i
  let s := if s.tim.strk.toNat % 12000 = 0 then s.setRefIn i { s.refIn i with first := (s.refIn i).stamps.getLast? } else s
  if s.windowEnds then
    let slow := s.slowEps i
    (s.setRefIn i { s.refIn i with whole := here, first := none }).noteWindow i slow
  else s

/-- The first matching row of R449. -/
def State.qualifyTo (s : State) (i : Nat) : Nat :=
  let st := s.monState i
  let fast := (s.reg (MON_FAST i)).toInt
  let run := s.fld (MON_STAT i) MON_STAT_IN
  if s.refPresent i = false then refAbsent
  else if 100000 < fast ∨ fast < -100000 then refDisqualified
  else if st = refQualified ∧ bits (s.reg REF_QUAL) 23 16 ≤ s.fld (MON_STAT i) MON_STAT_OUT then refDisqualified
  else if st ≠ refQualified ∧ (s.refIn i).judged = false ∧ 2 ≤ run then refQualified
  else if st ≠ refQualified ∧ bits (s.reg REF_QUAL) 15 8 ≤ run then refQualified
  else if st = refAbsent then refQualifying
  else st

/-- One input's state is brought up to date (R449, R468). -/
def State.qualify (i : Nat) (s : State) : State :=
  let old := s.monState i
  let new := s.qualifyTo i
  let fast := (s.reg (MON_FAST i)).toInt
  let s := s.setFld (MON_STAT i) MON_STAT_STATE new
  let s := if new = refAbsent ∧ old ≠ refAbsent then s.setFld (MON_STAT i) MON_STAT_LOSS 1 else s
  let s := if new = refDisqualified ∧ (100000 < fast ∨ fast < -100000) then s.setFld (MON_STAT i) MON_STAT_HARD 1 else s
  let s := if new = refQualified ∨ new = refDisqualified then s.setRefIn i { s.refIn i with judged := true } else s
  let s := s.setRegBit REF_STAT (8 + i) (new == refQualified)
  let s := s.setRegBit REF_STAT i (s.refPresent i)
  if old = refQualified ∧ new ≠ refQualified then (s.bump CTR_REF_DISQ_CNT).mark EVT_REF_DISQ
  else if old ≠ refQualified ∧ new = refQualified then
    ((s.setFld (MON_STAT i) MON_STAT_HARD 0).setFld (MON_STAT i) MON_STAT_LOSS 0).mark EVT_REF_QUAL
  else s

/-! ### Selection (R452 to R455) -/

def State.rank (s : State) (i : Nat) : Nat := bits (s.reg REF_RANK) (3 * i + 2) (3 * i)

/-- Whether the QUALIFIED inputs of a rank differ by more than DISP (R454). -/
def State.disputed (s : State) (r : Nat) : Bool :=
  let l := (List.range 6).filter fun i => s.qualified i && decide (s.rank i = r)
  l.any fun i => l.any fun j =>
    decide ((bits (s.reg REF_QUAL) 7 0 : Int) * 100 < (s.reg (MON_FREQ i)).toInt - (s.reg (MON_FREQ j)).toInt)

/-- The best rank among the QUALIFIED inputs. -/
def State.bestRank (s : State) : Nat := ((List.range 6).filter fun i => s.qualified i).foldl (fun m i => min m (s.rank i)) 8

/-- The distance of an input's last slow ε from C. -/
def State.fromCentre (s : State) (i : Nat) : Nat := (2 ^ 48 * (s.reg (MON_FREQ i)).toInt - s.centre48).natAbs

/-- The choice among all QUALIFIED inputs (R454); 6 when there is none. -/
def State.chooseRef (s : State) : Nat :=
  let l := (List.range 6).filter fun i => s.qualified i && decide (s.rank i = s.bestRank)
  if l.contains s.activeIn then s.activeIn
  else if s.disputed s.bestRank then
    (l.foldl (fun (b : Option Nat) i => match b with
      | none => some i
      | some j => if s.fromCentre i < s.fromCentre j then some i else b) none).getD 6
  else l.headD 6

/-- The active input that the selector chooses (R452, R453, R455), 6 for none; and whether the choice used SEL. -/
def State.selectRef (s : State) : Nat × Bool :=
  let cfg := s.reg REF_SEL
  let act := s.activeIn
  let actOk := decide (act < 6) && s.qualified act
  if bitOf cfg 8 then
    let c := s.chooseRef
    if actOk ∧ ¬ (c < 6 ∧ s.rank c < s.rank act) then (act, false) else (c, false)
  else
    let sel := bits cfg 2 0
    if 6 ≤ sel then (6, false)
    else if s.qualified sel ∧ (s.ref.selNew = true ∨ bitOf cfg 10 = true) then (sel, true)
    else if actOk then (act, false)
    else if bitOf cfg 9 then (s.chooseRef, false)
    else (6, false)

/-- Entry to HOLDOVER (R458, R464), or to FREE from an acquisition without history. -/
def State.enterHoldover (s : State) : State :=
  let l := s.loop
  let s := (s.setFld REF_STAT REF_STAT_ACTIVE 6).withRef { s.ref with fresh := false }
  if l = loopFree ∨ l = loopHoldover then s
  else
    let ok := s.on REF_STAT REF_STAT_HISTOK
    if ok = false ∧ (l = loopAcquire ∨ l = loopNarrow) then (s.setLoop loopFree).bump CTR_REF_SWITCH_CNT |>.mark EVT_REF_SWITCH
    else
      let s := (s.unlockLoop true).setLoop loopHoldover
      let s := if ok then s.setY s.ref.h else s
      let s := ((s.setReg REF_HOLDTIME 0).withRef { s.ref with held := 0, heldH := ok })
      ((s.mark EVT_REF_HOLDOVER).bump CTR_REF_SWITCH_CNT).mark EVT_REF_SWITCH

/-- A new active input (R455, R458): from another input or from HOLDOVER y is preset, and the offset is absorbed with
the first sample (R461); from FREE the loop acquires it. -/
def State.activate (i : Nat) (s : State) : State :=
  let l := s.loop
  let s := s.setFld REF_STAT REF_STAT_ACTIVE i
  let s := (s.bump CTR_REF_SWITCH_CNT).mark EVT_REF_SWITCH
  if l = loopFree then (s.setLoop loopAcquire).setFld REF_STAT REF_STAT_STEP 0
  else
    let s := if l = loopAcquire ∨ l = loopNarrow then s else s.setLoop loopTrack
    (s.withRef { s.ref with fresh := true }).setY (ppbToY (s.reg (MON_FREQ i)))

/-! ### The loop (R457 to R462) -/

/-- An edge against the lattice of the input's period, in 1/64 ROOT cycle, within half a period of 0. -/
def State.lattice (s : State) (i : Nat) (x : Int) : Int :=
  let p := 64 * (s.period100 i)
  let r := (100 * x) % p
  roundHalfEven (if 2 * r < p then r else r - p) 100

/-- The bandwidth of the loop in Hz (R458). -/
def State.bandwidth (s : State) : Rat :=
  let tbw : Rat := (bits (s.reg REF_LOOP) 5 0 : Rat) / 10
  if s.loop = loopAcquire then 200 else if s.loop = loopNarrow then s.ref.band else tbw

/-- A narrowing step (R459): the next bandwidth; TRACK at TBW. -/
def State.narrow (s : State) : State :=
  let tbw : Rat := (bits (s.reg REF_LOOP) 5 0 : Rat) / 10
  let b := max tbw (s.ref.band / 4)
  let s := s.setFld REF_STAT REF_STAT_STEP (min 7 (s.fld REF_STAT REF_STAT_STEP + 1))
  let s := s.withRef { s.ref with band := b }
  if b ≤ tbw then s.setLoop loopTrack else s

/-- NARROW_STEP_EXPIRY (R459). -/
def execNarrowStepExpiry (s : State) : Host.Outcome State Fault Refusal := .next (if s.loop = loopNarrow then s.narrow else s)

/-- The states that follow a phase error: acquisition, LOCKED (R458, R460). -/
def State.judgePhase (e : Int) (s : State) : State :=
  let a := e.natAbs
  if s.loop = loopAcquire then
    let n := if a ≤ 64 * 64 then s.ref.acq + 1 else 0
    let s := s.withRef { s.ref with acq := n }
    if 120 ≤ n then
      let s := (s.setLoop loopNarrow).setFld REF_STAT REF_STAT_STEP 0
      (s.withRef { s.ref with band := 200 }).narrow
    else s
  else if s.loop = loopTrack then
    let th := 64 * (bits (s.reg REF_LOOP) 31 16)
    if s.on REF_STAT REF_STAT_LOCKED then (if 4 * th < a then s.unlockLoop true else s)
    else
      let n := if a ≤ th then s.ref.lockRun + 1 else 0
      let s := s.withRef { s.ref with lockRun := n }
      if 12000 ≤ n then (s.setFld REF_STAT REF_STAT_LOCKED 1).mark EVT_REF_LOCK else s
  else s

/-- Whether a fine pull of R57 is under way. -/
def State.pulling (s : State) : Bool := decide (s.tim.align = .pull)

/-- The limit of the trim in units of 0.1 ppm; `none` while it is not active (R462). -/
def State.trimRate (s : State) : Option Nat :=
  let l := s.loop
  if s.on STK_STAT STK_STAT_MEAS = false ∨ ¬ (l = loopAcquire ∨ l = loopNarrow ∨ l = loopTrack) then none
  else if s.mode = modePoised ∨ s.mode = modeService then
    (if s.pulling then some (10 * (bits s.tim.steer 15 8)) else none)
  else if s.live ∧ s.activeIn = 3 + s.fld STK_STAT STK_STAT_GOV then some (bits s.tim.steer 7 0)
  else none

/-- The trim moves the absorbed offset (R462) by at most 0.1024·r ROOT cycles, r in ppm: 65536·r in units of a
hundred-thousandth of REF_ABSORB's 1/64 cycle, which REF_ABSORB shows rounded down. -/
def State.trim (s : State) : State :=
  match s.trimRate with
  | none => s
  | some r =>
    let lim : Int := (65536 * r : Nat)
    let x := 100000 * s.absorb + s.ref.frac + clampI (-lim) lim (6400000 * (s.reg STK_ALIGN_ERR).toInt)
    (s.setAbsorb (x / 100000)).withRef { s.ref with frac := (x % 100000).toNat }

/-- One update with the sample of the active input (R457); the first after it became active absorbs the offset (R461). -/
def State.loopSample (x : BitVec 64) (s : State) : State :=
  let i := s.activeIn
  let raw := s.lattice i (x.toNat : Int)
  let s := if s.ref.fresh then (s.setAbsorb raw).withRef { s.ref with frac := 0, fresh := false } else s.trim
  let e := s.lattice i (raw - s.absorb)
  let s := s.setReg REF_PHERR (BitVec.ofInt 32 e)
  let s := s.setY (Config.loopUpdate s.bandwidth s.ref.y e)
  s.judgePhase e

/-- Holdover's time and history's windows at each evaluation (R463, R464). -/
def State.holdCount (s : State) : State :=
  if s.loop = loopHoldover then
    let n := s.ref.held + 1
    ((s.setReg REF_HOLDTIME (BitVec.ofNat 32 (n / 12000))).withRef { s.ref with held := n })
  else s

/-- Whether a window that ended at a boundary lies within the AVG seconds before the last GUARD seconds (R463). -/
def State.inSpan (s : State) (e : BitVec 64) : Bool :=
  let age := (s.tim.bnd - e).toNat
  let guard := bits (s.reg REF_HOLD) 15 8
  decide (guard * 1228800000 ≤ age) && decide (age + 1228800000 ≤ (guard + bits (s.reg REF_HOLD) 7 0) * 1228800000)

/-- H and HISTOK from the entries of the history's span (R463). -/
def State.estimate (s : State) : State :=
  let l := s.ref.hist.filter fun e => s.inSpan e.1
  let s := s.setFld REF_STAT REF_STAT_HISTOK (b2n (decide (10 ≤ l.length)))
  if l.isEmpty then s else s.setH (roundHalfEven (l.foldl (fun a e => a + e.2) 0) l.length)

/-- The window of y's mean goes on, and a completed one becomes a history entry (R463). -/
def State.history (s : State) : State :=
  let ok := s.ref.tracked && decide (s.loop = loopTrack) && decide (s.activeIn < 6) && s.qualified s.activeIn
  let s := s.withRef { s.ref with sum := s.ref.sum + s.ref.y, count := s.ref.count + 1, tracked := ok }
  if s.windowEnds then
    let mean := roundHalfEven s.ref.sum s.ref.count
    let far := s.on REF_STAT REF_STAT_HISTOK && decide ((bits (s.reg REF_QUAL) 31 24 : Int) * 100 * 2 ^ 48 < (((mean - s.ref.h) * 1000000000).natAbs : Int))
    let keep := s.ref.tracked && decide (s.ref.count = 12000) && !far
    let hist := if keep then s.ref.hist ++ [(s.tim.bnd, mean)] else s.ref.hist
    (s.withRef { s.ref with hist := hist.drop (hist.length - 64), sum := 0, count := 0, tracked := true }).estimate
  else s

/-- DISPUTE: of the rank from which the active input was chosen, or would be chosen (R454). -/
def State.judgeDispute (s : State) : State :=
  let r := if s.activeIn < 6 ∧ s.qualified s.activeIn = true then s.rank s.activeIn else s.bestRank
  let was := s.on REF_STAT REF_STAT_DISPUTE
  let now := s.disputed r
  let s := s.setFld REF_STAT REF_STAT_DISPUTE (b2n now)
  if now && !was then s.mark EVT_REF_DISPUTE else s

/-- The active input is chosen, and a new choice acts (R452 to R455). -/
def State.reselect (s : State) : State :=
  let (c, sel) := s.selectRef
  let old := s.activeIn
  let s := if sel ∨ (c ≠ old ∧ c < 6) then s.withRef { s.ref with selNew := false } else s
  if c = old then s else if c < 6 then s.activate c else s.enterHoldover

/-- The loop's update with the active input's sample (R456, R457). -/
def State.updateLoop (s : State) : State :=
  if s.activeIn < 6 then
    match (s.refIn s.activeIn).edge with
    | some x => s.loopSample x
    | none => s
  else s

/-- The evaluation is over: y is summed, the samples of the stroke are gone. -/
def State.endEval (s : State) : State :=
  let s := s.withRef { s.ref with evals := s.ref.evals + 1, ySum := s.ref.ySum + s.ref.y }
  each (List.range 6) (fun i s => s.setRefIn i { s.refIn i with edge := none }) s

/-- SELECTOR_EVALUATION: at ROOT cycle 51,200, in the order of R451. -/
def execSelectorEvaluation (s : State) : Host.Outcome State Fault Refusal :=
  let s := each (List.range 6) State.measure (s.atRoot 51200)
  let s := each (List.range 6) State.qualify s
  .next s.judgeDispute.reselect.updateLoop.holdCount.history.endEval

/-- At the end of a folio load every input restarts (R468). -/
def State.refsRestart (s : State) : State :=
  each (List.range 6) (fun i s =>
    let s := s.setReg (MON_STAT i) 0
    let s := s.setFld (MON_STAT i) MON_STAT_STATE (if s.refPresent i then refQualifying else refAbsent)
    let s := s.setRegBit REF_STAT (8 + i) false
    s.setRefIn i { s.refIn i with judged := false, whole := false, first := none }) s

end Sys2Proof.Machine
end

