-- ==== Sys2Proof/Machine/Float.lean ====
section
/-! DEFINITION. binary32 as R97 and R98 fix it, over exact dyadic numbers: a finite value is
(-1)^neg · mant · 2^exp, computed exactly and rounded once. -/

namespace Sys2Proof.Machine

/-- A binary32 operand as R97 reads it. -/
inductive FVal where
  | nan
  | inf (neg : Bool)
  | fin (d : Dyad)
  deriving DecidableEq, Repr

/-- The one NaN that every operation returns (R97). -/
def qnan : Word := 0x7FC00000

/-- A binary32 word, subnormals read as zero of the same sign (R97). -/
def f32Read (w : Word) : FVal :=
  let neg := bitOf w 31
  let e : Nat := w.toNat / 2 ^ 23 % 256
  let m : Nat := w.toNat % 2 ^ 23
  if e = 255 then (if m = 0 then .inf neg else .nan)
  else if e = 0 then .fin ⟨neg, 0, 0⟩
  else .fin ⟨neg, 2 ^ 23 + m, (e : Int) - 150⟩

/-- A signalling NaN: the quiet bit is 0. -/
def f32Signalling (w : Word) : Bool :=
  decide (f32Read w = .nan) && !bitOf w 22

/-- The magnitude `m · 2^e` rounded to `p` significant bits, to nearest with ties to even. -/
def roundSig (p : Nat) (m : Nat) (e : Int) : Nat × Int :=
  let n := if m = 0 then 0 else Nat.log2 m + 1
  if n ≤ p then (m, e)
  else
    let sh := n - p
    let q := m / 2 ^ sh
    let r := m % 2 ^ sh
    let up := decide (2 ^ (sh - 1) < r) || (decide (r = 2 ^ (sh - 1)) && decide (q % 2 = 1))
    ((if up then q + 1 else q), e + sh)

/-- Zero of a sign. -/
def f32Zero (neg : Bool) : Word := if neg then 0x80000000 else 0
/-- Infinity of a sign. -/
def f32Inf (neg : Bool) : Word := if neg then 0xFF800000 else 0x7F800000

/-- The binary32 word of an exact number, and whether it overflowed: rounded to 24 significant bits as
though the exponent range had no lower limit, then flushed below 2^-126 (R97). -/
def f32Round (d : Dyad) : Word × Bool :=
  let (q, e) := roundSig 24 d.mant d.exp
  if q = 0 then (f32Zero d.neg, false)
  else
    let n := Nat.log2 q
    let ex : Int := e + n
    if ex < -126 then (f32Zero d.neg, false)
    else if 127 < ex then (f32Inf d.neg, true)
    else
      let frac := if n ≤ 23 then q * 2 ^ (23 - n) else q / 2 ^ (n - 23)
      (BitVec.ofNat 32 (2 ^ 31 * (b2n d.neg) + 2 ^ 23 * (ex + 127).toNat + frac % 2 ^ 23), false)

/-- The signed mantissa of a dyadic number brought to an exponent not above its own. -/
def Dyad.at (d : Dyad) (e : Int) : Int :=
  let m : Int := (d.mant : Int) * 2 ^ (d.exp - e).toNat
  if d.neg then -m else m

/-- The exact sum. A zero sum of opposite signs is +0; of equal signs keeps the sign. -/
def Dyad.add (a b : Dyad) : Dyad :=
  let e := if a.exp ≤ b.exp then a.exp else b.exp
  let x := a.at e + b.at e
  if x = 0 then ⟨a.neg && b.neg, 0, 0⟩ else ⟨decide (x < 0), x.natAbs, e⟩

/-- The exact product. -/
def Dyad.mul (a b : Dyad) : Dyad := ⟨xor a.neg b.neg, a.mant * b.mant, a.exp + b.exp⟩

/-- A result with the sticky conditions it raises: FI, FO, SV (R87). -/
structure FRes where
  w : Word
  fi : Bool := false
  fo : Bool := false
  sv : Bool := false
  deriving DecidableEq, Repr

/-- Round an exact number into a result. -/
def fRound (d : Dyad) : FRes := ⟨(f32Round d).1, false, (f32Round d).2, false⟩

/-- A NaN result; `inv` says whether the operation is invalid under IEEE 754. -/
def fNan (inv : Bool) : FRes := ⟨qnan, inv, false, false⟩

/-- Sum of two operands already read. `sig` is whether an operand was a signalling NaN. -/
def fSum (sig : Bool) : FVal → FVal → FRes
  | .nan, _ => fNan sig
  | _, .nan => fNan sig
  | .inf a, .inf b => if a = b then ⟨f32Inf a, false, false, false⟩ else fNan true
  | .inf a, .fin _ => ⟨f32Inf a, false, false, false⟩
  | .fin _, .inf b => ⟨f32Inf b, false, false, false⟩
  | .fin a, .fin b => fRound (a.add b)

/-- The sign of an operand turned over. -/
def FVal.neg : FVal → FVal
  | .nan => .nan
  | .inf a => .inf (!a)
  | .fin d => .fin ⟨!d.neg, d.mant, d.exp⟩

/-- binary32 addition (R97). -/
def f32Add (a b : Word) : FRes :=
  fSum (f32Signalling a || f32Signalling b) (f32Read a) (f32Read b)

/-- binary32 subtraction (R97). -/
def f32Sub (a b : Word) : FRes :=
  fSum (f32Signalling a || f32Signalling b) (f32Read a) (f32Read b).neg

/-- The product of two operands: an exact number, an infinity, or a NaN; `true` marks ∞ × 0. -/
def fProd : FVal → FVal → FVal × Bool
  | .nan, _ => (.nan, false)
  | _, .nan => (.nan, false)
  | .inf a, .inf b => (.inf (xor a b), false)
  | .inf a, .fin d => if d.mant = 0 then (.nan, true) else (.inf (xor a d.neg), false)
  | .fin d, .inf b => if d.mant = 0 then (.nan, true) else (.inf (xor d.neg b), false)
  | .fin a, .fin b => (.fin (a.mul b), false)

/-- binary32 multiplication (R97). -/
def f32Mul (a b : Word) : FRes :=
  let sig := f32Signalling a || f32Signalling b
  match fProd (f32Read a) (f32Read b) with
  | (.nan, inv) => fNan (inv || sig)
  | (.inf n, _) => ⟨f32Inf n, false, false, false⟩
  | (.fin d, _) => fRound d

/-- Fused multiply-add `c + a · b`, rounded once; ∞ × 0 is invalid whatever `c` holds (R97). -/
def f32Fma (c a b : Word) : FRes :=
  let sig := f32Signalling a || f32Signalling b || f32Signalling c
  match fProd (f32Read a) (f32Read b) with
  | (.nan, true) => fNan true
  | (p, _) => fSum sig (f32Read c) p

/-- The word of an operand as it is read: a subnormal is the zero of its sign (R97). -/
def f32AsRead (w : Word) : Word :=
  match f32Read w with
  | .fin d => if d.mant = 0 then f32Zero d.neg else w
  | _ => w

/-- An operand as it is read with its sign replaced; a NaN is the one NaN (R97, R137). -/
def f32Signed (w : Word) (neg : Bool) : Word :=
  match f32Read w with
  | .nan => qnan
  | _ => setBit (f32AsRead w) 31 neg

/-- A total order key of a non-NaN operand; −0 below +0 (R138). -/
def f32Less (a b : Word) : Bool :=
  let key (w : Word) : Int :=
    if bitOf w 31 then -((w.toNat % 2 ^ 31 : Nat) : Int) - 1 else ((w.toNat % 2 ^ 31 : Nat) : Int)
  decide (key a < key b)

/-- FMIN and FMAX (R138): `greater` selects FMAX. -/
def f32MinMax (greater : Bool) (a b : Word) : Word :=
  match f32Read a, f32Read b with
  | .nan, .nan => qnan
  | .nan, _ => f32AsRead b
  | _, .nan => f32AsRead a
  | _, _ =>
    let x := f32AsRead a
    let y := f32AsRead b
    if greater then (if f32Less x y then y else x) else (if f32Less y x then y else x)

/-- FCMP (R137, R138): −1, 0, +1, or 2 when unordered, which sets FI. −0 and +0 are equal. -/
def f32Cmp (a b : Word) : FRes :=
  match f32Read a, f32Read b with
  | .nan, _ => ⟨2, true, false, false⟩
  | _, .nan => ⟨2, true, false, false⟩
  | _, _ =>
    let z (w : Word) : Word := if w = 0x80000000 then 0 else w
    let x := z (f32AsRead a)
    let y := z (f32AsRead b)
    if f32Less x y then ⟨0xFFFFFFFF, false, false, false⟩
    else if f32Less y x then ⟨1, false, false, false⟩ else ⟨0, false, false, false⟩

/-- Q1.31 to binary32, to nearest with ties to even (R98). -/
def q31ToF32 (x : Word) : Word :=
  (f32Round ⟨decide (x.toInt < 0), x.toInt.natAbs, -31⟩).1

/-- A dyadic number times 2^k, rounded to an integer with ties to even. -/
def Dyad.toIntEven (d : Dyad) (k : Int) : Int :=
  let e := d.exp + k
  let m : Int := if d.neg then -(d.mant : Int) else d.mant
  if 0 ≤ e then m * 2 ^ e.toNat else roundHalfEven m (2 ^ (-e).toNat)

/-- binary32 to Q1.31: times 2^31, ties to even, saturated (R98). -/
def f32ToQ31 (w : Word) : FRes :=
  match f32Read w with
  | .nan => ⟨0, true, false, false⟩
  | .inf n => ⟨if n then 0x80000000 else 0x7FFFFFFF, false, false, true⟩
  | .fin d =>
    let t := d.toIntEven 31
    ⟨wrap 32 (sat 32 t), false, false, outOf 32 t⟩

end Sys2Proof.Machine
end

