-- ==== Sys2Proof/Machine/NibDecode.lean ====
section
/-! DEFINITION. The nib's 32-bit instruction words (R129 to R155): which instruction a word spells, `none` for
an undefined encoding or a reserved field that is not 0, and the word of an instruction. -/

namespace Sys2Proof.Machine

/-- A field of a word: `len` bits from bit `lo`. -/
abbrev fieldOf (w : Word) (lo len : Nat) : BitVec len := w.extractLsb' lo len

/-- The instruction when every reserved bit is 0. -/
def ifOk (b : Bool) (i : Instr) : Option Instr := if b then some i else none

/-- A one-bit field as a flag. -/
def flagOf (b : BitVec 1) : Bool := b == 1#1

/-- A flag as a one-bit field. -/
def bit1 (b : Bool) : BitVec 1 := if b then 1#1 else 0#1

/-- Scalar integer, register operands (R133). -/
def decInt (n : NibId) (w : Word) : Option Instr :=
  let f := flagOf (fieldOf w 22 1)
  let sd := fieldOf w 16 6
  let sa := fieldOf w 10 6
  let sb := fieldOf w 4 6
  let sh := fieldOf w 4 5
  let c := fieldOf w 0 4
  let c0 := c == 0#4
  let s0 := fieldOf w 9 1 == 0#1
  match (fieldOf w 23 4).toNat with
  | 0 => ifOk c0 (.add n f sd sa sb)
  | 1 => ifOk c0 (.sub n f sd sa sb)
  | 2 => ifOk c0 (.and n f sd sa sb)
  | 3 => ifOk c0 (.or n f sd sa sb)
  | 4 => ifOk c0 (.xor n f sd sa sb)
  | 5 => ifOk c0 (.sll n f sd sa sb)
  | 6 => ifOk c0 (.srl n f sd sa sb)
  | 7 => ifOk c0 (.sra n f sd sa sb)
  | 8 => ifOk (c0 && s0) (.slli n f sd sa sh)
  | 9 => ifOk (c0 && s0) (.srli n f sd sa sh)
  | 10 => ifOk (c0 && s0) (.srai n f sd sa sh)
  | 11 => ifOk c0 (.min n f sd sa sb)
  | 12 => ifOk c0 (.max n f sd sa sb)
  | 13 => ifOk (!f && c != 15#4) (.sel n sd sa sb c)
  | 14 => ifOk (c0 && f && sd == 0#6) (.cmp n sa sb)
  | _ => none

/-- Scalar binary32 (R137). -/
def decFloat (n : NibId) (w : Word) : Option Instr :=
  let ok := fieldOf w 22 1 == 0#1 && fieldOf w 0 7 == 0#7
  let dd := fieldOf w 17 5
  let da := fieldOf w 12 5
  let db := fieldOf w 7 5
  let un := ok && db == 0#5
  match (fieldOf w 23 4).toNat with
  | 0 => ifOk ok (.fadd n dd da db)
  | 1 => ifOk ok (.fsub n dd da db)
  | 2 => ifOk ok (.fmul n dd da db)
  | 3 => ifOk ok (.fmin n dd da db)
  | 4 => ifOk ok (.fmax n dd da db)
  | 5 => ifOk un (.fabs n dd da)
  | 6 => ifOk un (.fneg n dd da)
  | 7 => ifOk ok (.fcmp n dd da db)
  | 8 => ifOk un (.fcvtqf n dd da)
  | 9 => ifOk un (.fcvtfq n dd da)
  | 10 => ifOk ok (.fma n dd da db)
  | _ => none

/-- Control (R150). -/
def decControl (n : NibId) (w : Word) : Option Instr :=
  let f22 := fieldOf w 19 4
  match (fieldOf w 23 4).toNat with
  | 0 => ifOk (fieldOf w 13 6 == 0#6 && f22 != 15#4) (.br n f22 (fieldOf w 0 13))
  | 1 => ifOk (fieldOf w 13 5 == 0#5) (.bdnz n (fieldOf w 18 5) (fieldOf w 0 13))
  | 2 => ifOk (fieldOf w 0 11 == 0#11) (.rep n (fieldOf w 11 12))
  | 3 => ifOk (fieldOf w 0 23 == 0#23) (.halt n)
  | 4 => ifOk (fieldOf w 0 23 == 0#23) (.reti n)
  | 5 => ifOk (fieldOf w 0 23 == 0#23) (.nop n)
  | 6 => ifOk (fieldOf w 0 23 == 0#23) (.fence n)
  | 7 => ifOk (fieldOf w 0 13 == 0#13 && f22 != 6#4 && f22.ult 8#4) (.movcTo n f22 (fieldOf w 13 6))
  | 8 => ifOk (fieldOf w 0 13 == 0#13 && f22.ult 10#4) (.movcFrom n f22 (fieldOf w 13 6))
  | 9 => ifOk (fieldOf w 3 20 == 0#20) (.irqclr n (fieldOf w 0 3))
  | _ => none

/-- The addressing mode of LD, ST, LDQ and STQ, when the mode's reserved bits are 0 (R139). -/
def decMode (w : Word) : Option MemMode :=
  let lowOk := fieldOf w 0 1 == 0#1
  match (fieldOf w 16 2).toNat with
  | 0 => if lowOk && fieldOf w 2 14 == 0#14 then some .plain else none
  | 1 => if lowOk && fieldOf w 2 14 == 0#14 then some .post else none
  | 2 => if lowOk && fieldOf w 2 9 == 0#9 then some (.index (fieldOf w 11 5)) else none
  | _ => if lowOk && fieldOf w 2 2 == 0#2 then some (.offset (fieldOf w 4 12)) else none

/-- LD, ST, LDQ, STQ (R139, R140). -/
def decMem (n : NibId) (op : Nat) (w : Word) : Option Instr :=
  let r := fieldOf w 22 5
  let p := fieldOf w 18 3
  let bx := flagOf (fieldOf w 1 1)
  let rOk := fieldOf w 21 1 == 0#1
  let qOk := fieldOf w 25 2 == 0#2
  match decMode w with
  | none => none
  | some m =>
    match op with
    | 8 => ifOk (rOk && !bx) (.ld n r p m)
    | 9 => ifOk rOk (.st n r p m bx)
    | 10 => ifOk (rOk && qOk && !bx) (.ldq n (fieldOf w 22 3) p m)
    | _ => ifOk (rOk && qOk) (.stq n (fieldOf w 22 3) p m bx)

/-- The two accesses of an LD2 share a D register (R143). -/
def dualShare (a b : DualAcc) : Bool :=
  let regs (x : DualAcc) : List Nat :=
    if x.quad then (List.range 4).map fun l => 4 * (x.dst.toNat % 8) + l else [x.dst.toNat]
  (regs a).any fun d => (regs b).contains d

/-- An LD2 that R142 and R143 define. -/
def dualOk (a b : DualAcc) : Bool :=
  !(a.quad && decide (8 ≤ a.dst.toNat)) && !(b.quad && decide (8 ≤ b.dst.toNat)) && a.p != b.p && !dualShare a b

/-- LD2 (R142). -/
def decLd2 (n : NibId) (w : Word) : Option Instr :=
  let a : DualAcc := ⟨flagOf (fieldOf w 26 1), fieldOf w 21 5, fieldOf w 18 3, flagOf (fieldOf w 17 1)⟩
  let b : DualAcc := ⟨flagOf (fieldOf w 16 1), fieldOf w 11 5, fieldOf w 8 3, flagOf (fieldOf w 7 1)⟩
  ifOk (fieldOf w 0 7 == 0#7 && dualOk a b) (.ld2 n a b)

/-- A second quad operand, when its reserved bits are 0 (R144, R146). -/
def decSrc (bflag : BitVec 1) (b : BitVec 5) : Option QSrc :=
  if flagOf bflag then some (.bcast b)
  else if b.extractLsb' 3 2 == 0#2 then some (.quad (b.extractLsb' 0 3)) else none

/-- Quad arithmetic (R144). -/
def decQuad (n : NibId) (w : Word) : Option Instr :=
  let m := fieldOf w 19 4
  let qd := fieldOf w 16 3
  let qa := fieldOf w 13 3
  let bf := fieldOf w 12 1
  let b := fieldOf w 7 5
  let ok := fieldOf w 0 7 == 0#7 && m != 0#4
  let un := ok && bf == 0#1 && b == 0#5
  let two (mk : QSrc → Instr) : Option Instr :=
    match decSrc bf b with
    | some x => ifOk ok (mk x)
    | none => none
  match (fieldOf w 23 4).toNat with
  | 0 => two (.qadds n m qd qa)
  | 1 => two (.qsubs n m qd qa)
  | 2 => two (.qmulr n m qd qa)
  | 3 => ifOk un (.qabss n m qd qa)
  | 4 => ifOk un (.qnegs n m qd qa)
  | 5 => two (.qmax n m qd qa)
  | 6 => two (.qmin n m qd qa)
  | 7 => two (.qshl n m qd qa)
  | 8 => two (.faddq n m qd qa)
  | 9 => two (.fsubq n m qd qa)
  | 10 => two (.fmulq n m qd qa)
  | 11 => two (.fmaq n m qd qa)
  | 12 => ifOk un (.fcvtqfq n m qd qa)
  | 13 => ifOk un (.fcvtfqq n m qd qa)
  | 14 => if flagOf bf then ifOk (ok && qa == 0#3) (.qmov n m qd (.bcast b)) else ifOk un (.qmov n m qd (.quad qa))
  | _ => none

/-- The parallel load of a QMAC, when its reserved bits are 0 (R147). -/
def decPar (lsz : BitVec 2) (dst : BitVec 5) (p : BitVec 3) : Option ParLoad :=
  match lsz.toNat with
  | 0 => if dst == 0#5 && p == 0#3 then some .none else none
  | 1 => some (.word dst p)
  | 2 => if dst.extractLsb' 3 2 == 0#2 then some (.quad (dst.extractLsb' 0 3) p) else none
  | _ => none

/-- QMAC (R146). -/
def decQmac (n : NibId) (w : Word) : Option Instr :=
  let x := flagOf (fieldOf w 24 1)
  let qa := fieldOf w 21 3
  let ok := fieldOf w 0 5 == 0#5
  match decSrc (fieldOf w 20 1) (fieldOf w 15 5), decPar (fieldOf w 13 2) (fieldOf w 8 5) (fieldOf w 5 3) with
  | some b, some l =>
    match (fieldOf w 25 2).toNat with
    | 0 => ifOk ok (.mpy n x qa b l)
    | 1 => ifOk ok (.mac n x qa b l)
    | 2 => ifOk ok (.msu n x qa b l)
    | _ => none
  | _, _ => none

/-- The forms of EXT that R148 defines. -/
def extOk (fmt : Bool) (mask : BitVec 4) (shift : BitVec 5) (bx : Bool) : Bool :=
  mask != 0#4 && (if fmt then shift == 0#5 && !bx else (shift.ule 8#5 || (24#5).ule shift))

/-- EXT (R148). -/
def decExt (n : NibId) (w : Word) : Option Instr :=
  let fmt := flagOf (fieldOf w 26 1)
  let m := fieldOf w 18 4
  let sh := fieldOf w 13 5
  let bx := flagOf (fieldOf w 12 1)
  ifOk (fieldOf w 0 11 == 0#11 && extOk fmt m sh bx)
    (.ext n fmt (flagOf (fieldOf w 25 1)) (fieldOf w 22 3) m sh bx (flagOf (fieldOf w 11 1)))

/-- ACLD and ACST (R149). -/
def decAcc (n : NibId) (w : Word) : Option Instr :=
  let x := flagOf (fieldOf w 25 1)
  let l := fieldOf w 23 2
  let d := fieldOf w 18 5
  let ok := fieldOf w 0 18 == 0#18 && d.ule 29#5
  if flagOf (fieldOf w 26 1) then ifOk ok (.acst n x l d) else ifOk ok (.acld n x l d)

/-- The instruction that a word spells on a nib (R129, R130). -/
def nibDecode (n : NibId) (w : Word) : Option Instr :=
  match (fieldOf w 27 5).toNat with
  | 1 => decInt n w
  | 2 => some (.addi n (flagOf (fieldOf w 26 1)) (fieldOf w 20 6) (fieldOf w 14 6) (fieldOf w 0 14))
  | 3 =>
    if flagOf (fieldOf w 26 1) then ifOk (fieldOf w 16 4 == 0#4) (.movh n (fieldOf w 20 6) (fieldOf w 0 16))
    else ifOk (fieldOf w 16 4 == 0#4) (.movl n (fieldOf w 20 6) (fieldOf w 0 16))
  | 4 => decFloat n w
  | 6 => decControl n w
  | 8 => decMem n 8 w
  | 9 => decMem n 9 w
  | 10 => decMem n 10 w
  | 11 => decMem n 11 w
  | 12 => decLd2 n w
  | 16 => decQuad n w
  | 17 => decQmac n w
  | 18 => decExt n w
  | 19 => decAcc n w
  | _ => none

/-! ### The word of an instruction -/

def encInt (func : BitVec 4) (f : Bool) (sd sa sb : BitVec 6) (c : BitVec 4) : Word :=
  1#5 ++ func ++ bit1 f ++ sd ++ sa ++ sb ++ c

def encShift (func : BitVec 4) (f : Bool) (sd sa : BitVec 6) (sh : BitVec 5) : Word :=
  1#5 ++ func ++ bit1 f ++ sd ++ sa ++ 0#1 ++ sh ++ 0#4

def encFloat (func : BitVec 4) (dd da db : BitVec 5) : Word := 4#5 ++ func ++ 0#1 ++ dd ++ da ++ db ++ 0#7

def encMode (m : MemMode) (bx : Bool) : BitVec 18 :=
  match m with
  | .plain => 0#2 ++ 0#14 ++ bit1 bx ++ 0#1
  | .post => 1#2 ++ 0#14 ++ bit1 bx ++ 0#1
  | .index dj => 2#2 ++ dj ++ 0#9 ++ bit1 bx ++ 0#1
  | .offset i => 3#2 ++ i ++ 0#2 ++ bit1 bx ++ 0#1

def encMem (op r : BitVec 5) (p : BitVec 3) (m : MemMode) (bx : Bool) : Word := op ++ r ++ 0#1 ++ p ++ encMode m bx

/-- The B flag and b field of a second quad operand. -/
def encSrc (b : QSrc) : BitVec 6 :=
  match b with
  | .quad q => 0#1 ++ (0#2 ++ q)
  | .bcast d => 1#1 ++ d

def encQuad (func mask : BitVec 4) (qd qa : BitVec 3) (b : BitVec 6) : Word :=
  16#5 ++ func ++ mask ++ qd ++ qa ++ b ++ 0#7

def encPar (l : ParLoad) : BitVec 10 :=
  match l with
  | .none => 0#10
  | .word d p => 1#2 ++ d ++ p
  | .quad q p => 2#2 ++ (0#2 ++ q) ++ p

def encQmac (op : BitVec 2) (x : Bool) (qa : BitVec 3) (b : QSrc) (l : ParLoad) : Word :=
  17#5 ++ op ++ bit1 x ++ qa ++ encSrc b ++ encPar l ++ 0#5

def encAcc (dir x : Bool) (l : BitVec 2) (d : BitVec 5) : Word := 19#5 ++ bit1 dir ++ bit1 x ++ l ++ d ++ 0#18

def encCtl (func : BitVec 4) (rest : BitVec 23) : Word := 6#5 ++ func ++ rest

/-- The word of a nib instruction; `none` for the commands that are no nib instruction. -/
def nibEncode (i : Instr) : Option Word :=
  match i with
  | .add _ f sd sa sb => some (encInt 0 f sd sa sb 0)
  | .sub _ f sd sa sb => some (encInt 1 f sd sa sb 0)
  | .and _ f sd sa sb => some (encInt 2 f sd sa sb 0)
  | .or _ f sd sa sb => some (encInt 3 f sd sa sb 0)
  | .xor _ f sd sa sb => some (encInt 4 f sd sa sb 0)
  | .sll _ f sd sa sb => some (encInt 5 f sd sa sb 0)
  | .srl _ f sd sa sb => some (encInt 6 f sd sa sb 0)
  | .sra _ f sd sa sb => some (encInt 7 f sd sa sb 0)
  | .slli _ f sd sa sh => some (encShift 8 f sd sa sh)
  | .srli _ f sd sa sh => some (encShift 9 f sd sa sh)
  | .srai _ f sd sa sh => some (encShift 10 f sd sa sh)
  | .min _ f sd sa sb => some (encInt 11 f sd sa sb 0)
  | .max _ f sd sa sb => some (encInt 12 f sd sa sb 0)
  | .sel _ sd sa sb c => some (encInt 13 false sd sa sb c)
  | .cmp _ sa sb => some (encInt 14 true 0 sa sb 0)
  | .addi _ f sd sa imm => some (2#5 ++ bit1 f ++ sd ++ sa ++ imm)
  | .movl _ sd imm => some (3#5 ++ 0#1 ++ sd ++ 0#4 ++ imm)
  | .movh _ sd imm => some (3#5 ++ 1#1 ++ sd ++ 0#4 ++ imm)
  | .fadd _ dd da db => some (encFloat 0 dd da db)
  | .fsub _ dd da db => some (encFloat 1 dd da db)
  | .fmul _ dd da db => some (encFloat 2 dd da db)
  | .fmin _ dd da db => some (encFloat 3 dd da db)
  | .fmax _ dd da db => some (encFloat 4 dd da db)
  | .fabs _ dd da => some (encFloat 5 dd da 0)
  | .fneg _ dd da => some (encFloat 6 dd da 0)
  | .fcmp _ dd da db => some (encFloat 7 dd da db)
  | .fcvtqf _ dd da => some (encFloat 8 dd da 0)
  | .fcvtfq _ dd da => some (encFloat 9 dd da 0)
  | .fma _ dd da db => some (encFloat 10 dd da db)
  | .ld _ dd p m => some (encMem 8 dd p m false)
  | .st _ ds p m bx => some (encMem 9 ds p m bx)
  | .ldq _ qd p m => some (encMem 10 (0#2 ++ qd) p m false)
  | .stq _ qs p m bx => some (encMem 11 (0#2 ++ qs) p m bx)
  | .ld2 _ a b => some (12#5 ++ bit1 a.quad ++ a.dst ++ a.p ++ bit1 a.pm ++ bit1 b.quad ++ b.dst ++ b.p ++ bit1 b.pm ++ 0#7)
  | .qadds _ m qd qa b => some (encQuad 0 m qd qa (encSrc b))
  | .qsubs _ m qd qa b => some (encQuad 1 m qd qa (encSrc b))
  | .qmulr _ m qd qa b => some (encQuad 2 m qd qa (encSrc b))
  | .qabss _ m qd qa => some (encQuad 3 m qd qa 0)
  | .qnegs _ m qd qa => some (encQuad 4 m qd qa 0)
  | .qmax _ m qd qa b => some (encQuad 5 m qd qa (encSrc b))
  | .qmin _ m qd qa b => some (encQuad 6 m qd qa (encSrc b))
  | .qshl _ m qd qa b => some (encQuad 7 m qd qa (encSrc b))
  | .faddq _ m qd qa b => some (encQuad 8 m qd qa (encSrc b))
  | .fsubq _ m qd qa b => some (encQuad 9 m qd qa (encSrc b))
  | .fmulq _ m qd qa b => some (encQuad 10 m qd qa (encSrc b))
  | .fmaq _ m qd qa b => some (encQuad 11 m qd qa (encSrc b))
  | .fcvtqfq _ m qd qa => some (encQuad 12 m qd qa 0)
  | .fcvtfqq _ m qd qa => some (encQuad 13 m qd qa 0)
  | .qmov _ m qd (.quad qa) => some (encQuad 14 m qd qa 0)
  | .qmov _ m qd (.bcast d) => some (encQuad 14 m qd 0 (encSrc (.bcast d)))
  | .mpy _ x qa b l => some (encQmac 0 x qa b l)
  | .mac _ x qa b l => some (encQmac 1 x qa b l)
  | .msu _ x qa b l => some (encQmac 2 x qa b l)
  | .ext _ fmt x qd m sh bx clr => some (18#5 ++ bit1 fmt ++ bit1 x ++ qd ++ m ++ sh ++ bit1 bx ++ bit1 clr ++ 0#11)
  | .acld _ x l d => some (encAcc false x l d)
  | .acst _ x l d => some (encAcc true x l d)
  | .br _ c t => some (encCtl 0 (c ++ 0#6 ++ t))
  | .bdnz _ d t => some (encCtl 1 (d ++ 0#5 ++ t))
  | .rep _ c => some (encCtl 2 (c ++ 0#11))
  | .halt _ => some (encCtl 3 0)
  | .reti _ => some (encCtl 4 0)
  | .nop _ => some (encCtl 5 0)
  | .fence _ => some (encCtl 6 0)
  | .movcTo _ c sa => some (encCtl 7 (c ++ sa ++ 0#13))
  | .movcFrom _ c sd => some (encCtl 8 (c ++ sd ++ 0#13))
  | .irqclr _ c => some (encCtl 9 (0#20 ++ c))
  | _ => none

end Sys2Proof.Machine
end

