-- ==== Sys2Proof/Machine/NibCore.lean ====
section
/-! DEFINITION. The nib core's sequencer and pipeline: register views and landings (R158 to R162), issue and
fetch, repeat and delay slots, traps (R119 to R123), interrupts (R113 to R116), the end of a slice (R89). -/

namespace Sys2Proof.Machine

def State.nib (s : State) (n : Nat) : Nib := SMap.get (fun _ => {}) s.nibs n

def State.setNib (n : Nat) (x : Nib) (s : State) : State :=
  s.withNibs (SMap.set (fun _ => {}) s.nibs n x)

/-- The fabric window of a nib (R78). -/
def nibWindow (n : Nat) : Nat := nibWin n

/-- The quire of a nib, 4·p + q (R23). -/
def quireOf (n : Nat) : Nat := if n < 256 then n / 16 else n - 256

/-- The nib within its quire; 16 is the relief nib. -/
def nibInQuire (n : Nat) : Nat := if n < 256 then n % 16 else 16

/-- A nib by its quire and its number there. -/
def nibAt (x i : Nat) : Nat := if i < 16 then 16 * x + i else 256 + x

/-- The SRAM window of quire 4·p + q (R527). -/
def quireSram (x : Nat) : Nat := 0x11000000 + 0x4000000 * (x / 4) + 0x200000 * (x % 4)

/-! ### Register views -/

def PVal.zero : PVal := ⟨0, false⟩

def Nib.bk (x : Nib) (b : Bool) : Bank := if b then x.shad else x.prim

def Nib.setBk (b : Bool) (k : Bank) (x : Nib) : Nib := if b then { x with shad := k } else { x with prim := k }

/-- The selected bank. -/
def Nib.cur (x : Nib) : Bank := x.bk x.bank

/-- An S register read as data. -/
def Nib.rs (x : Nib) (r : BitVec 6) : PVal := SMap.get (fun _ => PVal.zero) x.cur.s r.toNat

/-- A D register read as data. -/
def Nib.rd (x : Nib) (d : BitVec 5) : PVal := x.rs (d.setWidth 6)

/-- An S register read at address formation. -/
def Nib.ra (x : Nib) (r : BitVec 6) : PVal := SMap.get (fun _ => PVal.zero) x.cur.sa r.toNat

/-- The S fields of Pk, Mk, Lk, Bk (R131). -/
def regP (k : BitVec 3) : BitVec 6 := BitVec.ofNat 6 (32 + k.toNat)
def regM (k : BitVec 3) : BitVec 6 := BitVec.ofNat 6 (40 + k.toNat)
def regL (k : BitVec 3) : BitVec 6 := BitVec.ofNat 6 (48 + k.toNat)
def regB (k : BitVec 3) : BitVec 6 := BitVec.ofNat 6 (56 + k.toNat)

/-- Lane `l` of quad register `q` (R86). -/
def regQ (q : BitVec 3) (l : Nat) : BitVec 6 := BitVec.ofNat 6 (4 * q.toNat + l)

def Nib.rq (x : Nib) (q : BitVec 3) (l : Nat) : PVal := x.rs (regQ q l)

/-- An accumulator lane as QMAC reads it, and as EXT and ACST read it. -/
def Nib.acMac (x : Nib) (r : Nat) : AccVal := SMap.get (fun _ => {}) x.ac r
def Nib.acExt (x : Nib) (r : Nat) : AccVal := SMap.get (fun _ => {}) x.acx r

/-! ### Landings -/

/-- The four integer flags replaced; FP too (R87). -/
def putFlags (fl : BitVec 16) (nzcv : BitVec 4) (fp : Bool) : BitVec 16 :=
  setBit ((fl &&& ~~~ 15#16) ||| nzcv.setWidth 16) 9 fp

/-- One result lands. -/
def land (l : Landing) (x : Nib) : Nib :=
  match l with
  | .data b r v => x.setBk b { x.bk b with s := SMap.set (fun _ => PVal.zero) (x.bk b).s r.toNat v }
  | .addr b r v => x.setBk b { x.bk b with sa := SMap.set (fun _ => PVal.zero) (x.bk b).sa r.toNat v }
  | .flags b f p => x.setBk b { x.bk b with fl := putFlags (x.bk b).fl f p }
  | .sticky b m => x.setBk b { x.bk b with fl := (x.bk b).fl ||| m }
  | .fl b v => x.setBk b { x.bk b with fl := v }
  | .amode b v => x.setBk b { x.bk b with amode := v }
  | .amodeA b v => x.setBk b { x.bk b with amodeA := v }
  | .rmode b v => x.setBk b { x.bk b with rmode := v }
  | .epc v => { x with epc := v }
  | .acMac r v => { x with ac := SMap.set (fun _ => {}) x.ac r.toNat v }
  | .acExt r v => { x with acx := SMap.set (fun _ => {}) x.acx r.toNat v }
  | .bexpMin v => if v.toNat < x.bexp.toNat then { x with bexp := v } else x
  | .bexp v => { x with bexp := v }

/-- One advancing cycle: every result under way comes one cycle nearer, and those due land in the order of
issue (R158, R161). -/
def Nib.advance (x : Nib) : Nib :=
  let due := x.flight.filter fun e => decide (e.1 ≤ 1)
  let rest := (x.flight.filter fun e => decide (1 < e.1)).map fun e => (e.1 - 1, e.2)
  due.foldl (fun x e => land e.2 x) { x with flight := rest }

/-- Every issued instruction completes (R114, R124, R162). No latency exceeds 4. -/
def Nib.drain (x : Nib) : Nib := x.advance.advance.advance.advance.advance

/-- Send a result on its way, to land after `l` advancing cycles. -/
def Nib.launch (l : Nat) (r : Landing) (x : Nib) : Nib := { x with flight := x.flight ++ [(l, r)] }

/-- An S register result: latency `l` as data, `la` at address formation (R158). -/
def Nib.launchReg (l la : Nat) (r : BitVec 6) (v : PVal) (x : Nib) : Nib :=
  (x.launch l (.data x.bank r v)).launch la (.addr x.bank r v)

/-- Sticky fields of FL that an instruction sets, with its result. -/
def Nib.launchSticky (l : Nat) (m : BitVec 16) (x : Nib) : Nib :=
  if m = 0 then x else x.launch l (.sticky x.bank m)

/-- FL's sticky fields (R87). -/
def stSV : BitVec 16 := 0x10
def stAV : BitVec 16 := 0x20
def stFO : BitVec 16 := 0x40
def stFI : BitVec 16 := 0x80
def stSP : BitVec 16 := 0x100

/-- A sticky field when its condition holds. -/
def stIf (b : Bool) (m : BitVec 16) : BitVec 16 := if b then m else 0

/-! ### Stalls -/

/-- Count stall cycles of a nib (R132). -/
def State.stall (n k : Nat) (s : State) : State := s.bumpBy (CTR_NIB_STALL_CNT n) k

/-! ### The end of a slice (R89) -/

/-- The sticky fields of FL in the order of NIB_STICKY (R125). -/
def stickyBits (fl : BitVec 16) : Word :=
  BitVec.ofNat 32 (b2n (bitOf fl 8) + 2 * b2n (bitOf fl 4) + 4 * b2n (bitOf fl 5) + 8 * b2n (bitOf fl 6) + 16 * b2n (bitOf fl 7))

/-- The slice ends: issued instructions and posted stores complete, outstanding loads are discarded (R124),
the sticky fields of both banks go to NIB_STICKY, END records the reason. -/
def State.endSlice (n : Nat) (reason : BitVec 2) (s : State) : State :=
  let x := (s.nib n).drain
  let s := s.setReg (NIB_STICKY n) (s.reg (NIB_STICKY n) ||| stickyBits x.prim.fl ||| stickyBits x.shad.fl)
  let s := s.setEntrySt x.entry { s.entrySt x.entry with running := false }
  s.setNib n { x with run := false, ended := reason, flight := [], loads := [], blocked := none, posted := 0,
                      slots := 0, target := none, held := none, armed := false,
                      prim := { x.prim with repAt := none }, shad := { x.shad with repAt := none },
                      cyc := BitVec.ofNat 32 (s.tim.sysCnt - x.start).toNat }

/-! ### Traps (R119 to R122) -/

/-- An event source of a nib in its quire's block, with the nib's WHO bit (R127). -/
def State.nibEvent (e : Nat → Evt) (who : Nat → Nat) (n : Nat) (s : State) : State :=
  (s.mark (e (quireOf n))).setRegBit (who (quireOf n)) (nibInQuire n) true

/-- The first trap of the slice is recorded, every trap is counted. -/
def State.recordTrap (n cause : Nat) (s : State) : State :=
  let s := s.bump (CTR_NIB_TRAP_CNT n)
  if s.fld (NIB_TRAP_CAUSE n) NIB_TRAP_CAUSE_CAUSE ≠ 0 then s
  else
    let x := s.nib n
    let left := if x.cur.repAt.isSome then x.cur.repc.toNat else 0
    let s := s.setReg (NIB_TRAP_CAUSE n) (BitVec.ofNat 32 (2 ^ 19 * left + cause))
    s.setReg (NIB_TRAP_PC n) (BitVec.ofNat 32 x.pc.toNat)

/-- Entry into the shadow bank at a vector: issued instructions complete, EPC takes the address, the shadow
bank is selected (R114, R120). -/
def Nib.enter (vec ret : BitVec 13) (x : Nib) : Nib :=
  { x.drain with epc := ret, bank := true, pc := vec, slots := 0, target := none, held := none }

/-- A trap of causes 1 to 4 (R120, R121). -/
def State.trap (n cause : Nat) (s : State) : State :=
  let s := (s.recordTrap n cause).nibEvent EVT_NIB_TRAP QRE_NIB_WHO0 n
  let x := s.nib n
  if x.bank then
    let s := s.nibEvent EVT_NIB_DOUBLE_TRAP QRE_NIB_WHO1 n
    (s.endSlice n 3).taintEntry x.entry
  else s.setNib n (x.enter x.trapVec x.pc)

/-- TRAP_IFETCH ends the slice at once and raises EVT_NIB_IFETCH (R122). -/
def State.trapIfetch (n : Fin 272) (s : State) : State :=
  let s := s.recordTrap n 5
  let x := s.nib n
  let s := s.contain (EVT_NIB_IFETCH (quireOf n)) (.nib n)
  let s := s.setRegBit (QRE_NIB_WHO2 (quireOf n)) (nibInQuire n) true
  (s.endSlice n 3).taintEntry x.entry

def trapAddr : Nat := 1
def trapAlign : Nat := 2
def trapPoison : Nat := 3
def trapIllegal : Nat := 4

/-! ### Issue -/

/-- What an instruction did once issued: it trapped with a cause; it went on in order; it is a branch with
or without a target to take; it starts a repeat; it settled the sequencing itself. -/
inductive Did where
  | trap (cause : Nat)
  | ok (s : State)
  | branch (s : State) (target : Option (BitVec 13))
  | repeated (s : State) (count : Nat)
  | done (s : State)

/-- The next address in order, with delay slots and repeats (R110, R151). -/
def Nib.next (x : Nib) : Nib :=
  let k := x.cur
  match k.repAt with
  | some _ =>
    if k.repc.toNat ≤ 1 then
      { x.setBk x.bank { k with repc := 0, repAt := none } with pc := x.pc + 1, held := none }
    else x.setBk x.bank { k with repc := k.repc - 1 }
  | none =>
    if x.slots = 0 then { x with pc := x.pc + 1 }
    else if x.slots = 1 then { x with pc := x.target.getD (x.pc + 1), slots := 0, target := none }
    else { x with pc := x.pc + 1, slots := x.slots - 1 }

/-- Close an instruction. -/
def State.settle (n : Nat) (d : Did) (s : State) : State :=
  match d with
  | .trap c => s.trap n c
  | .ok s => s.setNib n (s.nib n).next
  | .branch s t => s.setNib n { s.nib n with pc := (s.nib n).pc + 1, slots := 2, target := t }
  | .repeated s c =>
    let x := s.nib n
    let x := { x with pc := x.pc + 1, held := none }
    s.setNib n (x.setBk x.bank { x.cur with repc := BitVec.ofNat 13 c, repAt := some x.pc })
  | .done s => s

/-- Whether the core can issue: a slice runs and nothing stalls it. -/
def Nib.ready (x : Nib) : Bool := x.run && x.loads.isEmpty && x.blocked.isNone

/-- The instruction word of the program counter comes through the code; a repeated instruction is fetched
once. `true` when it is uncorrectable (R110, R122). -/
def State.fetchWord (n : Nat) (s : State) : (Word × Bool) × State :=
  let x := s.nib n
  match x.cur.repAt, x.held with
  | some _, some w => ((w, false), s)
  | _, _ =>
    let (r, s) := s.readWord (nibWindow n + 4 * x.pc.toNat)
    let s := if r.stall then s.stall n 4 else s
    ((r.w.setWidth 32, r.psn), s.setNib n { x with held := some (r.w.setWidth 32) })

/-- Whether a word spells an instruction (R129). -/
def spells (n : NibId) (i : Instr) (w : Word) : Bool := nibDecode n w == some i

/-- Whether the core issues in this cycle: in the deadline cycle of the slice it stops (R123, R124). -/
def State.issues (s : State) (n : Nat) : Bool := (s.nib n).ready && decide (s.phase < (s.nib n).cutAt)

/-- An instruction issues on a nib: the pipeline advances, the word at the program counter is fetched, and where it
is the word of this instruction the body acts; where it is another word, the core does not issue this instruction. A
nib without a running slice, or stalled, issues nothing. `noSlot` marks the instructions that R151 forbids in a delay
slot. -/
def State.issue (n : Fin 272) (hit : Word → Bool) (noSlot : Bool) (body : Nib → State → Did) (s : State) : State :=
  if s.issues n then
    let (f, t) := (s.setNib n { (s.nib n).advance with last := (s.nib n).pc }).fetchWord n
    if f.2 then t.trapIfetch n
    else if hit f.1 then
      if noSlot && decide ((t.nib n).slots ≠ 0) then t.trap n trapIllegal else t.settle n (body (t.nib n) t)
    else s
  else s

/-! ### Interrupts (R113 to R116) -/

/-- Whether an interrupt is pending. -/
def Nib.irqPending (x : Nib) : Bool := decide (x.irq &&& x.imask ≠ 0)

/-- Whether the sequencer stands at a boundary where R114 allows an entry. -/
def Nib.interruptible (x : Nib) : Bool :=
  x.ready && !x.bank && x.cur.repAt.isNone && decide (x.slots = 0)

/-- Set a bit of NIB_IRQ_STATUS (R113). -/
def State.setIrq (n : Nat) (m : BitVec 3) (s : State) : State :=
  s.setNib n { s.nib n with irq := (s.nib n).irq ||| m }

/-! ### Dispatch (R88, R156) -/

/-- The dispatch of a slice: every register of both banks and every poison bit cleared, BEXP 31, RMODE of
both banks from the entry, primary bank, IRQ status, IMASK, TCMP and EPC cleared, TIMER disarmed. -/
def State.dispatchNib (n idx : Nat) (e : Entry) (s : State) : State :=
  let rm := BitVec.ofNat 2 (eRmode e)
  let lead := s.fld (NIB_WARN_LEAD n) ⟨16, 0⟩
  let warn : BitVec 3 := if lead ≠ 0 ∧ eDeadline e - eStart e ≤ lead then 4 else 0
  let x : Nib := { run := true, pc := BitVec.ofNat 13 (eEntry e), last := BitVec.ofNat 13 (eEntry e), ended := (s.nib n).ended,
                   prim := { rmode := rm }, shad := { rmode := rm }, irq := warn, start := s.tim.sysCnt, cutAt := eDeadline e,
                   intVec := BitVec.ofNat 13 (eIvec e), trapVec := BitVec.ofNat 13 (eTvec e), lead := lead, entry := idx }
  let s := s.setReg (NIB_TRAP_CAUSE n) 0
  s.setNib n x

end Sys2Proof.Machine
end

