-- ==== Sys2Proof/Machine/Flags.lean ====
section
/-! DEFINITION. The flag computations of the nib's integer unit (R87, R99, R133), the condition codes (R136),
and the rounding and saturation of the lanes (R95, R104, R145). -/

namespace Sys2Proof.Machine

/-- Z, N, C, V in FL's order, bits 0 to 3 (R87). -/
def nzcv (r : Word) (c v : Bool) : BitVec 4 :=
  BitVec.ofNat 4 (b2n (decide (r = 0)) + 2 * b2n (bitOf r 31) + 4 * b2n c + 8 * b2n v)

/-- A result with its flags. -/
structure IRes where
  w : Word
  f : BitVec 4
  deriving DecidableEq, Repr

/-- Addition: carry out of bit 31, signed overflow. -/
def iAdd (a b : Word) : IRes :=
  ⟨a + b, nzcv (a + b) (decide (2 ^ 32 ≤ a.toNat + b.toNat)) (outOf 32 (a.toInt + b.toInt))⟩

/-- Subtraction: C is 1 when a ≥ b unsigned. -/
def iSub (a b : Word) : IRes :=
  ⟨a - b, nzcv (a - b) (decide (b.toNat ≤ a.toNat)) (outOf 32 (a.toInt - b.toInt))⟩

/-- A result whose C and V are 0. -/
def iLogic (r : Word) : IRes := ⟨r, nzcv r false false⟩

/-- Shifts: C is the last bit out, 0 for shift 0. -/
def iSll (a : Word) (k : Nat) : IRes := ⟨a <<< k, nzcv (a <<< k) (decide (k ≠ 0) && bitOf a (32 - k)) false⟩
def iSrl (a : Word) (k : Nat) : IRes := ⟨a >>> k, nzcv (a >>> k) (decide (k ≠ 0) && bitOf a (k - 1)) false⟩
def iSra (a : Word) (k : Nat) : IRes :=
  ⟨a.sshiftRight k, nzcv (a.sshiftRight k) (decide (k ≠ 0) && bitOf a (k - 1)) false⟩

/-- Signed minimum and maximum. -/
def wMin (a b : Word) : Word := if a.toInt ≤ b.toInt then a else b
def wMax (a b : Word) : Word := if a.toInt ≤ b.toInt then b else a

/-- The flags of FL. -/
def flZ (fl : BitVec 16) : Bool := bitOf fl 0
def flN (fl : BitVec 16) : Bool := bitOf fl 1
def flC (fl : BitVec 16) : Bool := bitOf fl 2
def flV (fl : BitVec 16) : Bool := bitOf fl 3
def flFP (fl : BitVec 16) : Bool := bitOf fl 9

/-- A condition code (R136); 15 is undefined. -/
def condTrue (c : BitVec 4) (fl : BitVec 16) : Bool :=
  match c.toNat with
  | 0 => flZ fl
  | 1 => !flZ fl
  | 2 => flC fl
  | 3 => !flC fl
  | 4 => flN fl
  | 5 => !flN fl
  | 6 => flV fl
  | 7 => !flV fl
  | 8 => flC fl && !flZ fl
  | 9 => !flC fl || flZ fl
  | 10 => flN fl == flV fl
  | 11 => flN fl != flV fl
  | 12 => !flZ fl && flN fl == flV fl
  | 13 => flZ fl || flN fl != flV fl
  | _ => true

/-- What a conditional instruction meets: the cause it traps with, if any (R109, R136). -/
def condTrap (c : BitVec 4) (fl : BitVec 16) : Option Nat :=
  if c = 15 then some trapIllegal
  else if c ≠ 14 ∧ flFP fl = true then some trapPoison
  else none

/-- `num / 2^k` rounded to an integer under RMODE (R95). -/
def roundMode (m : BitVec 2) (num : Int) (k : Nat) : Int :=
  match m.toNat with
  | 1 => num / 2 ^ k
  | 2 => truncDiv num (2 ^ k)
  | _ => roundHalfEven num (2 ^ k)

/-- A Q1.31 lane result with its SV condition. -/
structure QRes where
  w : Word
  st : BitVec 16
  deriving DecidableEq, Repr

/-- Saturation of an exact integer to Q1.31. -/
def qSat (x : Int) : QRes := ⟨wrap 32 (sat 32 x), stIf (outOf 32 x) stSV⟩

/-- The product of QMULR (R145). -/
def qMulr (m : BitVec 2) (a b : Word) : QRes := qSat (roundMode m (a.toInt * b.toInt) 31)

/-- QSHL: the amount is b[5:0] as a signed number (R144, R145). -/
def qShl (m : BitVec 2) (a b : Word) : QRes :=
  let k := (b.setWidth 6).toInt
  if 0 ≤ k then qSat (a.toInt * 2 ^ k.toNat) else qSat (roundMode m a.toInt (-k).toNat)

/-- A float result as a lane result: SV, FI, FO (R144). -/
def FRes.q (r : FRes) : QRes := ⟨r.w, stIf r.sv stSV ||| stIf r.fi stFI ||| stIf r.fo stFO⟩

/-- A result that sets nothing. -/
def qPlain (w : Word) : QRes := ⟨w, 0⟩

/-- Redundant sign bits of a word (R104). -/
def rsb (x : Word) : Nat :=
  let m : Nat := if x.toInt < 0 then (~~~ x).toNat else x.toNat
  if m = 0 then 31 else 30 - Nat.log2 m

/-- An accumulator value from an exact integer, saturated to 72 bits, with its AV condition (R94). -/
def accSat (x : Int) : BitVec 72 × Bool := (wrap 72 (sat 72 x), outOf 72 x)

/-- Extraction of a lane to Q1.31 with a shift (R95). -/
def extQ (m : BitVec 2) (a : BitVec 72) (sh : Int) : QRes := qSat (roundMode m (a.toInt * 2 ^ (sh + 8).toNat) 40)

/-- Extraction of a lane to binary32 (R96). -/
def extF (a : BitVec 72) : QRes := qPlain (f32Round ⟨decide (a.toInt < 0), a.toInt.natAbs, -63⟩).1

end Sys2Proof.Machine
end

