-- ==== Sys2Proof/Machine/SapExec.lean ====
section
/-! DEFINITION. The serial audio ports (spec/08_serial_audio_ports.md). -/

namespace Sys2Proof.Machine

def State.sap (s : State) (k : Nat) : Sap := SMap.get (fun _ => {}) s.saps k
def State.setSap (k : Nat) (x : Sap) (s : State) : State := s.withSaps (SMap.set (fun _ => {}) s.saps k x)

/-- Whether a port is powered and enabled (R293). -/
def State.sapOn (s : State) (k : Nat) : Bool := s.isOpen 4 && s.on (SAP_CTL k) SAP_CTL_EN

def State.sapSlots (s : State) (k : Nat) : Nat := s.fld (SAP_CTL k) SAP_CTL_SLOTS

def fmtI2s : Nat := 0
def fmtLj : Nat := 1
def fmtTdm : Nat := 2

def State.sapFmt (s : State) (k : Nat) : Nat := s.fld (SAP_CTL k) SAP_CTL_FMT

/-- Bits per sample (R271). -/
def State.sapWlen (s : State) (k : Nat) : Nat :=
  match s.fld (SAP_CTL k) SAP_CTL_WLEN with
  | 0 => 16
  | 1 => 24
  | _ => 32

def State.sapLock (s : State) (k : Nat) : Bool := s.on (SAP_STAT k) SAP_STAT_LOCK

/-- LOCK clears (R269). -/
def State.sapUnlock (k : Nat) (s : State) : State :=
  if s.sapLock k then (s.setFld (SAP_STAT k) SAP_STAT_LOCK 0).mark (EVT_SAP_UNLOCK k) else s

/-! ### Frames (R267 to R269) -/

/-- The level of FS after the leading edge, which is slot 0's level in the level formats (R267). -/
def State.sapLead (s : State) (k : Nat) : Bool :=
  let pol := s.on (SAP_CTL k) SAP_CTL_FSPOL
  if s.sapFmt k = fmtI2s then pol else !pol

/-- The bit-clock periods from the slot-0 start edge to the first data bit (R267). -/
def State.sapLag (s : State) (k : Nat) : Nat :=
  if s.sapFmt k = fmtI2s then 1 else if s.sapFmt k = fmtLj then 0 else s.fld (SAP_CTL k) SAP_CTL_DLY

/-- The 32 data bits of slot `j`, the first in bit 31. -/
def slotWord (sdi : List Bool) (lag j : Nat) : Word :=
  BitVec.ofNat 32 ((List.range 32).foldl (fun acc i => 2 * acc + b2n (sdi.getD (32 * j + lag + i) false)) 0)

/-- Whether a frame is valid (R268). -/
def State.sapValid (s : State) (k : Nat) (fr : SapFrame) : Bool :=
  let lead := s.sapLead k
  decide (fr.bclks = 32 * s.sapSlots k) &&
    (s.sapFmt k == fmtTdm || (List.range 64).all fun i => fr.fs.getD i lead == (if i < 32 then lead else !lead))

/-- SAP_FRAME: a frame is complete (R268, R269); one whose FS does not start with the leading edge is none of this port's.
Positions whose frame has been sent leave the transmit queue. -/
def execSapFrame (k : Fin 16) (fr : SapFrame) (s : State) : Host.Outcome State Fault Refusal :=
  .next (if s.sapOn k && fr.fs.head? == some (s.sapLead k) then
    let valid := s.sapValid k fr
    let x := s.sap k
    let slots := (List.range 32).map fun j => if valid && decide (j < s.sapSlots k) then slotWord fr.sdi (s.sapLag k) j else 0
    let good := if valid then x.good + 1 else 0
    let bad := if valid then 0 else x.bad + 1
    let rx : SapRx := { num := x.count, slots := slots, edge := fr.edge, done := fr.done }
    let kept := List.drop (x.frames.length + 1 - 64) (x.frames ++ [rx])
    let later := x.txq.filter (fun t => laterThan t.num x.count)
    let y : Sap := { x with count := x.count + 1, frames := kept, good := good, bad := bad, txq := later }
    let s := s.setSap k y
    let s := if valid then s else (s.bump (CTR_SAP_FRAME_CNT k)).mark (EVT_SAP_FRAME k)
    if s.sapLock k then (if 2 ≤ bad then s.sapUnlock k else s)
    else if 8 ≤ good then
      let s := (s.setFld (SAP_STAT k) SAP_STAT_LOCK 1).mark (EVT_SAP_LOCK k)
      s.setSap k { s.sap k with fresh := true }
    else s
  else s)

/-- SAP_FS_TIMEOUT: no leading edge within 2·P + 1,024 cycles (R269). -/
def execSapFsTimeout (k : Fin 16) (s : State) : Host.Outcome State Fault Refusal :=
  .next (if s.sapOn k then (s.setSap k { s.sap k with good := 0 }).sapUnlock k else s)

/-! ### The mapping (R273 to R284) -/

/-- The frame of position 0 of the current stroke, F(n, 0) (R273). -/
def State.sapFrame0 (s : State) (k : Nat) : BitVec 32 :=
  (s.sap k).f0 + BitVec.ofNat 32 (s.tim.strk.toNat * s.samples)

/-- The last complete frame, Lf. -/
def Sap.last (x : Sap) : BitVec 32 := x.count - 1

/-- The fill A = Lf − F(n, S − 1) (R273). -/
def State.sapFill (s : State) (k : Nat) : Int :=
  ((s.sap k).last - (s.sapFrame0 k + BitVec.ofNat 32 (s.samples - 1))).toInt

/-- The window W. -/
def State.sapWin (s : State) (k : Nat) : Nat := s.fld (SAP_CTL k) SAP_CTL_WIN

/-- A received frame by its number. -/
def Sap.frame (x : Sap) (f : BitVec 32) : Option SapRx := x.frames.find? fun r => r.num == f

/-- φ: from the completion of frame Lf to the release point, 0 to P − 1 (R276). -/
def State.sapPhi (s : State) (k : Nat) : Nat :=
  match (s.sap k).frame (s.sap k).last with
  | some r => (s.tim.bnd + 100352 - r.done).toNat % s.samplePeriod
  | none => 0

/-- φ measured: D_IN, X and D_OUT are formed and reported (R276, R277). -/
def State.sapMeasure (k : Nat) (s : State) : State :=
  let phi := s.sapPhi k
  let per := s.samplePeriod
  let w := s.sapWin k
  let din := 2048 + w * per + phi
  let x := 2 * w + (5120 + phi + per - 1) / per
  let s := s.setReg (SAP_RX_OFS k) (BitVec.ofNat 32 din)
  let s := s.setReg (SAP_TX_OFS k) (BitVec.ofNat 32 (x * per - din))
  let s := s.setFld (SAP_STAT k) SAP_STAT_X x
  s.setSap k { s.sap k with x := x }

/-- Transmit follows a mapping that moved by `shift` frames, X included: positions not yet sent take their new frames;
those whose frame has started are dropped (R279). -/
def Sap.moveTx (x : Sap) (shift : Int) : Sap :=
  let wait := x.txq.filter fun t => laterThan t.num x.count
  let sent := x.txq.filter fun t => !laterThan t.num x.count
  let moved := wait.map fun t => { t with num := t.num + BitVec.ofInt 32 shift }
  { x with txq := sent ++ moved.filter fun t => laterThan t.num x.count }

/-- F0 moves by `shift` frames and φ is measured again. Of the transmit positions and frames that the move leaves without
each other there are as many as the frames by which the mapping with X moves, counted where `count` says so (R279). -/
def State.sapShift (k : Nat) (shift : Int) (count : Bool) (s : State) : State :=
  let x0 := (s.sap k).x
  let s := s.setSap k { s.sap k with f0 := (s.sap k).f0 + BitVec.ofInt 32 shift, mapped := true }
  let s := s.sapMeasure k
  let move := shift + (s.sap k).x - x0
  let s := s.setSap k ((s.sap k).moveTx move)
  if count && s.on (SAP_CTL k) SAP_CTL_TXEN then s.bumpBy (CTR_SAP_TXSLIP_CNT k) move.natAbs else s

/-- A new mapping: F0 is set so that A = W (R275, R280). -/
def State.sapNewMap (k : Nat) (s : State) : State := s.sapShift k (s.sapFill k - s.sapWin k) false

/-- The shift of F0 that a fill A calls for: d = A − W early above 2W, −d with d = W − A late below 0, else none (R278). -/
def slipOf (w : Nat) (a : Int) : Int := if a < 0 ∨ 2 * (w : Int) < a then a - w else 0

/-- A slip of a port that was locked with all its frames (R278): a late one leaves the frames it has used behind. -/
def State.sapSlip (k : Nat) (shift : Int) (s : State) : State :=
  let s := (s.bumpBy (CTR_SAP_SLIP_CNT k) shift.natAbs).mark (EVT_SAP_SLIP k)
  let s := s.sapShift k shift true
  if shift < 0 then s.setSap k { s.sap k with usedTo := some (s.sap k).last } else s

/-- A received sample of a slot: the first WLEN bits (R271). -/
def rxSample (wlen : Nat) (w : Word) : Word := BitVec.ofNat 32 (w.toNat / 2 ^ (32 - wlen) * 2 ^ (32 - wlen))

/-- The active slots of a mask, in order (R285). -/
def activeSlots (mask : Word) (slots : Nat) : List Nat := (List.range 32).filter fun j => decide (j < slots) && bitOf mask j

/-- Whether a late slip has used a frame already. -/
def Sap.used (x : Sap) (f : BitVec 32) : Bool :=
  match x.usedTo with
  | some u => !laterThan f u
  | none => false

/-- The frames of a port's block: for each position the frame, when it is complete and not used before. -/
def State.sapBlockFrames (s : State) (k : Nat) (f : BitVec 32) : List (Option SapRx) :=
  (List.range s.samples).map fun i =>
    let x := s.sap k
    let num := f + BitVec.ofNat 32 i
    if x.used num then none else x.frame num

/-- The positions of a block without a complete frame, those of a late slip's zeros left out. -/
def State.sapMissing (s : State) (k : Nat) (f : BitVec 32) : Nat :=
  (List.range s.samples).countP fun i => !(s.sap k).used (f + BitVec.ofNat 32 i) && ((s.sap k).frame (f + BitVec.ofNat 32 i)).isNone

/-- Write a port's receive range from the frames of its block (R274): slot SAP_RX_BASE + c takes the c-th active
slot; the rest zeros. In a mode or a test in which input units do not write, the block is discarded (R164). -/
def State.sapWriteRange (k : Nat) (fs : List (Option SapRx)) (s : State) : State :=
  if s.on (SAP_CTL k) SAP_CTL_RXEN && s.inputsWrite then
    let act := activeSlots (s.reg (SAP_RX_MASK k)) (s.sapSlots k)
    let base := s.fld (SAP_RX_BASE k) ⟨13, 0⟩
    let wl := s.sapWlen k
    each (List.range (s.sapSlots k)) (fun c s =>
      let words := fs.map fun f =>
        match f, act[c]? with
        | some r, some j => (rxSample wl (r.slots.getD j 0), false)
        | _, _ => ((0 : Word), false)
      s.writeBlock s.curCopy (base + c) 4 words false) s
  else s

/-- The block stamp (R290): the leading edge of the frame of position 0, or 0, with the stroke's low 16 bits. -/
def State.sapStamp (k : Nat) (f : BitVec 32) (s : State) : State :=
  let e : BitVec 64 := match (s.sap k).frame f with
    | some r => r.edge
    | none => 0
  let s := s.setReg (SAP_STAMP_LO k) (loWord e)
  let s := s.setReg (SAP_STAMP_HI k) (hiWord e)
  s.setReg (SAP_STAMP_STK k) (BitVec.ofNat 32 (s.tim.strk.toNat % 65536))

/-- FILL, limited to eight bits. -/
def State.sapSetFill (k : Nat) (a : Int) (s : State) : State :=
  s.setFld (SAP_STAT k) SAP_STAT_FILL (wrap 8 (clampI (-128) 127 a)).toNat

/-- UNDER, and the positions that underran (R283). -/
def State.sapUnderrun (k : Nat) (under : Bool) (n : Nat) (s : State) : State :=
  if under then ((s.bumpBy (CTR_SAP_UNDER_CNT k) n).setFld (SAP_STAT k) SAP_STAT_UNDER 1).mark (EVT_SAP_UNDERRUN k)
  else s.setFld (SAP_STAT k) SAP_STAT_UNDER 0

/-- What a port does at a release point: the frame of position 0, whether the block is zeros throughout, whether it
underruns and by how many positions, and what its mapping does after the block: a slip, or a shift that counts as none. -/
structure SapPlan where
  k : Nat
  f : BitVec 32
  zero : Bool
  under : Bool
  missing : Nat
  slip : Int := 0
  follow : Int := 0
  deriving DecidableEq, Repr

/-- A port's block is written and stamped; frames used before are forgotten once the mapping has passed them. -/
def State.sapBlock (p : SapPlan) (s : State) : State :=
  let s := s.sapUnderrun p.k p.under p.missing
  let fs := if p.zero then List.replicate s.samples none else s.sapBlockFrames p.k p.f
  let s := (s.sapWriteRange p.k fs).sapStamp p.k p.f
  let x := s.sap p.k
  if x.used (p.f + BitVec.ofNat 32 s.samples) then s else s.setSap p.k { x with usedTo := none }

/-- What follows a block: a slip, or the shift that a member takes with its group. -/
def State.sapAfter (p : SapPlan) (s : State) : State :=
  let s := if p.slip = 0 then s else s.sapSlip p.k p.slip
  let s := if p.follow = 0 then s else s.sapShift p.k p.follow false
  if s.sapLock p.k then s.setSap p.k { s.sap p.k with fresh := false } else s

/-- The plan of a port that has no mapping: zeros, an underrun (R283). -/
def State.planUnmapped (s : State) (k : Nat) : SapPlan := ⟨k, (s.sap k).count, true, true, s.samples, 0, 0⟩

/-- The plan of a mapped port that is not locked (R283). -/
def State.planUnlocked (s : State) (k : Nat) : SapPlan := ⟨k, s.sapFrame0 k, false, true, s.sapMissing k (s.sapFrame0 k), 0, 0⟩

/-- The plan of a port newly mapped (R275, R284). -/
def State.planNew (s : State) (k : Nat) : SapPlan := ⟨k, s.sapFrame0 k, true, false, 0, 0, 0⟩

/-- The release of a port outside every group (R275, R278, R280, R283). -/
def State.sapAlone (k : Nat) (s : State) : SapPlan × State :=
  let s := s.setFld (SAP_STAT k) SAP_STAT_REF 0
  if s.sapLock k then
    if (s.sap k).fresh || s.sapRemap || !(s.sap k).mapped then
      let s := s.sapNewMap k
      (s.planNew k, s.sapSetFill k (s.sapFill k))
    else
      let a := s.sapFill k
      let shift := slipOf (s.sapWin k) a
      -- the frames that a late slip stands for do not underrun
      let miss := s.sapMissing k (s.sapFrame0 k) - (-a).toNat
      (⟨k, s.sapFrame0 k, false, decide (0 < miss), miss, shift, 0⟩, s.sapSetFill k a)
  else if (s.sap k).mapped then (s.planUnlocked k, s.sapSetFill k (s.sapFill k))
  else (s.planUnmapped k, s)

/-- The distance of two instants. -/
def edgeGap (a b : BitVec 64) : Nat := (a - b).toInt.natAbs

/-- The frames of a port whose leading edge has come: the complete ones and the one in progress. -/
def Sap.edges (x : Sap) (now : Option (BitVec 64)) : List (BitVec 32 × BitVec 64) :=
  x.frames.map (fun r => (r.num, r.edge)) ++ (match now with | some e => [(x.count, e)] | none => [])

/-- The frame whose leading edge lies nearest an instant (R281): frame `m` stays while it lies within P/2 (R284). -/
def nearestFrame (l : List (BitVec 32 × BitVec 64)) (t : BitVec 64) (m : Option (BitVec 32)) (per : Nat) : Option (BitVec 32) :=
  match l.find? fun e => some e.1 == m && decide (2 * edgeGap e.2 t ≤ per) with
  | some e => some e.1
  | none => (l.foldl (fun (best : Option (BitVec 32 × BitVec 64)) e =>
      match best with
      | some b => if edgeGap e.2 t < edgeGap b.2 t then some e else best
      | none => some e) none).map (·.1)

/-- A locked member takes the frames nearest the anchor's, whose mapping is the group's (R281, R284). `counted` says that
the shift of a mapped member counts. -/
def State.sapJoin (anchor k : Nat) (counted : Bool) (edges : List (Option (BitVec 64))) (s : State) : State :=
  let xr := s.sap anchor
  let x := s.sap k
  match xr.frame xr.last with
  | none => s
  | some r =>
    let cur : Option (BitVec 32) := if x.mapped && !x.fresh then some (x.f0 + (xr.last - xr.f0)) else none
    match nearestFrame (x.edges ((edges.getD k none))) r.edge cur s.samplePeriod with
    | none => s
    | some m =>
      let shift := (m - (xr.last - xr.f0) - x.f0).toInt
      if counted && x.mapped && !x.fresh then
        if shift = 0 then s
        else ((s.bumpBy (CTR_SAP_SLIP_CNT k) shift.natAbs).mark (EVT_SAP_SKEW k)).sapShift k shift true
      else s.sapShift k shift false

/-- The enabled members of a group. -/
def State.sapMembers (s : State) (g : Nat) : List Nat :=
  (List.range 16).filter fun k => s.sapOn k && s.on (SAP_CTL k) SAP_CTL_GRPEN && decide (s.fld (SAP_CTL k) SAP_CTL_GROUP = g)

/-- The plan of a group's member for the group's shift: one that underruns writes zeros where the reference slips, and
takes the shift without a slip (R282 to R284). -/
def State.planMember (s : State) (fresh : Bool) (shift : Int) (late : Nat) (k : Nat) : SapPlan :=
  if fresh then s.planNew k
  else if (s.sap k).mapped = false then s.planUnmapped k
  else
    let miss := s.sapMissing k (s.sapFrame0 k) - (if s.sapLock k then late else 0)
    let under := !s.sapLock k || decide (0 < miss)
    if under then ⟨k, s.sapFrame0 k, shift != 0, true, s.sapMissing k (s.sapFrame0 k), 0, shift⟩
    else ⟨k, s.sapFrame0 k, false, false, 0, shift, 0⟩

/-- The group's work at a release point (R280 to R284): the reference, its fill, one shift for all. A mapping that is held
stays with the reference before, from which the others, a new reference among them, take it. -/
def State.sapGroup (edges : List (Option (BitVec 64))) (g : Nat) (s : State) : List SapPlan × State :=
  let ms := s.sapMembers g
  match ms.find? (fun k => s.sapLock k) with
  | none =>
    let s := s.withSapHeld (s.sapHeld.filter (· != g))
    let s := each ms (fun k s => (s.setFld (SAP_STAT k) SAP_STAT_REF 0).setSap k { s.sap k with mapped := false }) s
    (ms.map s.planUnmapped, s)
  | some ref =>
    let held := s.sapHeld.contains g && !s.sapRemap
    let before := (ms.find? fun k => s.on (SAP_STAT k) SAP_STAT_REF && (s.sap k).mapped).getD ref
    let fresh := ms.filter fun k => s.sapLock k && ((s.sap k).fresh || !(s.sap k).mapped || !held)
    let anchor := if held then before else ref
    let s := if held then s else s.sapNewMap ref
    let s := s.withSapHeld (if s.sapHeld.contains g then s.sapHeld else s.sapHeld ++ [g])
    let s := each ms (fun k s => if k ≠ anchor ∧ s.sapLock k = true then s.sapJoin anchor k held edges else s) s
    let s := each ms (fun k s =>
      let s := s.setFld (SAP_STAT k) SAP_STAT_REF (b2n (k == ref))
      if (s.sap k).mapped then s.sapSetFill k (s.sapFill k) else s) s
    let a := s.sapFill ref
    let shift := if held && !fresh.contains ref then slipOf (s.sapWin ref) a else 0
    (ms.map fun k => s.planMember (fresh.contains k) shift (if shift < 0 then (-a).toNat else 0) k, s)

/-- The plans of the ports outside every group. -/
def State.sapPorts (l : List Nat) (s : State) : List SapPlan × State :=
  l.foldl (fun x k => let y := x.2.sapAlone k; (x.1 ++ [y.1], y.2)) ([], s)

/-- The plans of the groups. -/
def State.sapGroups (edges : List (Option (BitVec 64))) (s : State) : List SapPlan × State :=
  (List.range 16).foldl (fun (x : List SapPlan × State) g => let y := x.2.sapGroup edges g; (x.1 ++ y.1, y.2)) ([], s)

/-- A release point (R273 to R284): the mappings settle, the ports write in port order (R274), and then the slips take
effect. -/
def State.sapRelease (edges : List (Option (BitVec 64))) (s : State) : State :=
  let (gs, s) := s.sapGroups edges
  let (ps, s) := s.sapPorts ((List.range 16).filter fun k => s.sapOn k && !s.on (SAP_CTL k) SAP_CTL_GRPEN)
  let plans := sortBy (fun (x y : SapPlan) => decide (x.k < y.k)) (gs ++ ps)
  (each plans State.sapAfter (each plans State.sapBlock s)).withSapRemap false

/-- SAP_RELEASE_POINT: at ROOT cycle 100,352 every enabled port releases its block. The event brings the leading edges of
the frames in progress, port by port. In DARK and SEALED no port takes one (R164). -/
def execSapReleasePoint (edges : List (Option (BitVec 64))) (s : State) : Host.Outcome State Fault Refusal :=
  .next (if s.mode == modeDark || s.mode == modeSealed || s.rul.stopped then s.atRoot 100352 else (s.atRoot 100352).sapRelease edges)

/-! ### Transmit (R272, R277, R286 to R289) -/

/-- The value a slot sends: rounded to WLEN bits, first bit in bit 31 (R272). -/
def txSample (f32 : Bool) (wlen : Nat) (w : Word) : Word :=
  let q : Int := if f32 then (f32ToQ31 w).w.toInt else w.toInt
  let v := sat wlen (roundHalfEven q (2 ^ (32 - wlen)))
  wrap 32 (v * 2 ^ (32 - wlen))

/-- One slot's block as sent: values for the sample positions; a poisoned sample is zero (R288). -/
def txBlock (f32 zero : Bool) (wlen : Nat) (b : Block) : List Word :=
  b.words.map fun w => if zero || w.2 then 0 else txSample f32 wlen w.1

/-- The slate blocks of a port's active transmit slots. -/
def sapFetchSlots (base : Nat) : List Nat → Nat → State → List Block × State
  | [], _, s => ([], s)
  | _ :: l, c, s =>
    let (b, s) := s.readBlock (s.readCopy false) (base + c) false
    let (r, s) := sapFetchSlots base l (c + 1) s
    (b :: r, s)

/-- Samples substituted for poison are counted (R288). -/
def State.sapPoison (k n : Nat) (s : State) : State :=
  if n = 0 then s else (s.bumpBy (CTR_SAP_POISON_CNT k) n).mark (EVT_SAP_POISON k)

/-- One port fetches its transmit block, STALE where a slot of it is (R287); position k leaves in frame F(m, k) + X
(R277). -/
def State.sapFetch (k : Nat) (s : State) : State :=
  if s.sapOn k && s.on (SAP_CTL k) SAP_CTL_TXEN then
    let mask := s.reg (SAP_TX_MASK k)
    let act := activeSlots mask (s.sapSlots k)
    let (bs, s) := sapFetchSlots (s.fld (SAP_TX_BASE k) ⟨13, 0⟩) act 0 s
    let stale := bs.any Block.stale
    let s := if stale then s.bump (CTR_SAP_STALE_CNT k) else s
    let s := s.sapPoison k (bs.foldl (fun n b => n + b.words.countP (·.2)) 0)
    let zero := stale && s.on (SAP_CTL k) SAP_CTL_STALEZ
    let vals := act.zip (bs.map (txBlock (s.on (SAP_CTL k) SAP_CTL_TXSRC) zero (s.sapWlen k)))
    let x := s.sap k
    if x.mapped then
      let frames := (List.range s.samples).map fun i =>
        (⟨s.sapFrame0 k + BitVec.ofNat 32 (i + x.x), (List.range 32).map fun j =>
          match vals.find? fun e => e.1 == j with
          | some e => e.2.getD i 0
          | none => 0, mask⟩ : SapTx)
      s.setSap k { x with txq := x.txq ++ frames.filter fun t => laterThan t.num x.count }
    else s
  else s

/-- SAP_TX_FETCH: cycles 2,048 to 3,071, in port order (R277). In DARK, LOAD and SEALED SDO is 0 (R592). -/
def execSapTxFetch (s : State) : Host.Outcome State Fault Refusal :=
  let s := s.atRoot 2048
  .next (if s.rulingRuns || s.mode == modeService then each (List.range 16) (fun k s => s.sapFetch k) s else s)

/-- SDO of a port over the 32·SLOTS data bits of the frame in progress, from the first data bit of slot 0: a level, or
none where the pin is high impedance (R272, R279, R289, R293). -/
def State.sapSdo (s : State) (k : Nat) : List (Option Bool) :=
  let live := s.live || s.muted
  let hiz := s.on (SAP_CTL k) SAP_CTL_TXHIZ
  let idle : Option Bool := if hiz then none else some false
  (List.range (32 * s.sapSlots k)).map fun i =>
    if s.sapOn k = false ∨ live = false ∨ s.isSealing then some false
    else
      match (s.sap k).txq.find? fun t => t.num == (s.sap k).count with
      | none => idle
      | some t =>
        if bitOf t.act (i / 32) = false ∨ s.sapWlen k ≤ i % 32 then idle
        else some (!s.muted && bitOf (t.slots.getD (i / 32) 0) (31 - i % 32))

/-- Phase 3 for a mask: bits at and above SLOTS are cleared in the committed value (R285). -/
def State.sapSwapMasks (s : State) : State :=
  let s := each s.sapMasks (fun e s =>
    let k := e.1 / 0x100 % 0x100 - 1
    let n := s.sapSlots k
    s.setReg e.1 (if 32 ≤ n then e.2 else e.2 &&& BitVec.ofNat 32 (2 ^ n - 1))) s
  s.withSapMasks []

end Sys2Proof.Machine
end

