-- ==== Sys2Proof/Machine/Net.lean ====
section
/-! DEFINITION. Network ports, the control protocols and the flow table (spec/10_network_transport.md). -/

namespace Sys2Proof.Machine

/-! ### Ports and networks (R334 to R338) -/

/-- The network of a port. -/
def netOf (i : Nat) : Nat := i % 2

/-- The active port of a network. -/
def State.activePort (s : State) (w : Nat) : Nat := if bitOf (s.reg NET_ACTIVE) w then w + 2 else w

def State.linkUp (s : State) (i : Nat) : Bool := s.on (PORT_STAT i) PORT_STAT_LINK

/-- Whether a port is powered with its link up. -/
def State.portLive (s : State) (i : Nat) : Bool := (s.dom i).on && s.linkUp i

def State.netPort (s : State) (i : Nat) : NetPort := SMap.get (fun _ => {}) s.net.ports i
def State.setNetPort (i : Nat) (x : NetPort) (s : State) : State :=
  s.withNet { s.net with ports := SMap.set (fun _ => {}) s.net.ports i x }

def State.nw (s : State) (w : Nat) : NetNw := SMap.get (fun _ => {}) s.net.nws w
def State.setNw (w : Nat) (x : NetNw) (s : State) : State :=
  s.withNet { s.net with nws := SMap.set (fun _ => {}) s.net.nws w x }

/-- A 64-bit byte counter counts, saturating (R14, R368). -/
def State.bumpBytes (lo hi sat bit n : Nat) (s : State) : State :=
  let v := Nat.min (2 ^ 32 * (s.reg hi).toNat + (s.reg lo).toNat + n) (2 ^ 64 - 1)
  let s := (s.setReg lo (BitVec.ofNat 32 v)).setReg hi (BitVec.ofNat 32 (v / 2 ^ 32))
  if n ≠ 0 ∧ v = 2 ^ 64 - 1 then s.setRegBit sat bit true else s

/-- The bytes of a received frame count. -/
def State.rxBytes (i n : Nat) (s : State) : State :=
  s.bumpBytes (PORT_RX_BYTES_LO i) (PORT_RX_BYTES_HI i) (PORT_CNT_SAT i) 12 n

/-- A frame with a good FCS is received. -/
def State.rxGood (i n : Nat) (s : State) : State := (s.bump (CTR_PORT_RX_GOOD i)).rxBytes i n

/-- The length of a frame that carries a number of bytes above Ethernet. -/
def etherLen (tagged : Bool) (n : Nat) : Nat := max 64 (18 + (if tagged then 4 else 0) + n)

/-- The length of a frame. The lengths of control and PTP frames are those of their protocols. -/
def State.frameLen (s : State) (w : Nat) (f : Frame) : Nat :=
  let c := s.on (NW_CFG w) NW_CFG_CTAG
  match f with
  | .gsf h _ => h.bytes
  | .rtp h _ => h.bytes
  | .report v6 _ j l =>
    let n := (j ++ l).foldl (fun a g => a + (if v6 then 20 else 8) + (if g.src = 0 then 0 else if v6 then 16 else 4)) 0
    etherLen c ((if v6 then 56 else 28) + n)
  | .arpReply .. => etherLen c 28
  | .arpGratuitous _ => etherLen c 28
  | .advert .. => etherLen c 72
  | .ptp k .. =>
    let n := match k with
      | .announce => 64
      | .pdelayReq | .delayResp | .pdelayResp | .pdelayRespFollowUp => 54
      | _ => 44
    let h := if s.fld (PTP_CFG w) PTP_CFG_PROFILE = 2 then 0 else if s.on (PTP_CFG w) PTP_CFG_IPV6 then 48 else 28
    etherLen c (h + n)

/-- The transmit flow of a stream frame. -/
def frameFlow (f : Frame) : Option (Nat × Stroke) :=
  match f with
  | .gsf h _ => some (h.t, h.stroke)
  | .rtp h _ => some (h.t, h.stroke)
  | _ => none

/-- A port sends a frame. -/
def State.sendOn (i : Nat) (f : Frame) (s : State) : State :=
  let s := s.bump (CTR_PORT_TX_GOOD i)
  let s := s.bumpBytes (PORT_TX_BYTES_LO i) (PORT_TX_BYTES_HI i) (PORT_CNT_SAT i) 13 (s.frameLen (netOf i) f)
  let s := match frameFlow f with
    | some (t, _) => s.bump (CTR_TXF_SENT t)
    | none => s
  s.setNetPort i { s.netPort i with sent := (s.netPort i).sent ++ [f] }

/-- The queue of a frame (R346): PTP event messages, then stream packets, then all other control frames. -/
def frameQueue (f : Frame) : Nat :=
  match f with
  | .ptp k .. =>
    match k with
    | .sync | .delayReq | .pdelayReq | .pdelayResp => 0
    | _ => 2
  | .gsf .. | .rtp .. => 1
  | _ => 2

/-- A port starts the frames that wait, its three queues in strict priority. -/
def State.startFrames (i : Nat) (s : State) : State :=
  let l := (s.netPort i).queued
  let o := (List.range 3).flatMap fun q => l.filter fun f => frameQueue f == q
  each o (fun f s => s.sendOn i f) (s.setNetPort i { s.netPort i with queued := [] })

/-- A frame enters its queue of the network's active port, and leaves it while the link is up. -/
def State.sendStream (w : Nat) (f : Frame) (s : State) : State :=
  let i := s.activePort w
  let s := s.setNetPort i { s.netPort i with queued := (s.netPort i).queued ++ [f] }
  if s.portLive i then s.startFrames i else s

/-- A control or PTP frame leaves on the network's active port; without a link, or once the engine seals, it is not sent. -/
def State.sendCtl (w : Nat) (f : Frame) (s : State) : State :=
  if s.portLive (s.activePort w) && !s.isSealing then s.sendStream w f else s

/-- Stream frames of an earlier stroke still queued are dropped (R353). -/
def State.dropQueued (i : Nat) (s : State) : State :=
  let old := fun f => match frameFlow f with
    | some (_, m) => decide (m ≠ s.tim.strk)
    | none => false
  let l := (s.netPort i).queued
  let s := s.setNetPort i { s.netPort i with queued := l.filter fun f => !old f }
  each (l.filter old) (fun f s =>
    let s := match frameFlow f with
      | some (t, _) => s.bump (CTR_TXF_DROP t)
      | none => s
    (s.bump (CTR_PORT_TX_DROP i)).mark EVT_NET_TXDROP) s

/-- TX_PACKET_DROP (R353). -/
def execTxPacketDrop (i : Fin 4) (s : State) : Host.Outcome State Fault Refusal := .next ((s.atRoot 12288).dropQueued i)

/-! ### The flow table (R347) -/

def State.ft (s : State) (f i : Nat) : Word := s.reg (NET_FLOW_TABLE f i)
def State.ftKind (s : State) (f : Nat) : Nat := bits (s.ft f 0) 31 30
def State.ftNets (s : State) (f : Nat) : Nat := bits (s.ft f 0) 29 28
def State.ftIpv6 (s : State) (f : Nat) : Bool := bitOf (s.ft f 0) 27
def State.ftAuth (s : State) (f : Nat) : Bool := bitOf (s.ft f 0) 26
def State.ftKeyid (s : State) (f : Nat) : Nat := bits (s.ft f 0) 25 18
def State.ftJ (s : State) (f : Nat) : Nat := bits (s.ft f 0) 17 14 + 1
def State.ftSkew (s : State) (f : Nat) : Nat := let k := bits (s.ft f 0) 13 10; if k = 0 then 4 else k
def State.ftCh (s : State) (f : Nat) : Nat := bits (s.ft f 0) 7 0 + 1
def State.ftFmt (s : State) (f : Nat) : Nat := bits (s.ft f 1) 31 30
def State.ftSfmt (s : State) (f : Nat) : Bool := bitOf (s.ft f 1) 29
def State.ftSlot (s : State) (f : Nat) : Nat := bits (s.ft f 1) 13 0
def State.ftFlow (s : State) (f : Nat) : Nat := bits (s.ft f 3) 16 2
def State.ftTag (s : State) (f : Nat) : Bool := bitOf (s.ft f 4) 28
def State.ftVid (s : State) (f : Nat) : BitVec 12 := BitVec.ofNat 12 (bits (s.ft f 4) 27 16)
def State.ftDport (s : State) (f : Nat) : Nat := bits (s.ft f 5) 15 0

/-- An address of four words, most significant first. -/
def State.ftAddr (s : State) (f i : Nat) : BitVec 128 :=
  BitVec.ofNat 128 ((List.range 4).foldl (fun a k => 2 ^ 32 * a + (s.ft f (i + k)).toNat) 0)
def State.ftDst (s : State) (f : Nat) : BitVec 128 := s.ftAddr f 6
def State.ftSrc (s : State) (f : Nat) : BitVec 128 := s.ftAddr f 10

/-- Whether a flow is an entry in use on a network. -/
def State.flowOn (s : State) (w f : Nat) : Bool := bitOf (BitVec.ofNat 2 (s.ftNets f)) w

/-- Whether a flow is enabled (R348). -/
def State.flowEnabled (s : State) (f : Nat) : Bool := bitOf (s.reg (NET_FLOW_EN (f / 32))) (f % 32)

/-- The enabled receive flows. -/
def State.rxFlows (s : State) : List Nat := ((List.range 1024).map (· + 1024)).filter fun f => s.flowEnabled f

def State.rxFlow (s : State) (f : Nat) : RxFlow := SMap.get (fun _ => {}) s.net.rx f
def State.setRxFlow (f : Nat) (x : RxFlow) (s : State) : State :=
  s.withNet { s.net with rx := SMap.set (fun _ => {}) s.net.rx f x }
def State.txFlow (s : State) (f : Nat) : TxFlow := SMap.get (fun _ => {}) s.net.tx f
def State.setTxFlow (f : Nat) (x : TxFlow) (s : State) : State :=
  s.withNet { s.net with tx := SMap.set (fun _ => {}) s.net.tx f x }

/-- The bytes of a carried sample (R350). -/
def State.ftW (s : State) (f : Nat) : Nat := if s.ftFmt f = 0 then 3 else 4

/-! ### Group membership (R341, R343) -/

/-- The group that a receive flow joins. -/
def State.flowGroup (s : State) (f : Nat) : Group := ⟨s.ftIpv6 f, s.ftDst f, s.ftSrc f⟩

/-- The groups that the enabled receive flows of a network use. -/
def State.flowGroups (s : State) (w : Nat) (v6 : Bool) : List Group :=
  ((s.rxFlows.filter fun f => s.flowOn w f && (s.ftIpv6 f == v6)).map s.flowGroup).eraseDups

/-- One of a network's IPv6 addresses. -/
def State.nwV6 (s : State) (w : Nat) (link : Bool) : BitVec 128 :=
  BitVec.ofNat 128 ((List.range 4).foldl (fun a k => 2 ^ 32 * a + (s.reg (if link then NW_IPV6L w k else NW_IPV6G w k)).toNat) 0)

/-- The solicited-node group of an address. -/
def solicited (a : BitVec 128) : BitVec 128 := BitVec.ofNat 128 (0xFF0200000000000000000001FF000000 + a.toNat % 2 ^ 24)

/-- The groups joined in a network: those of the flows, and for IPv6 the solicited-node groups. -/
def State.joined (s : State) (w : Nat) (v6 : Bool) : List Group :=
  s.flowGroups w v6 ++ (if v6 then ([solicited (s.nwV6 w false), solicited (s.nwV6 w true)].eraseDups.map fun a => ⟨true, a, 0⟩) else [])

/-- A change of membership is reported now and once more (R343). -/
def State.reportChange (w : Nat) (v6 : Bool) (j l : List Group) (s : State) : State :=
  if j.isEmpty && l.isEmpty then s
  else
    let f : Frame := .report v6 true j l
    let s := s.sendCtl w f
    s.setNw w { s.nw w with repeats := (s.nw w).repeats ++ [f] }

/-- REPORT_REPEAT: the second reports leave (R343). -/
def execReportRepeat (w : Fin 2) (s : State) : Host.Outcome State Fault Refusal :=
  let l := (s.nw w).repeats
  .next (each l (fun f s => s.sendCtl w f) (s.setNw w { s.nw w with repeats := [] }))

/-- A flow is enabled or disabled (R348): its bit, its merge emptied, its group joined or left. -/
def State.flowSet (f : Nat) (on : Bool) (s : State) : State :=
  if s.flowEnabled f = on then s
  else
    let v6 := s.ftIpv6 f
    let before := (List.range 2).map fun w => s.flowGroups w v6
    let s := s.setRegBit (NET_FLOW_EN (f / 32)) (f % 32) on
    if f < 1024 then s
    else
      let s := s.setRxFlow f {}
      each (List.range 2) (fun w s =>
        let old := before.getD w []
        let new := s.flowGroups w v6
        s.reportChange w v6 (new.filter fun g => !old.contains g) (old.filter fun g => !new.contains g)) s

/-- FLOW_ENABLE applied (R348). -/
def execFlowEnable (f : Fin 2048) (on : Bool) (s : State) : Host.Outcome State Fault Refusal := .next (s.flowSet f on)

/-! ### Change of active port (R337, R339, R483) -/

def State.ptp (s : State) (w : Nat) : Ptp := SMap.get (fun _ => {}) s.ptps w
def State.setPtp (w : Nat) (x : Ptp) (s : State) : State := s.withPtps (SMap.set (fun _ => {}) s.ptps w x)

/-- The frames that announce a newly active port (R339). -/
def State.announceFrames (s : State) (w : Nat) : List Frame :=
  let j4 := s.joined w false
  (if j4.isEmpty then [] else [.report false false j4 []]) ++
    [.report true false (s.joined w true) [], .arpGratuitous (s.reg (NW_IPV4 w)), .advert (s.nwV6 w false) none]

def State.announce (w : Nat) (s : State) : State := each (s.announceFrames w) (fun f s => s.sendCtl w f) s

/-- Name the active port of a network. -/
def State.setActive (w i : Nat) (s : State) : State :=
  let s := s.setRegBit NET_ACTIVE w (decide (i ≠ w))
  (s.setFld (PORT_STAT w) PORT_STAT_ACTIVE (b2n (i = w))).setFld (PORT_STAT (w + 2)) PORT_STAT_ACTIVE (b2n (i ≠ w))

/-- The other port becomes active: announcements first, and the PTP instance starts its delay anew (R483). -/
def State.failover (w i : Nat) (s : State) : State :=
  let s := ((s.setActive w i).mark EVT_NET_FAILOVER).announce w
  let s := s.setNw w { s.nw w with announce := true }
  s.setPtp w { s.ptp w with delayOk := false, waiting := none }

/-- ANNOUNCE_REPEAT: the frames of R339 leave a second time. -/
def execAnnounceRepeat (w : Fin 2) (s : State) : Host.Outcome State Fault Refusal :=
  .next (if (s.nw w).announce then (s.setNw w { s.nw w with announce := false }).announce w else s)

/-- LINK_UP (R336, R371). -/
def execLinkUp (i : Fin 4) (s : State) : Host.Outcome State Fault Refusal :=
  let used := s.on (PORT_CFG i) PORT_CFG_EN && decide (s.fld (PORT_CFG i) PORT_CFG_MODE ≠ 0)
  .next (if (s.dom i).on ∧ s.linkUp i = false ∧ used = true then
    let s := (s.setFld (PORT_STAT i) PORT_STAT_LINK 1).setFld (PORT_STAT i) PORT_STAT_LOCK 1
    let an := s.fld (PORT_CFG i) PORT_CFG_MODE = 1 ∧ s.on (PORT_CFG i) PORT_CFG_AN = true
    let s := (s.setFld (PORT_STAT i) PORT_STAT_AN_DONE (b2n an)).mark EVT_NET_LINK_UP
    if s.activePort (netOf i) = i.val then s.startFrames i else s
  else s)

/-- The link of a port goes down (R336, R337, R371). -/
def State.linkDown (i : Nat) (s : State) : State :=
  if s.linkUp i then
    let s := (s.setFld (PORT_STAT i) PORT_STAT_LINK 0).setFld (PORT_STAT i) PORT_STAT_LOCK 0
    let s := ((s.setFld (PORT_STAT i) PORT_STAT_AN_DONE 0).mark EVT_NET_LINK_DOWN).bump (CTR_PORT_LINK_DOWN i)
    let w := netOf i
    let o := (i + 2) % 4
    if s.activePort w = i ∧ s.portLive o ∧ (o = w ∨ s.on (NW_CFG w) NW_CFG_STBY) then s.failover w o else s
  else s

/-- LINK_DOWN. -/
def execLinkDown (i : Fin 4) (s : State) : Host.Outcome State Fault Refusal := .next (s.linkDown i)

/-! ### Control protocols (R341, R343) -/

/-- Whether a received frame's VLAN is accepted on a network (R345). -/
def State.vlanOk (s : State) (w : Nat) (vid : Option (BitVec 12)) : Bool :=
  match vid with
  | none => s.on (NW_CFG w) NW_CFG_UNTAG
  | some v =>
    if v = 0 then s.on (NW_CFG w) NW_CFG_UNTAG
    else (s.on (NW_CFG w) NW_CFG_CTAG && decide (s.fld (NW_CFG w) NW_CFG_CVID = v.toNat)) ||
      (List.range 2048).any fun f => s.flowOn w f && s.ftTag f && (s.ftVid f == v)

/-- Whether a receive entry accepts a frame's VLAN. -/
def State.vidMatches (s : State) (f : Nat) (vid : Option (BitVec 12)) : Bool :=
  if s.ftTag f then vid == some (s.ftVid f) else vid == none || vid == some 0

/-- The MAC of a multicast group: 01-00-5E and the low 23 bits of an IPv4 address, 33-33 and the low 32 bits of an IPv6
address (R342). -/
def groupMac (v6 : Bool) (a : BitVec 128) : BitVec 48 :=
  if v6 then 0x333300000000#48 ||| (a.setWidth 32).setWidth 48 else 0x01005E000000#48 ||| (a.setWidth 23).setWidth 48

/-- The network's own MAC (R340). -/
def State.nwMac (s : State) (w : Nat) : BitVec 48 := (s.reg (NW_MAC_HI w)).setWidth 16 ++ s.reg (NW_MAC_LO w)

/-- The MACs of the PTP groups: of IEEE 1588-2019 over IPv4, IPv6 and layer 2. -/
def ptpMacs : List (BitVec 48) :=
  [0x01005E000181, 0x01005E00006B, 0x333300000181, 0x33330000006B, 0x011B19000000, 0x0180C200000E]

/-- All nodes, of IPv6 and of IPv4. -/
def allNodeMacs : List (BitVec 48) := [0x333300000001, 0x01005E000001]

def broadcastMac : BitVec 48 := 0xFFFFFFFFFFFF

/-- The receive MAC filter (R342): the network's own MAC, broadcast for ARP only, the joined groups with the
solicited-node groups, the PTP groups, all nodes. -/
def State.macPasses (s : State) (w : Nat) (arp : Bool) (m : BitVec 48) : Bool :=
  m == s.nwMac w || (arp && m == broadcastMac) || ptpMacs.contains m || allNodeMacs.contains m ||
    (s.joined w false ++ s.joined w true).any fun g => groupMac g.ipv6 g.addr == m

/-- A frame of a handled class arrives on a port that has a link: whether its VLAN and its MAC let it pass; else it is
dropped and counted (R341, R342, R345). -/
def State.takesFrame (i : Nat) (x : RxWire) (arp : Bool) (s : State) : Bool × State :=
  if s.portLive i then
    let s := s.rxGood i x.bytes
    if !s.vlanOk (netOf i) x.vid then (false, s.bump (CTR_PORT_RX_VLAN i))
    else if !s.macPasses (netOf i) arp x.mac then (false, s.bump (CTR_PORT_RX_OTHER i))
    else (true, s)
  else (false, s)

/-- ARP_REQUEST. -/
def execArpRequest (i : Fin 4) (x : RxWire) (ip sip : BitVec 32) (smac : BitVec 48) (s : State) : Host.Outcome State Fault Refusal :=
  let (ok, s) := s.takesFrame i x true
  let w := netOf i
  .next (if ok then
    if ip = s.reg (NW_IPV4 w) then (if s.activePort w = i.val then s.sendCtl w (.arpReply ip sip smac) else s)
    else s.bump (CTR_PORT_RX_OTHER i)
  else s)

/-- NEIGHBOUR_SOLICITATION. -/
def execNeighbourSolicitation (i : Fin 4) (x : RxWire) (ip sip : BitVec 128) (smac : BitVec 48) (s : State) :
    Host.Outcome State Fault Refusal :=
  let (ok, s) := s.takesFrame i x false
  let w := netOf i
  .next (if ok then
    if ip = s.nwV6 w false ∨ ip = s.nwV6 w true then (if s.activePort w = i.val then s.sendCtl w (.advert ip (some (sip, smac))) else s)
    else s.bump (CTR_PORT_RX_OTHER i)
  else s)

/-- A query waits for its answer: a delay drawn from 0 to its maximum response time (R343). -/
def State.queryIn (i : Nat) (v6 : Bool) (q : GroupQuery) (x : RxWire) (s : State) : State :=
  let (ok, s) := s.takesFrame i x false
  let w := netOf i
  if ok && decide (s.activePort w = i) then
    let x := s.nw w
    let r := Config.netLfsr x.lfsr
    let due := s.tim.sysCnt + BitVec.ofNat 64 (r.toNat % (q.maxResp + 1))
    s.setNw w { x with lfsr := r, queries := x.queries ++ [(v6, q, due)] }
  else s

/-- IGMP_QUERY. -/
def execIgmpQuery (i : Fin 4) (x : RxWire) (q : GroupQuery) (s : State) : Host.Outcome State Fault Refusal :=
  .next (s.queryIn i false q x)

/-- MLD_QUERY. -/
def execMldQuery (i : Fin 4) (x : RxWire) (q : GroupQuery) (s : State) : Host.Outcome State Fault Refusal :=
  .next (s.queryIn i true q x)

/-- The answer that is due first. -/
def firstDue : List (Bool × GroupQuery × BitVec 64) → Option (Bool × GroupQuery × BitVec 64)
  | [] => none
  | q :: l => some (l.foldl (fun m x => if laterThan m.2.2 x.2.2 then x else m) q)

/-- QUERY_RESPONSE_DUE: a current-state report of the groups asked about leaves (R343). -/
def execQueryResponseDue (w : Fin 2) (s : State) : Host.Outcome State Fault Refusal :=
  .next (match firstDue (s.nw w).queries with
    | none => s
    | some q =>
      let s := s.setNw w { s.nw w with queries := (s.nw w).queries.erase q }
      let s := if laterThan q.2.2 s.tim.sysCnt then s.withTim { s.tim with sysCnt := q.2.2 } else s
      let l := (s.joined w q.1).filter fun g => match q.2.1.group with
        | some a => g.addr == a
        | none => true
      if l.isEmpty then s else s.sendCtl w (.report q.1 false l []))

end Sys2Proof.Machine
end

