-- ==== Sys2Proof/Machine/NetTx.lean ====
section
/-! DEFINITION. Transmit: the GSF and interop packets of a stroke (spec/10_network_transport.md, R350 to R355,
R363, R364), their colophons (R398, R399) and the state packets of a LEAD (R432 to R434). -/

namespace Sys2Proof.Machine

/-! ### The ICV (R351) -/

/-- `n` bytes of a number, most significant first (R6). -/
def beBytes (n v : Nat) : List Byte := (List.range n).map fun i => BitVec.ofNat 8 (v / 256 ^ (n - 1 - i))

def wordsBytes (l : List Word) : List Byte := l.flatMap fun w => beBytes 4 w.toNat

def tagWords (t : RawTag) : List Word := [t.w0, t.w1, t.w2, t.w3, t.w4, t.w5]
def colWords (c : Colophon) : List Word := [c.c0, c.c1, c.c2, c.c3, c.c4, c.c5, c.c6, c.c7]

/-- The additional authenticated data: header, tag section, colophon. -/
def gsfAad (p : GsfPacket) : List Byte :=
  [p.ver, p.type, p.flags, p.keyid] ++ beBytes 4 p.srcId.toNat ++ beBytes 2 p.flow.toNat ++ beBytes 2 p.seq.toNat ++
    beBytes 6 p.stroke.toNat ++ [p.chm1, p.fmt, BitVec.ofNat 8 p.ntag, 0] ++ beBytes 2 p.blen ++
    p.tags.flatMap (fun t => wordsBytes (tagWords t)) ++ wordsBytes (colWords p.colophon)

/-- The IV: SRC_ID, MEMBER·0x8000 + FLOW, STROKE. -/
def gsfIv (p : GsfPacket) : BitVec 96 :=
  BitVec.ofNat 96 (2 ^ 64 * p.srcId.toNat + 2 ^ 48 * (0x8000 * (b2n (bitOf p.flags 6)) + p.flow.toNat % 0x8000) + p.stroke.toNat)

def State.key (s : State) (k : Nat) : BitVec 256 := SMap.get (fun _ => 0) s.sec.keys k

/-- The ICV of a packet under a stream key. -/
def State.icvOf (s : State) (k : Nat) (p : GsfPacket) : BitVec 128 := Config.gcmTag (s.key k) (gsfIv p) (gsfAad p) []

/-! ### Samples (R352, R354, R355) -/

/-- One sample converted from the slot format to the carried format. -/
def toWire (sfmt : Bool) (fmt : Nat) (w : Word) : Word :=
  if fmt = 2 then (if sfmt then w else q31ToF32 w)
  else
    let q := if sfmt then (f32ToQ31 w).w else w
    if fmt = 0 then BitVec.ofNat 32 ((wrap 24 (sat 24 (roundHalfEven q.toInt 256))).toNat) else q

/-- The blocks of a flow's slots. -/
def fetchBlocks (base : Nat) : Nat → State → List Block × State
  | 0, s => ([], s)
  | n + 1, s =>
    let (b, s) := s.readBlock (s.readCopy false) base false
    let (l, s) := fetchBlocks (base + 1) n s
    (b :: l, s)

/-- The row of position `k`, and whether a poisoned word lies in it. -/
def wireRow (zero sfmt : Bool) (fmt : Nat) (l : List Block) (k : Nat) : List Word × Bool :=
  (l.map fun b => if zero || b.psn k then 0 else toWire sfmt fmt (b.word k), l.any fun b => b.psn k)

/-! ### Packets -/

/-- The member bit that packets carry (R405). -/
def State.memberBit (s : State) : Bool := s.member && s.on MIR_CFG MIR_CFG_MEMBER

/-- The latched colophon as a packet carries it: STATUS, MUTED, and D of the stroke before (R399, R418). -/
def State.colophonFor (s : State) (status : Nat) (muted : Bool) : Colophon :=
  let c := s.stager.colophon
  let c := { c with c0 := (c.c0 &&& 0xFFC7FFFF) ||| BitVec.ofNat 32 (2 ^ 20 * status + 2 ^ 19 * (b2n muted)) }
  let n := s.tim.strk - 1
  match s.digestOf n with
  | none => c
  | some r =>
    let c := { c with c4 := BitVec.ofNat 32 (n.toNat / 2 ^ 16), c5 := BitVec.ofNat 32 (2 ^ 16 * (n.toNat % 2 ^ 16)) }
    { c with c6 := hiWord r.d, c7 := loWord r.d }

/-- The sender's address on a network. -/
def State.ownIp (s : State) (w : Nat) (v6 : Bool) : BitVec 128 := if v6 then s.nwV6 w false else (s.reg (NW_IPV4 w)).setWidth 128

/-- A packet of a transmit flow before the addresses of its network and its ICV. -/
def State.gsfForm (s : State) (t type : Nat) (seq : BitVec 16) (samples : List Word) (blen : Nat) (tags : List RawTag) (c : Colophon) : GsfPacket :=
  let auth := s.ftAuth t
  let rate := min 2 (s.fld STK_CFG STK_CFG_RATE)
  { mac := groupMac (s.ftIpv6 t) (s.ftDst t), dstIp := s.ftDst t, srcIp := 0, ipv6 := s.ftIpv6 t, dport := BitVec.ofNat 16 (s.ftDport t), sport := BitVec.ofNat 16 (bits (s.ft t 5) 31 16),
    vid := if s.ftTag t then some (s.ftVid t) else none, ver := 1, type := BitVec.ofNat 8 type,
    flags := BitVec.ofNat 8 (128 * (b2n auth) + 64 * (b2n s.memberBit)), keyid := BitVec.ofNat 8 (s.ftKeyid t), srcId := s.ft t 2,
    flow := BitVec.ofNat 16 (s.ftFlow t), seq := seq, stroke := s.tim.strk, chm1 := BitVec.ofNat 8 (s.ftCh t - 1),
    fmt := BitVec.ofNat 8 (16 * rate + s.ftFmt t), ntag := tags.length, blen := blen, samples := samples, tags := tags, colophon := c, icv := 0,
    payload := 24 + blen + 24 * tags.length + 32 + (if auth then 16 else 0), bytes := 0 }

/-- What the headers of a flow's frame carry; `n` is the UDP payload. -/
def State.txHdr (s : State) (t n : Nat) : TxHdr :=
  let b := etherLen (s.ftTag t) (n + (if s.ftIpv6 t then 48 else 28))
  { t := t, stroke := s.tim.strk, ttl := BitVec.ofNat 8 (bits (s.ft t 4) 7 0), dscp := BitVec.ofNat 6 (bits (s.ft t 4) 13 8),
    pcp := BitVec.ofNat 3 (bits (s.ft t 4) 31 29), bytes := b }

/-- The conditions of R351 on a packet with AUTH = 1. -/
def State.mayAuth (s : State) (t : Nat) : Bool :=
  s.net.aligned && match (s.txFlow t).sent with
    | none => true
    | some m => laterThan s.tim.strk m

/-- A formed packet goes to the flow's networks, or is not sent (R351); SEQ advances either way. -/
def State.gsfSend (t : Nat) (p : GsfPacket) (s : State) : State :=
  let ok := !s.ftAuth t || s.mayAuth t
  let s := s.setTxFlow t { s.txFlow t with seq := (s.txFlow t).seq + 1 }
  if ok then
    let p := if s.ftAuth t then { p with icv := s.icvOf (s.ftKeyid t) p } else p
    let h := s.txHdr t p.payload
    let s := s.setTxFlow t { s.txFlow t with sent := some s.tim.strk }
    each ((List.range 2).filter fun w => s.flowOn w t) (fun w s =>
      s.sendStream w (.gsf h { p with srcIp := s.ownIp w p.ipv6, bytes := h.bytes })) s
  else s.bump (CTR_TXF_DROP t)

/-- The audio packet of a GSF flow (R352 to R355, R391). -/
def State.launchGsf (t : Nat) (s : State) : State :=
  let (bl, s) := fetchBlocks (s.ftSlot t) (s.ftCh t) s
  let rows := (List.range s.samples).map fun k => wireRow s.muted (s.ftSfmt t) (s.ftFmt t) bl k
  let psn := rows.any fun r => r.2
  let stale := bl.any fun b => b.stale
  let s := if psn then (s.bump (CTR_TXF_INVALID t)).mark EVT_NET_POISON else s
  let x := s.txFlow t
  let tags := x.relay.take 16
  let s := s.setTxFlow t { x with relay := x.relay.drop 16 }
  let c := s.colophonFor (if psn then 2 else if stale then 1 else 0) s.muted
  s.gsfSend t (s.gsfForm t 0 x.seq (rows.flatMap fun r => r.1) (s.ftCh t * s.samples * s.ftW t) tags c)

/-! ### Interop (R363, R364) -/

/-- Samples per packet. -/
def State.rtpP (s : State) (t : Nat) : Nat :=
  let k := if s.fld STK_CFG STK_CFG_RATE = 0 then 1 else 2
  if bits (s.ft t 1) 28 27 = 2 then 48 * k else 6 * k

/-- Whether the engine's interop flows send: a member's only in LEAD, member 1's only while the peer shows no LEAD
(R407). -/
def State.interopSends (s : State) : Bool :=
  !s.member || (s.mirState == mirLead && (!s.on MIR_CFG MIR_CFG_MEMBER || !s.on MIR_STAT MIR_STAT_PEER_LEAD))

/-- Send the interop packet whose first row is the first of `rows`. -/
def State.rtpSend (t : Nat) (x0 : Int) (rows : List (List Word × Bool)) (s : State) : State :=
  let p := s.rtpP t
  let pt : BitVec 7 := BitVec.ofNat 7 (bits (s.ft t 1) 23 17)
  let ts := BitVec.ofInt 32 (x0 + (s.ft t 14).toNat)
  let n := 12 + p * s.ftCh t * s.ftW t
  let s := if rows.any fun r => r.2 then s.bump (CTR_TXF_INVALID t) else s
  let h := s.txHdr t n
  let vid := if s.ftTag t then some (s.ftVid t) else none
  each ((List.range 2).filter fun w => s.flowOn w t) (fun w s =>
    s.sendStream w (.rtp h
      { mac := groupMac (s.ftIpv6 t) (s.ftDst t), dstIp := s.ftDst t, srcIp := s.ownIp w (s.ftIpv6 t), ipv6 := s.ftIpv6 t,
        dport := BitVec.ofNat 16 (s.ftDport t), sport := BitVec.ofNat 16 (bits (s.ft t 5) 31 16), vid := vid, ssrc := s.ft t 2, pt := pt,
        seq := BitVec.ofInt 16 (x0 / p), ts := ts, payload := n, samples := rows.flatMap fun r => r.1, odd := 0, bytes := h.bytes })) s

/-- Packets whose last sample has been fetched leave; `fuel` bounds their number. -/
def rtpFlush (t : Nat) : Nat → State → State
  | 0, s => s
  | fuel + 1, s =>
    let p := s.rtpP t
    let rows := (s.txFlow t).rows.dropWhile fun r => decide ((r.1 - (s.ft t 14).toNat) % (p : Int) ≠ 0)
    let s := s.setTxFlow t { s.txFlow t with rows := rows }
    if rows.length < p then s
    else
      let s := s.setTxFlow t { s.txFlow t with rows := rows.drop p }
      rtpFlush t fuel (if s.interopSends then s.rtpSend t (rows.headD (0, [], false)).1 ((rows.take p).map fun r => r.2) else s)

/-- The rows of a stroke join those that wait; a break in the stroke numbers drops the earlier ones. -/
def State.launchRtp (t : Nat) (s : State) : State :=
  let (bl, s) := fetchBlocks (s.ftSlot t) (s.ftCh t) s
  let x0 : Int := (s.tim.strk.toNat * s.samples : Nat)
  let rows := (List.range s.samples).map fun k => (x0 + Int.ofNat k, wireRow s.muted (s.ftSfmt t) (s.ftFmt t) bl k)
  let old := (s.txFlow t).rows
  let keep := match old.getLast? with
    | some r => decide (r.1 + 1 = x0)
    | none => true
  let s := s.setTxFlow t { s.txFlow t with rows := (if keep then old else []) ++ rows }
  rtpFlush t (s.samples + 1) s

/-! ### State packets (R432 to R434) -/

/-- Whether a transmit flow is a state flow. -/
def State.stateTx (s : State) (t : Nat) : Bool :=
  s.member && decide (s.fld MIR_STREAM MIR_STREAM_STX ≤ t) && decide (t < s.fld MIR_STREAM MIR_STREAM_STX + s.fld MIR_STREAM MIR_STREAM_SPKT)

/-- The record of a word taken at the snapshot point (R433). -/
def State.recordOf (s : State) (x : Nat × Word64 × Bool) : RawTag :=
  let n := s.tim.strk.toNat
  { w0 := BitVec.ofNat 32 x.1, w1 := hiWord x.2.1, w2 := loWord x.2.1, w3 := BitVec.ofNat 32 (n / 2 ^ 16),
    w4 := BitVec.ofNat 32 (2 ^ 16 * (n % 2 ^ 16) + s.fld MIR_PASS MIR_PASS_PASS),
    w5 := BitVec.ofNat 32 (2 ^ 16 * ((s.reg BOOT_FID).toNat % 2 ^ 16) + 2 ^ 15 * (b2n x.2.2) + s.fwRev.toNat % 256) }

/-- The state packet of a state flow. -/
def State.launchState (t : Nat) (s : State) : State :=
  let i := t - s.fld MIR_STREAM MIR_STREAM_STX
  let l := (s.mir.snap.drop (16 * i)).take 16
  if s.mir.sending = false ∨ l.isEmpty then s
  else s.gsfSend t (s.gsfForm t 2 (s.txFlow t).seq [] 0 (l.map s.recordOf) (s.colophonFor 3 false))

/-- The cursor advances by what the stroke has sent; at the end of the map the pass is complete (R434). -/
def State.passAdvance (s : State) : State :=
  if s.mir.sending then
    let c := (s.reg MIR_CURSOR).toNat + s.mir.snap.length
    let s := s.withMir { s.mir with snap := [] }
    if s.wtot ≤ c then
      let s := (s.setReg MIR_CURSOR 0).bump CTR_MIR_PASS_CNT
      s.withMir { s.mir with sending := false }
    else s.setReg MIR_CURSOR (BitVec.ofNat 32 c)
  else s

/-! ### The launch (R352) -/

/-- The packet of one flow. -/
def State.launchFlow (t : Nat) (s : State) : State :=
  if s.stateTx t then s.launchState t
  else if s.ftKind t = 0 then s.launchGsf t
  else s.launchRtp t

/-- FLOW_LAUNCH: what is still queued of the stroke before is dropped, then every enabled flow's packet is formed
and queued in flow order (R352, R353). In DARK, LOAD, SERVICE and SEALED nothing is sent (R593). -/
def execFlowLaunch (s : State) : Host.Outcome State Fault Refusal :=
  let s := s.atRoot 12288
  let s := each (List.range 4) (fun i s => s.dropQueued i) s
  .next (if s.rulingRuns && !s.blotOn then
    let l := (List.range 1024).filter fun t => s.flowEnabled t && decide (s.ftNets t ≠ 0)
    (each l (fun t s => s.launchFlow t) s).passAdvance
  else s)

end Sys2Proof.Machine
end

