-- ==== Sys2Proof/Machine/Spares.lean ====
section
/-! DEFINITION. Repair segments and rows, the spare rows of a memory group, and the ledger
(spec/17_memory_protection.md R573 to R575, spec/21_freeboard_and_spares.md R667 to R669). -/

namespace Sys2Proof.Machine

/-! ### Segments and rows (R558, R667, R573) -/

/-- The repair segment of an SRAM address, and its row there. -/
def segOf (a : Nat) : Option (Nat × Nat) :=
  let o := a % 0x4000000
  let p := polderOf a
  if 0x04000000 ≤ a ∧ a < 0x04080000 then some (4, a / 1024 % 512)
  else if 0x08000000 ≤ a ∧ a < 0x08200000 then
    let x := a % 0x100000
    some (x / 0x40000, 256 * (a / 0x100000 % 2) + x % 0x40000 / 1024)
  else if groupOf a = none then none
  else if o < 0x1000000 then some (5 + 58 * p + o / 0x80000, o % 0x80000 / 1024)
  else if o < 0x1800000 then some (237 + 21 * (4 * p + o / 0x200000 % 4) + o % 0x200000 / 0x80000, o % 0x80000 / 1024)
  else if o < 0x2880000 then
    match nibOfAddr a with
    | some (n, k) =>
      let x := if n < 256 then 237 + 21 * (n / 16) + 4 + n % 16 else 237 + 21 * (n - 256) + 20
      some (x, if k < 0x8000 then k / 512 else 64 + k / 512 % 128)
    | none => none
  else if o < 0x3240000 then some (5 + 58 * p + 56, o / 1024 % 256)
  else if o < 0x3318000 then some (5 + 58 * p + 57, o / 1024 % 32)
  else if o < 0x3800000 then some (5 + 58 * p + 32 + o / 0x80000 % 8, o % 0x80000 / 1024)
  else if o < 0x3C00000 then some (5 + 58 * p + 48 + o / 0x80000 % 8, o % 0x80000 / 1024)
  else some (5 + 58 * p + 40 + o / 0x80000 % 8, o % 0x80000 / 1024)

/-- The memory group of a segment, and its segments. -/
def segGroup (x : Nat) : Nat := if x < 5 then 0 else if x < 237 then 1 + (x - 5) / 58 else 5 + (x - 237) / 21

def groupSegs (g : Nat) : List Nat :=
  if g = 0 then List.range 5
  else if g < 5 then (List.range 58).map (5 + 58 * (g - 1) + ·)
  else (List.range 21).map (237 + 21 * (g - 5) + ·)

/-- The address of the first word of a row. -/
def spareRow (x row : Nat) : Nat :=
  if x < 4 then 0x08000000 + 0x100000 * (row / 256) + 0x40000 * x + 1024 * (row % 256)
  else if x = 4 then 0x04000000 + 1024 * row
  else if x < 237 then
    let j := (x - 5) % 58
    let b := 0x10000000 + 0x4000000 * ((x - 5) / 58)
    if j < 32 then b + 0x80000 * j + 1024 * row
    else if j < 40 then b + 0x3400000 + 0x80000 * (j - 32) + 1024 * row
    else if j < 48 then b + 0x3C00000 + 0x80000 * (j - 40) + 1024 * row
    else if j < 56 then b + 0x3800000 + 0x80000 * (j - 48) + 1024 * row
    else if j = 56 then b + 0x3200000 + 1024 * row
    else b + 0x3310000 + 1024 * row
  else
    let q := (x - 237) / 21
    let j := (x - 237) % 21
    if j < 4 then 0x10000000 + 0x4000000 * (q / 4) + 0x1000000 + 0x200000 * (q % 4) + 0x80000 * j + 1024 * row
    else
      let n := if j < 20 then 16 * q + (j - 4) else 256 + q
      if row < 64 then nibWin n + 512 * row else nibWin n + 0x10000 + 512 * (row - 64)

/-- The segments whose memories lie in a power domain. -/
def domSegs (d : Domain) : List Nat :=
  match d with
  | .pld p => (List.range 58).map (5 + 58 * p.val + ·)
  | .qre x => (List.range 4).map (237 + 21 * x.val + ·)
  | .nib n => if n.val < 256 then [237 + 21 * (n.val / 16) + 4 + n.val % 16] else [237 + 21 * (n.val - 256) + 20]
  | _ => []

/-- Spare rows of a segment in use. -/
def State.segUsed (s : State) (x : Nat) : Nat := SMap.get (fun _ => 0) (s.group (segGroup x)).used x

/-- Redirect a row to a spare of its segment (R574): nothing when the segment has none. -/
def State.mapRow (x row : Nat) (s : State) : State :=
  let g := s.group (segGroup x)
  let u := s.segUsed x
  if u < 8 then
    let rows := if g.rows.contains (spareRow x row) then g.rows else g.rows ++ [spareRow x row]
    s.setGroup (segGroup x) { g with used := SMap.set (fun _ => 0) g.used x (u + 1), rows := rows }
  else s

/-- Forget the spare rows of the segments of a domain (R575). -/
def State.dropSpares (d : Domain) (s : State) : State :=
  each (domSegs d) (fun x s =>
    let g := s.group (segGroup x)
    let out : Nat → Bool := fun a => (segOf a).map Prod.fst != some x
    s.setGroup (segGroup x) { g with used := SMap.set (fun _ => 0) g.used x 0, found := SMap.set (fun _ => 0) g.found x 0, rows := g.rows.filter out, hard := g.hard.filter out }) s

/-- Free spare rows of a group. -/
def State.freeRows (s : State) (g : Nat) : Nat := ((groupSegs g).map fun x => 8 - s.segUsed x).sum

/-! ### The ledger (R668, R669) -/

def ledgerHeader : Nat := 1
def ledgerRetired : Nat := 2
def ledgerPending : Nat := 3
def ledgerRow : Nat := 4
def ledgerSnap : Nat := 5

/-- Records that a sector of 64 KiB holds. -/
def sectorRecs : Nat := 2048

/-- FB_LIFE (R671). -/
def State.life (s : State) : BitVec 64 := joinWords 64 (s.reg FB_LIFE_HI) (s.reg FB_LIFE_LO)

/-- The record that the scribe would write now. -/
def State.ledgerRec (s : State) (kind : Nat) (loc : Word) : LedgerRec :=
  ⟨kind, loc, s.life, BitVec.ofNat 16 (s.fld FB_VDD FB_VDD_REQ),
   (match s.fb.ledger.getLast? with | some r => r.seq + 1 | none => 0), s.reg FB_BOOTS⟩

/-- Append one record without regard to the sector's end. -/
def State.ledgerPush (kind : Nat) (loc : Word) (s : State) : State :=
  s.withFb { s.fb with ledger := s.fb.ledger ++ [s.ledgerRec kind loc] }

/-- A nib's pending record is out of date once a retired record names it. -/
def livePending (l : List LedgerRec) (r : LedgerRec) : Bool :=
  r.kind != ledgerPending || !(l.any fun x => x.kind == ledgerRetired && x.loc == r.loc)

/-- The records that go over into a new sector: retired nibs, pending retirements, repaired rows. -/
def ledgerKept (l : List LedgerRec) : List LedgerRec :=
  l.filter fun r => (r.kind == ledgerRetired || r.kind == ledgerPending || r.kind == ledgerRow) && livePending l r

/-- The slot that BOOT_STAT names as loaded. -/
def State.slotLoaded (s : State) : Fin 2 := if s.on BOOT_STAT BOOT_STAT_SLOT then 1 else 0

/-- The count of records in the active sector, and where the ledger lies (R673): nowhere, in the loaded slot, in both,
or with no room in the loaded slot. -/
def State.ledgerView (s : State) : State :=
  let x := s.slotLoaded
  let st := if s.fb.slots = [] then 0 else if s.fb.slots.contains x = false then 3 else if s.fb.slots.contains (1 - x) then 2 else 1
  s.setReg FB_LEDGER (BitVec.ofNat 32 (2 ^ 28 * st + s.fb.ledger.length))

/-- Append a record (R669): in a full sector, first a header and the records kept go into the other sector, with a
snapshot. -/
def State.ledgerAppend (kind : Nat) (loc : Word) (s : State) : State :=
  if s.fb.slots = [] then s
  else
    let s :=
      if s.fb.ledger.length < sectorRecs then s
      else
        let old := s.fb.ledger
        let s := s.withFb { s.fb with ledger := old.drop (old.length - 1) }
        let s := s.ledgerPush ledgerHeader 0
        let s := s.withFb { s.fb with ledger := s.fb.ledger.drop 1, turns := s.fb.turns + 1 }
        (each (ledgerKept old) (fun r s => s.ledgerPush r.kind r.loc) s).ledgerPush ledgerSnap 0
    (s.ledgerPush kind loc).ledgerView

/-- Whether the ledger records a nib as retired or pending (R670). -/
def State.ledgerNib (s : State) (n : Nat) : Bool :=
  s.fb.ledger.any fun r => (r.kind == ledgerRetired || r.kind == ledgerPending) && r.loc.toNat == n

/-- Rows repaired over the ledger's life in a segment. -/
def State.ledgerRows (s : State) (x : Nat) : Nat := s.fb.ledger.countP fun r => r.kind == ledgerRow && r.loc.toNat / 2 ^ 16 == x

end Sys2Proof.Machine
end

