-- ==== Sys2Proof/Machine/Power.lean ====
section
/-! DEFINITION. Power domains, their zeroing, their sluice gates, and cofferdams
(spec/01_engine_architecture.md R43 to R47, spec/15_fabric_and_address_map.md R518 to R525). -/

namespace Sys2Proof.Machine

/-- The domain that contains another (R44); PD_CHIP is always on. -/
def outer (d : Domain) : Option Domain :=
  match d with
  | .qre x => some (.pld ⟨x.val / 4, by omega⟩)
  | .nib n => if h : n.val < 256 then some (.qre ⟨n.val / 16, by omega⟩) else some (.qre ⟨n.val - 256, by omega⟩)
  | _ => none

/-- The nibs of a quire: its 16 active nibs and its relief nib. -/
def quireNibs (x : Fin 16) : List (Fin 272) :=
  (List.finRange 16).map (fun k => ⟨16 * x.val + k.val, by omega⟩) ++ [⟨256 + x.val, by omega⟩]

/-- The quires of a polder. -/
def polderQuires (p : Fin 4) : List (Fin 16) := (List.finRange 4).map fun q => ⟨4 * p.val + q.val, by omega⟩

/-- Every memory word of a domain to zero with valid check bits and every register to its reset value, with what
the domain's units hold beside them (R11, R26). -/
def State.wipe (d : Domain) (s : State) : State :=
  let s := s.dropSpares d
  match d with
  | .net i =>
    let b := PORT_CFG i.val
    let s := s.resetRegs b (b + 0x100)
    s.withNet { s.net with ports := SMap.erase s.net.ports i.val }
  | .sap => (((((s.resetRegs 0x20200000 0x20201100).withSaps []).withSapHeld []).withSapMasks []).withSapRemap false)
  | .lane => (((s.resetRegs 0x20300000 0x20304084).withLanes []).withSenseBad [])
  | .pld p =>
    let b := 0x10000000 + 0x4000000 * p.val
    let s := (s.zeroMem b (b + 0x1000000)).zeroMem (b + 0x3000000) (b + 0x4000000)
    let s := s.resetRegs (b + 0x3000000) (b + 0x3400000)
    (((s.withBrus (SMap.erase s.brus p.val)).withBruLive (s.bruLive.filter fun e => e / 512 != p.val)).withInkPrev (SMap.clear b (b + 0x4000000) s.inkPrev)).withChains (SMap.clear (16 * p.val) (16 * p.val + 16) s.chains)
  | .qre x =>
    let b := 0x10000000 + 0x4000000 * (x.val / 4)
    let s := s.zeroMem (b + 0x1000000 + 0x200000 * (x.val % 4)) (b + 0x1200000 + 0x200000 * (x.val % 4))
    s.resetRegs (QRE_NIB_EVT_STATUS x.val) (QRE_NIB_EVT_STATUS x.val + 0x1000)
  | .nib n =>
    let b := nibWin n.val
    let s := (s.zeroMem b (b + 0x20000)).resetRegs b (b + 0x20000)
    s.withNibs (SMap.erase s.nibs n.val)

/-- Rows that the ledger records as repaired are mapped to spares after power-on, before the zeroing (R670). -/
def State.restoreRows (d : Domain) (s : State) : State :=
  each (s.fb.ledger.filter fun r => r.kind == ledgerRow && (domSegs d).contains (r.loc.toNat / 2 ^ 16))
    (fun r s => s.mapRow (r.loc.toNat / 2 ^ 16) (r.loc.toNat % 2 ^ 16)) s

/-- The gate bits of a domain in FAB_GATE_STAT: bank level and bit (R531); a nib's gates have none. -/
def gateBit (d : Domain) : Option (Nat × Nat) :=
  match d with
  | .pld p => some (0, p.val)
  | .net i => some (0, 4 + i.val)
  | .sap => some (0, 8)
  | .lane => some (0, 9)
  | .qre x => some (1 + x.val / 4, x.val % 4)
  | .nib _ => none

/-- The level of the fabric at which a domain's gate lies (R518). -/
def gateLevel (d : Domain) : Nat :=
  match d with
  | .qre x => 1 + x.val / 4
  | .nib n => 1 + (if n.val < 256 then n.val / 64 else (n.val - 256) / 4)
  | _ => 0

/-- Set or clear the gate's CLOSED bit (0) or DRAINED bit (16). -/
def State.setGateBit (d : Domain) (off : Nat) (b : Bool) (s : State) : State :=
  match gateBit d with
  | some (l, i) => s.setRegBit (FAB_GATE_STAT l) (off + i) b
  | none => s

/-- Whether the container of a domain is powered (R44). -/
def State.outerOn (s : State) (d : Domain) : Bool :=
  match outer d with
  | some o => (s.dom (domKey o)).on
  | none => true

/-- Power up one domain: refused while its container is off (R44) or while the domain stays down until the next
folio load (R45); its memories are zeroed and its gate stays closed (R26, R46). -/
def State.powerUp1 (d : Domain) (s : State) : State :=
  let x := s.dom (domKey d)
  if x.on ∨ x.dead ∨ s.outerOn d = false then s
  else
    let s := (s.wipe d).restoreRows d
    let s := s.setDom (domKey d) { on := true }
    (match d with
     | .pld p => s.setGroup (1 + p.val) { s.group (1 + p.val) with repaired := 0 }
     | .qre q => s.setGroup (5 + q.val) { s.group (5 + q.val) with repaired := 0 }
     | _ => s)

/-- Power up a domain; a quire brings its relief nib with it (R45). -/
def State.powerUp (d : Domain) (s : State) : State :=
  match d with
  | .qre x =>
    let s := s.powerUp1 d
    if s.ledgerNib (256 + x.val) then s else s.powerUp1 (.nib ⟨256 + x.val, by omega⟩)
  | .nib n => if s.ledgerNib n.val then s else s.powerUp1 d
  | _ => s.powerUp1 d

/-- What a domain loses when it goes off: all, but for the lead of a nib, which a relief nib may yet take over
(R126) and which only the next power-up resets (R11). -/
def State.lose (d : Domain) (s : State) : State :=
  match d with
  | .nib n => (s.wipe d).setReg (NIB_WARN_LEAD n.val) (s.reg (NIB_WARN_LEAD n.val))
  | _ => s.wipe d

/-- Power down one domain: its contents are lost (R26) and accesses to it are dry (R47). -/
def State.powerDown1 (d : Domain) (s : State) : State :=
  let x := s.dom (domKey d)
  if x.on then ((s.lose d).setDom (domKey d) { x with on := false, opened := false, draining := false }) else s

/-- The domains that a domain contains, innermost first, then itself (R44). -/
def innerFirst (d : Domain) : List Domain :=
  match d with
  | .pld p =>
    ((polderQuires p).map fun x => (quireNibs x).map Domain.nib ++ [Domain.qre x]).flatten ++ [d]
  | .qre x => (quireNibs x).map Domain.nib ++ [d]
  | _ => [d]

def State.powerDown (d : Domain) (s : State) : State := each (innerFirst d) State.powerDown1 s

/-- The zeroing is complete and the gate opens (R46). -/
def State.openGate (d : Domain) (s : State) : State :=
  let x := s.dom (domKey d)
  if x.on ∧ x.opened = false ∧ x.draining = false then
    ((s.setDom (domKey d) { x with opened := true }).setGateBit d 0 false).setGateBit d 16 false
  else s

/-- The gate closes for an orderly power-down or a cofferdam (R520 step 1). -/
def State.closeGate (d : Domain) (s : State) : State :=
  let x := s.dom (domKey d)
  if x.on ∧ x.draining = false then
    ((s.setDom (domKey d) { x with opened := false, draining := true }).setGateBit d 0 true).setGateBit d 16 false
  else s

/-- The gate has drained: DRAINED sets, and then the domain is switched off (R520 step 3). -/
def State.drained (d : Domain) (s : State) : State :=
  if (s.dom (domKey d)).draining then ((s.setGateBit d 16 true).powerDown d) else s

/-- A domain stays down until the next folio load (R45, R525). -/
def State.setDead (d : Domain) (s : State) : State := s.setDom (domKey d) { s.dom (domKey d) with dead := true }

/-- Every switched domain. -/
def allDomains : List Domain :=
  (List.finRange 4).map Domain.net ++ [.sap, .lane] ++ (List.finRange 4).map Domain.pld ++
    (List.finRange 16).map Domain.qre ++ (List.finRange 272).map Domain.nib

/-- The domain in which an address lies; `none` for PD_AON and PD_CHIP. Nib windows lie in the nib's domain, the
nib event block in the quire's (R43). -/
def domOf (a : Nat) : Option Domain :=
  if 0x10000000 ≤ a ∧ a < 0x20000000 then
    let o := a % 0x4000000
    let p : Fin 4 := ⟨polderOf a % 4, Nat.mod_lt _ (by decide)⟩
    let quire : Nat → Domain := fun q => .qre ⟨(4 * p.val + q) % 16, Nat.mod_lt _ (by decide)⟩
    if 0x1000000 ≤ o ∧ o < 0x1800000 then some (quire (o / 0x200000 % 4))
    else if 0x2880000 ≤ o ∧ o < 0x2884000 then some (quire (o / 0x1000 % 4))
    else
      match nibOfAddr a with
      | some (n, _) => some (.nib ⟨n % 272, Nat.mod_lt _ (by decide)⟩)
      | none => some (.pld p)
  else if 0x20000400 ≤ a ∧ a < 0x20000800 then some (.net ⟨a / 0x100 % 4, Nat.mod_lt _ (by decide)⟩)
  else if 0x20200000 ≤ a ∧ a < 0x20201100 then some .sap
  else if 0x20300000 ≤ a ∧ a < 0x20304084 then some .lane
  else none

/-- The outermost closed gate on the way to an address. -/
def State.closedGate (s : State) (a : Nat) : Option Domain :=
  let path : List Domain :=
    match domOf a with
    | some (.nib n) =>
      let q : Fin 16 := if h : n.val < 256 then ⟨n.val / 16, by omega⟩ else ⟨n.val - 256, by omega⟩
      [.pld ⟨q.val / 4, by omega⟩, .qre q, .nib n]
    | some (.qre q) => [.pld ⟨q.val / 4, by omega⟩, .qre q]
    | some d => [d]
    | none => []
  path.find? fun d => !s.isOpen (domKey d)

/-- The scribe can act: it is out of reset and not hung (R591). -/
def State.scribeActs (s : State) : Bool := !s.mf.scribeHeld && !s.on MF_FAULT MF_FAULT_HUNG

/-! ### The commands -/

def execSluiceGateOpen (d : Domain) (s : State) : Host.Outcome State Fault Refusal := .next (s.openGate d)

end Sys2Proof.Machine
end

