-- ==== Sys2Proof/Machine/Folio.lean ====
section
/-! DEFINITION. The folio as bytes: its chunks and their tags (R614), and what each type of section holds (R615,
R642). -/

namespace Sys2Proof.Machine

/-- The `n` bytes of a number, lowest first (R6), and the numbers that bytes spell, lowest or highest first. -/
def leList (n v : Nat) : List Byte := (List.range n).map fun i => BitVec.ofNat 8 (v / 256 ^ i)
def leNat (l : List Byte) : Nat := l.foldr (fun b n => b.toNat + 256 * n) 0
def beNat (l : List Byte) : Nat := l.foldl (fun n b => 256 * n + b.toNat) 0

/-- A list cut into pieces of `k`, at most `n` of them. -/
def pieces {α : Type} (k : Nat) : Nat → List α → List (List α)
  | 0, _ => []
  | n + 1, l => if l.isEmpty then [] else l.take k :: pieces k n (l.drop k)

/-- The words that bytes spell (R6). -/
def wordsOf (l : List Byte) : List Word := (pieces 4 l.length l).map fun b => BitVec.ofNat 32 (leNat b)

/-! ### The header -/

/-- Bytes 0x000 to 0x0CF of a header: the data that WRAPKEY's tag covers beside the key (R641). -/
def headerAad (h : FolioHeader) : List Byte :=
  ([h.magic, h.fmtver, h.length, h.flags, h.sections, h.fwmin, h.serial].flatMap fun w => leList 4 w.toNat) ++ h.reserved ++
    beBytes 48 h.cdigest.toNat ++ beBytes 96 h.signer.toNat

/-- The folio key, when WRAPKEY's tag verifies (R617, R641). -/
def folioKey (h : FolioHeader) (root : BitVec 256) : Option (BitVec 256) :=
  let c := beBytes 32 h.wrapKey.toNat
  if h.wrapTag = Config.gcmTag root h.wrapIv (headerAad h) c then some (BitVec.ofNat 256 (beNat (Config.gcmPlain root h.wrapIv c))) else none

/-- FID: the last two bytes of CDIGEST (R616). -/
def folioId (h : FolioHeader) : Nat := h.cdigest.toNat % 65536

/-! ### Chunks (R614) -/

/-- The IV of chunk `c`: bits 95 to 32 of the section's, then bits 31 to 0 and the chunk's number added. -/
def chunkIv (iv : BitVec 96) (c : Nat) : BitVec 96 := BitVec.ofNat 96 (iv.toNat / 2 ^ 32 * 2 ^ 32 + (iv.toNat + c) % 2 ^ 32)

/-- The additional authenticated data of a chunk. -/
def chunkAad (x : StoredSection) (c : Nat) : List Byte :=
  ([x.w0, x.offset, x.stored, x.plain].flatMap fun w => leList 4 w.toNat) ++ beBytes 4 c

/-- The plaintext of a chunk, when its tag verifies. -/
def openChunk (key : BitVec 256) (x : StoredSection) (c : Nat) : Option (List Byte) :=
  let n := Nat.min 4096 (x.plain.toNat - 4096 * c)
  let d := x.data.drop (4112 * c)
  let iv := chunkIv x.iv c
  if BitVec.ofNat 128 (beNat ((d.drop n).take 16)) = Config.gcmTag key iv (chunkAad x c) (d.take n) then some (Config.gcmPlain key iv (d.take n))
  else none

/-- The plaintext of a section, when all its chunks verify. -/
def openSection (key : BitVec 256) (x : StoredSection) : Option (List Byte) :=
  if bitOf x.w0 17 then
    let l := (List.range ((x.plain.toNat + 4095) / 4096)).map (openChunk key x)
    if l.all Option.isSome then some (l.flatMap fun b => b.getD []) else none
  else some (x.data.take x.plain.toNat)

/-! ### What a section holds (R615) -/

/-- The domains in the order of R43's table, a nib domain by polder, quire and nib; PD_AON and PD_CHIP are never
switched. -/
def powerOrder : List (Option Domain) :=
  [none, none] ++ (((List.finRange 4).map Domain.net ++ [Domain.sap, Domain.lane] ++ (List.finRange 4).map Domain.pld ++ (List.finRange 16).map Domain.qre ++
    (List.finRange 16).flatMap fun x => (quireNibs x).map Domain.nib).map some)

/-- The domains that a power list names. -/
def powerOf (b : List Byte) : List Domain :=
  powerOrder.zipIdx.filterMap fun x => if (b.getD (x.2 / 8) 0).getLsbD (x.2 % 8) then x.1 else none

/-- The address and value records of a register section. -/
def recordsOf (b : List Byte) : List (Word × Word) := (pieces 2 b.length (wordsOf b)).map fun l => (l.getD 0 0, l.getD 1 0)

/-- Words that go to successive addresses from a base. -/
def wordsFrom (base : Nat) (b : List Byte) : List (Word × Word) := (wordsOf b).zipIdx.map fun w => (BitVec.ofNat 32 (base + 4 * w.2), w.1)

def entryOf (l : List Word) : Entry :=
  ⟨l.getD 0 0, l.getD 1 0, l.getD 2 0, l.getD 3 0, l.getD 4 0, l.getD 5 0, l.getD 6 0, l.getD 7 0⟩

/-- The rulings that words spell, one behind the other (R165). -/
def rulingsOf : Nat → List Word → List Ruling
  | 0, _ => []
  | n + 1, l =>
    if l.length < 16 then []
    else
      let c := (l.getD 0 0).toNat / 65536
      ⟨l.getD 0 0, l.getD 1 0, l.getD 2 0, l.getD 3 0, l.getD 4 0, (pieces 8 c (l.drop 16)).map entryOf⟩ :: rulingsOf n (l.drop (16 + 8 * c))

/-- The records of wrapped stream keys: KEYID, seven bytes of 0, the key (R642). -/
def keysOf (b : List Byte) : List (BitVec 8 × BitVec 56 × BitVec 256) :=
  (pieces 40 b.length b).map fun l => (l.getD 0 0, BitVec.ofNat 56 (beNat ((l.drop 1).take 7)), BitVec.ofNat 256 (beNat (l.drop 8)))

/-- A section's plaintext by its TYPE. -/
def sectionBody (type : Nat) (b : List Byte) : SectionBody :=
  match type with
  | 1 => .regs (recordsOf b)
  | 2 => .power (powerOf b)
  | 3 => .nibs (Config.sectionNibs b)
  | 5 => .rulings (rulingsOf b.length (wordsOf b))
  | 8 => .regions (Config.sectionRegions b)
  | 9 => .words (wordsFrom 0x20008000 b)
  | 12 => .words (wordsFrom 0x04070000 b)
  | 13 => .words (wordsFrom 0x04068000 b)
  | 14 => .keys (keysOf b)
  | 15 => .regs (recordsOf b)
  | t => .words (Config.sectionWords t b)

/-- A section with its meaning, when its chunks verify. -/
def readSection (key : BitVec 256) (x : StoredSection) : Option FolioSection :=
  (openSection key x).map fun b => ⟨x.w0, x.offset, x.stored, x.plain, x.iv, sectionBody (bits x.w0 15 0) b⟩

/-- The sections of a folio, or the index of the first whose chunks do not verify. -/
def readSections (key : BitVec 256) (l : List StoredSection) : Nat ⊕ List FolioSection :=
  let r := l.map (readSection key)
  match r.zipIdx.find? fun x => x.1.isNone with
  | some x => .inl x.2
  | none => .inr (r.filterMap id)

/-- The plaintext of the common part (R616). -/
def commonPart (key : BitVec 256) (l : List StoredSection) : List Byte :=
  (l.filter fun x => !bitOf x.w0 16).flatMap fun x => (openSection key x).getD []

end Sys2Proof.Machine
end

