-- ==== Sys2Proof/Machine/Items.lean ====
section
/-! DEFINITION. The registers by kind: their access types, the units of event sources, fields of R68, and the
authority-map items (R393). -/

namespace Sys2Proof.Machine

/-- The bits of a register that are not reserved (R9). -/
def regMask (a : Nat) : Word :=
  match regRow a with
  | some r => BitVec.ofNat 32 r.mask
  | none => 0

/-- The access type of a register. -/
def regAcc (a : Nat) : Option Access := (regRow a).map RegRow.acc

/-- A unit's status register, the bits that are sources, and those of class DEGRADE, CONTAIN and GRAVE. The enable
register follows the status register. -/
structure EvtUnit where
  reg : Nat
  bits : Nat
  degrade : Nat
  contain : Nat
  grave : Nat
  deriving DecidableEq, Repr

/-- The units whose lines come before those of the ports and lanes, in line order (R579). -/
def evtUnitsA : List EvtUnit := [
  ⟨NET_EVT_STATUS, 0x3FF, 0x326, 0, 0⟩, ⟨REF_EVT_STATUS, 0xFF, 0x21, 0, 0x80⟩, ⟨TB_EVT_STATUS, 0xFF3F, 0x200C, 0, 0⟩,
  ⟨STK_EVT_STATUS, 0x3, 0x2, 0, 0⟩]

/-- The units of one polder, in line order. -/
def evtUnitsP (p : Nat) : List EvtUnit :=
  [⟨FAB_EVT_STATUS (1 + p), 0x3F, 0x14, 0x8, 0⟩] ++
    (List.range 4).map (fun q => ⟨QRE_NIB_EVT_STATUS (4 * p + q), 0xF, 0x2, 0x4, 0⟩) ++
    [⟨INK_EVT_STATUS p, 0x1F, 0x10, 0, 0⟩, ⟨BRU_EVT_STATUS p, 0xFF, 0xE0, 0, 0⟩, ⟨SLU_EVT_STATUS p, 0x7F, 0xF, 0, 0⟩]

/-- The units whose lines come after those of the ports and lanes, in line order. -/
def evtUnitsB : List EvtUnit :=
  [⟨BOOT_EVT_STATUS, 0xF, 0x3, 0, 0⟩, ⟨SEC_EVT_STATUS, 0x1F, 0x4, 0, 0x18⟩, ⟨FB_EVT_STATUS, 0xF, 0xA, 0x4, 0⟩,
    ⟨MEM_EVT_STATUS 0, 0xFF, 0x42, 0, 0x80⟩] ++
  (List.range 20).map (fun g => ⟨MEM_EVT_STATUS (g + 1), 0x7F, 0x42, 0, 0⟩) ++
  [⟨MF_EVT_STATUS, 0xFF, 0x81, 0x60, 0x4⟩, ⟨FAB_EVT_STATUS 0, 0x3F, 0x14, 0x8, 0⟩, ⟨RUL_EVT_STATUS, 0x3F, 0x39, 0, 0⟩,
    ⟨MIR_EVT_STATUS, 0xFF, 0xFA, 0, 0⟩, ⟨TAG_EVT_STATUS, 0x3F, 0x18, 0, 0⟩, ⟨MCH_EVT_STATUS, 0x7, 0x1, 0, 0⟩] ++
  (List.range 4).flatMap evtUnitsP

/-- The causes of the ports and the lanes, which are no lines of their own (R578). -/
def evtCauses : List EvtUnit :=
  (List.range 16).map (fun k => ⟨SAP_EVT_STATUS k, 0x7F, 0x6E, 0, 0⟩) ++
    (List.range 32).map (fun k => ⟨LANE_EVT_STATUS k, 0x7FF, 0x61E, 0, 0⟩)

/-- Whether a register holds fields of R68, which lie outside the authority map: status and saturation bits, event
enables, scrub and injection triggers, the word queried, the segment selected, the attention mask. -/
def isR68 (a : Nat) : Bool :=
  match regAcc a with
  | some .w1c => true
  | some .rws => true
  | some .rw =>
    decide (a = TAG_PEND_ADDR) || decide (a = FB_SEG_SEL) || decide (a = MF_ATTN_MASK) ||
      (decide (MEM_SCRUB_START 0 ≤ a) && decide (a < MEM_SCRUB_START 21) && decide (a % 0x100 ≠ MEM_REPAIR 0 % 0x100)) ||
      (evtUnitsA ++ evtUnitsB ++ evtCauses).any fun u => u.reg + 4 == a
  | some .wo => decide (MEM_SCRUB_START 0 ≤ a) && decide (a < MEM_SCRUB_START 21)
  | _ => false

/-- Whether a register's writes are staged (R67): every writable register but those of R68 is an authority-map item
(R393). -/
def stagedReg (a : Nat) : Bool :=
  match regAcc a with
  | some .rw => !isR68 a
  | some .wo => !isR68 a
  | _ => false

/-- The addresses of a register row's instances. -/
def dimAddrs (b : Nat) : List (Nat × Nat) → List Nat
  | [] => [b]
  | (n, st) :: ds => (List.range n).flatMap fun i => dimAddrs (b + st * i) ds

/-- Every register row, by the first address of its unit. -/
def allRows : List RegRow :=
  nibRows ++ nibEvtRows ++ fabPldRows ++ sluRows ++ gaugeRows ++ inkRows ++ bruRows ++ netRows ++ netNwRows ++ netPortRows ++
    flowRows ++ rxfRows ++ txfRows ++ rxmRows ++ refRows ++ tbRows ++ tbuRows ++ ptpRows ++ pulseRows ++ captRows ++ stkRows ++
    sapUnitRows ++ sapRows ++ laneUnitRows ++ laneRows ++ auxRows ++ bootRows ++ secRows ++ fbRows ++ memRows ++ patrolRows ++ mfRows ++
    fabRows ++ rulRows ++ mirRows ++ tagRows ++ colwRows ++ mchRows

/-- The registers of a row, in every polder where they lie in the polder windows. -/
def rowAddrs (r : RegRow) : List Nat :=
  let l := dimAddrs r.base r.dims
  if r.base < 0x20000000 then (List.range 4).flatMap fun p => l.map (· + 0x4000000 * p) else l

end Sys2Proof.Machine
end

