-- ==== Sys2Proof/Machine/NetRx.lean ====
section
/-! DEFINITION. Receive: matching, checks, timing and the A/B merge (spec/10_network_transport.md, R356 to R362, R365), and
the release of the jitter buffers with the choice between members (R359, R419, R420) and the judgement of tags (R379). -/

namespace Sys2Proof.Machine

/-! ### Kinds of receive flow -/

/-- Whether a receive flow is a state flow (R432). -/
def State.stateRx (s : State) (f : Nat) : Bool :=
  let r := f - 1024
  s.member && decide (s.fld MIR_STREAM MIR_STREAM_SRX ≤ r) && decide (r < s.fld MIR_STREAM MIR_STREAM_SRX + s.fld MIR_STREAM MIR_STREAM_SPKT)

/-- Whether a receive flow is the peer flow (R406). -/
def State.peerRx (s : State) (f : Nat) : Bool := s.member && decide (s.fld MIR_CFG MIR_CFG_PEER = f - 1024)

/-- The tag source that names a receive flow (R375). -/
def State.sourceOf (s : State) (f : Nat) : Option (Fin 32) :=
  (List.finRange 32).find? fun i => s.on (TAG_SRC i) TAG_SRC_EN && decide (bits (s.reg (TAG_SRC i)) 25 16 = f - 1024)

/-- Whether a receive flow takes tags only (R376). -/
def State.tagsOnly (s : State) (f : Nat) : Bool :=
  match s.sourceOf f with
  | some i => s.on (TAG_SRC i) TAG_SRC_TONLY
  | none => false

/-! ### Matching (R356) -/

/-- Whether the addressing of a UDP datagram matches a receive entry on a network. -/
def State.addrMatches (s : State) (w f : Nat) (dst src : BitVec 128) (v6 : Bool) (dport : BitVec 16) (vid : Option (BitVec 12)) : Bool :=
  s.flowOn w f && (s.ftDst f == dst) && (s.ftIpv6 f == v6) && decide (s.ftDport f = dport.toNat) && s.vidMatches f vid &&
    (s.ftSrc f == 0 || s.ftSrc f == src)

/-- The enabled entry that a GSF packet matches. -/
def State.gsfMatch (s : State) (w : Nat) (p : GsfPacket) : Option Nat :=
  s.rxFlows.find? fun f => decide (s.ftKind f = 0) && s.addrMatches w f p.dstIp p.srcIp p.ipv6 p.dport p.vid &&
    (s.ft f 2 == p.srcId) && decide (s.ftFlow f = p.flow.toNat % 2 ^ 15)

/-- The enabled entry that an interop packet matches. -/
def State.rtpMatch (s : State) (w : Nat) (p : RtpPacket) : Option Nat :=
  s.rxFlows.find? fun f => decide (s.ftKind f ≠ 0) && s.addrMatches w f p.dstIp p.srcIp p.ipv6 p.dport p.vid &&
    (s.ft f 2 == 0 || s.ft f 2 == p.ssrc)

/-- The MEMBER of a packet. -/
def memberOf (p : GsfPacket) : Bool := bitOf p.flags 6

/-- Check 1 of R356, with R374 and R432. -/
def State.formatOk (s : State) (f : Nat) (p : GsfPacket) : Bool :=
  let ty := p.type.toNat % 4
  let rate := min 2 (s.fld STK_CFG STK_CFG_RATE)
  let auth := bitOf p.flags 7
  p.ver == 1 && (if s.stateRx f then ty == 2 else ty == 0 || ty == 1) && (p.chm1.toNat + 1 == s.ftCh f) && (p.fmt.toNat % 4 == s.ftFmt f) &&
    (p.fmt.toNat / 16 % 4 == rate) && (p.blen == if ty = 0 then s.ftCh f * s.samples * s.ftW f else 0) && decide (p.ntag ≤ 16) &&
    (p.payload == 24 + p.blen + 24 * p.ntag + 32 + if auth then 16 else 0)

/-- Check 2 of R356. -/
def State.authOk (s : State) (f : Nat) (p : GsfPacket) : Bool :=
  let auth := bitOf p.flags 7
  (auth == s.ftAuth f) && (auth || p.ntag == 0) && (!auth || (!s.blotOn && p.icv == s.icvOf (s.ftKeyid f) p))

/-! ### Timing and the merge (R358, R360 to R362) -/

/-- The outcomes of R358. -/
inductive Timing where
  | early
  | late
  | onTime
  deriving DecidableEq, Repr

/-- The judgement of a STROKE against the receiver's stroke (R358). -/
def State.timing (s : State) (j : Nat) (m : Stroke) : Timing :=
  let n := s.tim.strk
  let r := m + BitVec.ofNat 48 j
  if laterThan m (n + 1) then .early
  else if laterThan n r || (decide (r = n) && decide (90112 < s.phase)) then .late
  else .onTime

/-- Strokes between two arrivals. -/
def skewOf (a b : BitVec 64) : Nat := (if laterThan a b then a - b else b - a).toNat / 102400

/-- Record the difference between the two networks' copies (R361). -/
def State.noteSkew (r : Nat) (a b : Option (BitVec 64)) (s : State) : State :=
  match a, b with
  | some x, some y => s.setFld (RXF_STAT r) RXF_STAT_MAXSKEW (max (s.fld (RXF_STAT r) RXF_STAT_MAXSKEW) (min 255 (skewOf x y)))
  | _, _ => s

/-- Whether the recognition window of an entry is open (R361). -/
def State.windowOpen (s : State) (f : Nat) (first : BitVec 64) (released : Bool) : Bool :=
  !released || decide ((s.tim.sysCnt - first).toNat < 102400 * (s.ftSkew f))

/-- The SEQ of a first copy against the last of its member (R362). -/
def State.noteSeq (r : Nat) (last : Option (BitVec 16)) (q : BitVec 16) (s : State) : State :=
  match last with
  | some l => if laterThan q l then s.bumpBy (CTR_RXF_SEQGAP r) ((q - l).toNat - 1) else s
  | none => s

/-- A copy of a STROKE that the merge holds already (R360, R361). -/
def State.secondCopy (f w : Nat) (c : Copy) (p : GsfPacket) (s : State) : State :=
  let r := f - 1024
  let now := s.tim.sysCnt
  if s.windowOpen f c.first c.released then
    let s := s.bump (CTR_RXF_DUP r)
    let s := if p.icv ≠ c.pkt.icv then (s.bump (CTR_RXF_MISMATCH r)).mark EVT_NET_MISMATCH else s
    let c' : Copy := if w = 0 then { c with a := some (c.a.getD now) } else { c with b := some (c.b.getD now) }
    let s := if c' = c then s else s.noteSkew r c'.a c'.b
    let x := s.rxFlow f
    s.setRxFlow f { x with copies := x.copies.map fun y => if y = c then c' else y }
  else
    let s := s.bump (CTR_RXF_LATE r)
    if decide (w = 0) == c.b1 then s.mark EVT_NET_SKEW else s

/-- A first copy: judged for timing, then buffered (R358). -/
def State.firstCopy (f w : Nat) (p : GsfPacket) (s : State) : State :=
  let r := f - 1024
  match s.timing (s.ftJ f) p.stroke with
  | .early => s.bump (CTR_RXF_EARLY r)
  | .late => (s.bump (CTR_RXF_LATE r)).mark EVT_NET_LATE
  | .onTime =>
    let now := s.tim.sysCnt
    let x := s.rxFlow f
    let s := s.noteSeq r (if memberOf p then x.seq1 else x.seq0) p.seq
    let c : Copy := { b1 := decide (w = 1), first := now, a := if w = 0 then some now else none, b := if w = 1 then some now else none, pkt := p }
    let x := if memberOf p then { x with seq1 := some p.seq } else { x with seq0 := some p.seq }
    s.setRxFlow f { x with copies := x.copies ++ [c] }

/-- GSF_PACKET (R345, R356, R406). -/
def execGsfPacket (i : Fin 4) (p : GsfPacket) (s : State) : Host.Outcome State Fault Refusal :=
  let w := netOf i
  let (ok, s) := s.takesFrame i ⟨p.mac, p.vid, p.bytes⟩ false
  .next (if ok then
    match s.gsfMatch w p with
    | none => s.bump (CTR_PORT_RX_NOFLOW i)
    | some f =>
      let r := f - 1024
      if (s.peerRx f || s.stateRx f) && (memberOf p == s.memberBit) then s
      else if s.formatOk f p = false then s.bump (CTR_RXF_FORMAT r)
      else if s.authOk f p = false then (s.bump (CTR_RXF_AUTH r)).mark EVT_NET_AUTH
      else
        let s := if s.peerRx f then s.peerArrived p.colophon else s
        match (s.rxFlow f).copies.find? fun c => c.pkt.stroke == p.stroke && (memberOf c.pkt == memberOf p) with
        | some c => s.secondCopy f w c p
        | none => s.firstCopy f w p
  else s)

/-! ### Interop (R365) -/

/-- The grid sample nearest to a value that is congruent to a 32-bit number. -/
def nearestGrid (base : Int) (r : Word) : Int := base + (r - BitVec.ofInt 32 base).toInt

/-- A carried sample as the slate holds it (R357). -/
def fromWire (fmt : Nat) (w : Word) : Word := if fmt = 0 then BitVec.ofNat 32 (256 * (w.toNat % 2 ^ 24)) else w

/-- The rows of a packet, `n` samples each. -/
def rowsOf (n : Nat) : Nat → List Word → List (List Word)
  | 0, _ => []
  | k + 1, l => l.take n :: rowsOf n k (l.drop n)

/-- A duplicate of an RTP timestamp. -/
def State.secondRtp (f w : Nat) (c : RtpCopy) (s : State) : State :=
  let r := f - 1024
  let now := s.tim.sysCnt
  let m : Stroke := BitVec.ofInt 48 ((c.x0 + (c.rows.length : Int) - 1) / (s.samples : Int))
  let released := laterThan s.tim.strk (m + BitVec.ofNat 48 (s.ftJ f))
  if s.windowOpen f c.first released then
    let s := s.bump (CTR_RXF_DUP r)
    let c' : RtpCopy := if w = 0 then { c with a := some (c.a.getD now) } else { c with b := some (c.b.getD now) }
    let s := if c' = c then s else s.noteSkew r c'.a c'.b
    let x := s.rxFlow f
    s.setRxFlow f { x with rtp := x.rtp.map fun y => if y = c then c' else y }
  else
    let s := s.bump (CTR_RXF_LATE r)
    if decide (w = 0) == c.b1 then s.mark EVT_NET_SKEW else s

/-- A first copy of an RTP timestamp: the timing tests apply per sample; a sample out of time leaves no row. -/
def State.firstRtp (f w : Nat) (p : RtpPacket) (s : State) : State :=
  let r := f - 1024
  let sn : Int := (s.samples : Int)
  let x0 := nearestGrid ((s.tim.strk.toNat : Int) * sn) (p.ts - s.ft f 14)
  let rows := rowsOf (s.ftCh f) (p.samples.length / s.ftCh f) (p.samples.map (fromWire (s.ftFmt f)))
  let tm := (List.range rows.length).map fun i => s.timing (s.ftJ f) (BitVec.ofInt 48 ((x0 + Int.ofNat i) / sn))
  let s := if tm.contains .early then s.bump (CTR_RXF_EARLY r) else s
  let s := if tm.contains .late then (s.bump (CTR_RXF_LATE r)).mark EVT_NET_LATE else s
  if tm.contains .onTime then
    let now := s.tim.sysCnt
    let x := s.rxFlow f
    let s := s.noteSeq r x.seq0 p.seq
    let kept := (rows.zip tm).map fun e => if e.2 = .onTime then e.1 else []
    let a := if w = 0 then some now else none
    let b := if w = 1 then some now else none
    s.setRxFlow f { x with seq0 := some p.seq, rtp := x.rtp ++ [⟨p.ts, x0, decide (w = 1), now, a, b, kept⟩] }
  else s

/-- RTP_PACKET. -/
def execRtpPacket (i : Fin 4) (p : RtpPacket) (s : State) : Host.Outcome State Fault Refusal :=
  let w := netOf i
  let (ok, s) := s.takesFrame i ⟨p.mac, p.vid, p.bytes⟩ false
  .next (if ok then
    match s.rtpMatch w p with
    | none => s.bump (CTR_PORT_RX_NOFLOW i)
    | some f =>
      if p.samples.length % s.ftCh f ≠ 0 ∨ p.odd ≠ 0 then s.bump (CTR_RXF_FORMAT (f - 1024))
      else match (s.rxFlow f).rtp.find? fun c => c.ts == p.ts with
        | some c => s.secondRtp f w c
        | none => s.firstRtp f w p
  else s)

/-! ### The choice of a copy (R419) -/

def copyUsable (tonly : Bool) (c : Copy) : Bool :=
  decide (colStatus c.pkt.colophon ≠ 2) && !(decide (colMode c.pkt.colophon = modeShadow) && !colElig c.pkt.colophon) &&
    (tonly || decide (c.pkt.type.toNat % 4 ≠ 1))

/-- The keys of R419, smaller first. -/
def copyKey (last : Option Bool) (c : Copy) : Nat :=
  let k := c.pkt.colophon
  let m := if colMode k = modeLead then 0 else if colMode k = modeShadow then 1 else 2
  let q := if last = some (memberOf c.pkt) then 0 else if memberOf c.pkt then 2 else 1
  1000 * (b2n (colMuted k)) + 100 * (colStatus k) + 10 * m + q

/-- The copy used. -/
def chooseCopy (tonly : Bool) (last : Option Bool) (l : List Copy) : Option Copy :=
  match sortBy (fun a b => decide (copyKey last a < copyKey last b)) (l.filter (copyUsable tonly)) with
  | [] => none
  | c :: _ => some c

/-! ### Release (R359) -/

/-- Write the block of one slot: claimed by the network unit. -/
def State.netWrite (slot : Nat) (words : List Word) (stale : Bool) (s : State) : State :=
  s.writeBlock s.curCopy slot 3 (words.map fun w => (w, false)) stale

/-- Zeros with STALE in every slot of a flow. -/
def State.releaseZeros (f : Nat) (s : State) : State :=
  each (List.range (s.ftCh f)) (fun c s => s.netWrite (s.ftSlot f + c) (List.replicate s.samples 0) true) s

/-- A stroke released without a usable copy: RXF_MISS from the flow's first release on (R348). -/
def State.releaseMiss (f : Nat) (s : State) : State :=
  if (s.rxFlow f).seen then (s.bump (CTR_RXF_MISS (f - 1024))).mark EVT_NET_MISS else s

/-- The samples of a GSF packet into the slots of its flow. -/
def State.releaseAudio (f : Nat) (p : GsfPacket) (s : State) : State :=
  let ch := s.ftCh f
  let rows := rowsOf ch s.samples (p.samples.map (fromWire (s.ftFmt f)))
  each (List.range ch) (fun c s => s.netWrite (s.ftSlot f + c) (rows.map fun r => r.getD c 0) (decide (colStatus p.colophon = 1))) s

/-- The watch of a receive flow (R400): the colophon of the copy used is kept, or the age grows. -/
def State.watch (f : Nat) (c : Option Copy) (s : State) : State :=
  each ((List.range 16).filter fun w => s.on (COLW_CFG w) COLW_CFG_EN && decide (bits (s.reg (COLW_CFG w)) 9 0 = f - 1024)) (fun w s =>
    match c with
    | some c => (each (List.range 8) (fun i s => s.setReg (COLW_COL w i) ((colWords c.pkt.colophon).getD i 0)) s).setReg (COLW_AGE w) 0
    | none => s.setReg (COLW_AGE w) (BitVec.ofNat 32 (min 0xFFFF ((s.reg (COLW_AGE w)).toNat + 1)))) s

/-- What a release from a copy counts and keeps (R361, R369, R419, R420). -/
def State.releaseCounts (f : Nat) (c : Copy) (s : State) : State :=
  let r := f - 1024
  let s := if c.b.isNone then s.bump (CTR_RXF_ONLY_A r) else if c.a.isNone then s.bump (CTR_RXF_ONLY_B r) else s
  let s := if colMode c.pkt.colophon = modeLead then s.bump (CTR_RXM_LEAD r) else s.bump (CTR_RXM_FALL r)
  let s := s.setFld (RXM_STAT r) RXM_STAT_LAST (if memberOf c.pkt then 2 else 1)
  s.setRxFlow f { s.rxFlow f with seen := true, last := some (memberOf c.pkt) }

/-- Release stroke n − J of a GSF flow. -/
def State.releaseGsf (f : Nat) (s : State) : State :=
  let r := f - 1024
  let m := s.tim.strk - BitVec.ofNat 48 (s.ftJ f)
  let l := (s.rxFlow f).copies.filter fun c => c.pkt.stroke == m && !c.released
  let s := s.setFld (RXF_STAT r) RXF_STAT_A_SEEN (b2n (l.any fun c => c.a.isSome))
  let s := s.setFld (RXF_STAT r) RXF_STAT_B_SEEN (b2n (l.any fun c => c.b.isSome))
  let state := s.stateRx f
  let tonly := s.tagsOnly f
  let used := chooseCopy (tonly || state) (s.rxFlow f).last l
  let s := s.watch f used
  match used with
  | none =>
    if state || tonly then s else (s.releaseZeros f).releaseMiss f
  | some c =>
    let s := if tonly && decide (colStatus c.pkt.colophon = 3) then s else s.releaseCounts f c
    if state then s.withMir { s.mir with records := s.mir.records ++ c.pkt.tags }
    else if tonly then (if colStatus c.pkt.colophon = 3 then s else s.bump (CTR_RXF_OK r))
    else (s.releaseAudio f c.pkt).bump (CTR_RXF_OK r)

/-- A copy of an interop packet without the rows before a grid sample. -/
def RtpCopy.spent (c : RtpCopy) (x : Int) : RtpCopy :=
  let keep := fun (i : Nat) => if c.x0 + Int.ofNat i < x then [] else c.rows.getD i []
  { c with rows := (List.range c.rows.length).map keep }

/-- Release stroke n − J of an interop flow: positions not received are zeros with STALE (R365). -/
def State.releaseRtp (f : Nat) (s : State) : State :=
  let r := f - 1024
  let j := s.ftJ f
  let sn := s.samples
  let base : Int := ((s.tim.strk - BitVec.ofNat 48 j).toNat * sn : Nat)
  let cs := (s.rxFlow f).rtp
  let hit := fun (k : Nat) => cs.find? fun c =>
    let i := base + Int.ofNat k - c.x0
    decide (0 ≤ i) && !(c.rows.getD i.toNat []).isEmpty
  let hits := (List.range sn).map hit
  let rows := (List.range sn).map fun k => match hit k with
    | some c => c.rows.getD (base + Int.ofNat k - c.x0).toNat []
    | none => []
  let full := hits.all fun h => h.isSome
  let any := hits.any fun h => h.isSome
  let onA := hits.any fun h => (h.bind fun c => c.a).isSome
  let onB := hits.any fun h => (h.bind fun c => c.b).isSome
  let s := (s.setFld (RXF_STAT r) RXF_STAT_A_SEEN (b2n onA)).setFld (RXF_STAT r) RXF_STAT_B_SEEN (b2n onB)
  let s := each (List.range (s.ftCh f)) (fun c s => s.netWrite (s.ftSlot f + c) (rows.map fun w => w.getD c 0) (!full)) s
  let s := if any && !onB then s.bump (CTR_RXF_ONLY_A r) else if any && !onA then s.bump (CTR_RXF_ONLY_B r) else s
  let s := if full then (s.bump (CTR_RXF_OK r)).setRxFlow f { s.rxFlow f with seen := true } else s.releaseMiss f
  s.setRxFlow f { s.rxFlow f with rtp := (s.rxFlow f).rtp.map fun c => c.spent (base + Int.ofNat sn) }

/-! ### Tags of the released packets (R375, R379) -/

/-- The packets of stroke n − J of a flow, member 0 before member 1. -/
def State.released (s : State) (f : Nat) : List GsfPacket :=
  let m := s.tim.strk - BitVec.ofNat 48 (s.ftJ f)
  let l := ((s.rxFlow f).copies.filter fun c => c.pkt.stroke == m && !c.released).map fun c => c.pkt
  (l.filter fun p => !memberOf p) ++ l.filter memberOf

/-- The tags of one source's packets. -/
def State.judgeSource (i : Fin 32) (s : State) : State :=
  let f := 1024 + bits (s.reg (TAG_SRC i)) 25 16
  if s.on (TAG_SRC i) TAG_SRC_EN && s.flowEnabled f && decide (s.ftKind f = 0) && !s.stateRx f then
    each ((s.released f).flatMap fun p => p.tags) (fun t s => s.judgeTag i t) s
  else s

/-- The tags of flows that no source names are counted. -/
def State.countNoSource (f : Nat) (s : State) : State :=
  if decide (s.ftKind f = 0) && !s.stateRx f && (s.sourceOf f).isNone then
    s.bumpBy CTR_TAG_NOSRC (((s.released f).map fun p => p.tags.length).foldl (· + ·) 0)
  else s

/-- The released copies give up their data; the entries stay for recognition (R361). -/
def State.releaseDone (f : Nat) (s : State) : State :=
  let m := s.tim.strk - BitVec.ofNat 48 (s.ftJ f)
  let x := s.rxFlow f
  s.setRxFlow f { x with copies := x.copies.map fun c => if c.pkt.stroke == m then { c with released := true, pkt := { c.pkt with samples := [], tags := [] } } else c }

/-- The colophon of the peer's first copy of the released stroke when its MODE is LEAD (R427). -/
def State.peerLead (s : State) : Option Colophon :=
  let f := 1024 + s.fld MIR_CFG MIR_CFG_PEER
  if s.flowEnabled f then ((s.released f).map fun p => p.colophon).find? fun c => decide (colMode c = modeLead) else none

/-- JITTER_RELEASE (R359): flows in order, then the tags in source order, then the release point of the peer flow. -/
def execJitterRelease (s : State) : Host.Outcome State Fault Refusal :=
  let s := s.atRoot 94208
  .next (if s.inputsWrite then
    let fs := s.rxFlows.filter fun f => decide (s.ftNets f ≠ 0)
    let lead := s.peerLead
    let s := each fs (fun f s => if s.ftKind f = 0 then s.releaseGsf f else s.releaseRtp f) s
    let s := if s.rulingRuns then (each (List.finRange 32) (fun i s => s.judgeSource i) s) else s
    let s := each fs (fun f s => s.countNoSource f) s
    let s := each fs (fun f s => if s.ftKind f = 0 then s.releaseDone f else s) s
    if s.flowEnabled (1024 + s.fld MIR_CFG MIR_CFG_PEER) then s.mirrorRelease lead else s
  else s)

end Sys2Proof.Machine
end

