-- ==== Sys2Proof/Machine/Operands.lean ====
section
/-! DEFINITION. The operand forms of the nib: quad sources (R144), the address generators (R100 to R103), local
addresses (R77, R102), and loads and stores through them (R85, R106, R108, R141, R563, R564). -/

namespace Sys2Proof.Machine

/-- Lane `l` of a second quad operand (R144, R146). -/
def Nib.src (x : Nib) (b : QSrc) (l : Nat) : PVal :=
  match b with
  | .quad q => x.rq q l
  | .bcast d => x.rd d

/-- The low `w` bits of a number in reverse order (R100). -/
def revBits (x w : Nat) : Nat :=
  (List.range w).foldl (fun acc i => acc + (x / 2 ^ i % 2) * 2 ^ (w - 1 - i)) 0

/-- The bit-reverse width: 0 or above 16 acts as 16 (R103). -/
def brWidth (amode : Word) : Nat :=
  let w := bits amode 4 0
  if w = 0 ∨ 16 < w then 16 else w

/-- The next address of Pk under R100, poisoned when the computation read a poisoned register (R109). -/
def Nib.nextAddr (x : Nib) (k : BitVec 3) : PVal :=
  let p := x.ra (regP k)
  let m := x.ra (regM k)
  let l := x.ra (regL k)
  let b := x.ra (regB k)
  let am := x.cur.amodeA
  if bitOf am (8 + k.toNat) then
    let w := brWidth am
    let o := revBits ((p.v - b.v).toNat / 4) w
    let st := revBits (m.v.toNat / 4) w
    let o2 := revBits ((o + st) % 2 ^ w) w
    ⟨b.v + BitVec.ofNat 32 (4 * o2), p.psn || m.psn || b.psn⟩
  else if l.v = 0 then ⟨p.v + m.v, p.psn || m.psn || l.psn⟩
  else
    let nx := p.v + m.v
    let nx := if (b.v + l.v).toNat ≤ nx.toNat then nx - l.v else if nx.toNat < b.v.toNat then nx + l.v else nx
    ⟨nx, p.psn || m.psn || l.psn || b.psn⟩

/-- The address of an access in a mode, and whether its formation reads poison (R109, R139, R140). -/
def Nib.effAddr (x : Nib) (k : BitVec 3) (mode : MemMode) : PVal :=
  let p := x.ra (regP k)
  match mode with
  | .plain => p
  | .post => p
  | .index dj =>
    let d := x.ra (dj.setWidth 6)
    ⟨p.v + d.v, p.psn || d.psn⟩
  | .offset i => ⟨p.v + (i.signExtend 32) * 4, p.psn⟩

/-- Where a local address leads. -/
inductive Loc where
  | own (a : Nat)
  | quire (a : Nat)
  | bad (cause : Nat)
  deriving DecidableEq, Repr

/-- The decode of a local address and its alignment (R77, R102, R119): TRAP_ADDR before TRAP_ALIGN. -/
def locate (n : Nat) (a : Word) (align : Nat) : Loc :=
  let v := a.toNat
  if v < 0x10000 then (if v % align = 0 then .own (nibWindow n + 0x10000 + v) else .bad trapAlign)
  else if 0x800000 ≤ v ∧ v < 0xA00000 then
    (if v % align = 0 then .quire (quireSram (quireOf n) + v % 0x200000) else .bad trapAlign)
  else .bad trapAddr

/-- An access checked in the order of R119: the location, or the cause it traps with. -/
def accessAt (n : Nat) (a : PVal) (align : Nat) : Loc :=
  if a.psn then .bad trapPoison else locate n a.v align

/-- The words and destinations of a load: one word into a register, or four into a quad. -/
def loadDests (quad : Bool) (d : BitVec 6) (a : Nat) : List QLoad :=
  if quad then (List.range 4).map fun l => ⟨a + 4 * l, d + BitVec.ofNat 6 l⟩ else [⟨a, d⟩]

/-- Words of data RAM into registers with latency 3; 4 stall cycles for each correction (R132, R158). -/
def loadOwn (n : Nat) : List QLoad → Nib × State → Nib × State
  | [], xs => xs
  | q :: l, (x, s) =>
    let (r, s) := s.readWord32 q.addr
    let s := if r.2.2 then s.stall n 4 else s
    loadOwn n l (x.launchReg 3 4 q.dst ⟨r.1, r.2.1⟩, s)

/-- A load at a location: data RAM at once, quire SRAM as an access the core waits for (R85). -/
def loadAt (n : Nat) (loc : Loc) (quad : Bool) (d : BitVec 6) (xs : Nib × State) : Nib × State :=
  match loc with
  | .own a => loadOwn n (loadDests quad d a) xs
  | .quire a => ({ xs.1 with loads := xs.1.loads ++ [loadDests quad d a] }, xs.2)
  | .bad _ => xs

/-- Post-modification of Pk (R100, R158). -/
def Nib.postMod (x : Nib) (k : BitVec 3) : Nib := x.launchReg 1 1 (regP k) (x.nextAddr k)

/-- Post-modification where the mode asks for it. -/
def Nib.modMode (x : Nib) (k : BitVec 3) (mode : MemMode) : Nib :=
  match mode with
  | .post => x.postMod k
  | _ => x

/-- Words stored into data RAM, full words (R563). -/
def storeOwnWords (a : Nat) : List PVal → State → State
  | [], s => s
  | v :: l, s => storeOwnWords (a + 4) l (s.writeWord32 a v.v v.psn)

/-- The mirror words that a store of `n` words touches are written (R416). -/
def storeTold (a n : Nat) (s : State) : State :=
  each (List.range ((n + 1) / 2)) (fun i s =>
    let b := a / 8 * 8 + 8 * i
    s.mirrorWrote b (s.mirrorWord b)) s

def storeOwn (a : Nat) (l : List PVal) (s : State) : State := storeTold a l.length (storeOwnWords a l s)

/-- Words stored into quire SRAM: one word is a partial write, four go as two beats (R563, R564). -/
def storeQuire (a : Nat) (l : List PVal) (s : State) : State :=
  match l with
  | [v] => s.writeWord32 a v.v v.psn
  | l => writeBeats a (l.map fun v => (v.v, v.psn)) s

/-- BEXP updates of the words written (R104), and FL.SP for a poisoned one (R108). -/
def Nib.storeMarks (x : Nib) (bx : Bool) (l : List PVal) : Nib :=
  let x := if bx then
      l.foldl (fun x v => if v.psn then x else x.launch 3 (.bexpMin (BitVec.ofNat 6 (rsb v.v)))) x
    else x
  x.launchSticky 1 (stIf (l.any fun v => v.psn) stSP)

/-- The body of ST and STQ. A 17th outstanding quire SRAM store blocks the core (R85). -/
def storeBody (n : Nat) (l : List PVal) (align : Nat) (k : BitVec 3) (mode : MemMode) (bx : Bool) (w : Blocked)
    (x : Nib) (s : State) : Did :=
  match accessAt n (x.effAddr k mode) align with
  | .bad c => .trap c
  | .own a => .ok ((storeOwn a l s).setNib n ((x.modMode k mode).storeMarks bx l))
  | .quire a =>
    if 16 ≤ x.posted then .done (s.setNib n { x with blocked := some w })
    else .ok ((storeQuire a l s).setNib n { (x.modMode k mode).storeMarks bx l with posted := x.posted + 1 })

/-- The body of LD and LDQ. -/
def loadBody (n : Nat) (quad : Bool) (d : BitVec 6) (align : Nat) (k : BitVec 3) (mode : MemMode)
    (x : Nib) (s : State) : Did :=
  match accessAt n (x.effAddr k mode) align with
  | .bad c => .trap c
  | loc =>
    let (x, s) := loadAt n loc quad d (x.modMode k mode, s)
    .ok (s.setNib n x)

end Sys2Proof.Machine
end

