-- ==== Sys2Proof/Machine/NibExec.lean ====
section
/-! DEFINITION. The meanings of the nib's instruction set (spec/04_nib_instruction_set.md), each the body of one
issue on the named nib. -/

namespace Sys2Proof.Machine

/-- The outcome of every command of this family is a next state. -/
abbrev Out := Host.Outcome State Fault Refusal

/-- The body of a scalar integer instruction: result, flags when asked for (R107, R133, R158). -/
def intBody (n : Nat) (f : Bool) (sd : BitVec 6) (r : IRes) (psn : Bool) (x : Nib) (s : State) : Did :=
  let x := x.launchReg 1 2 sd ⟨r.w, psn⟩
  let x := if f then x.launch 1 (.flags x.bank r.f psn) else x
  .ok (s.setNib n x)

/-- A two-operand integer instruction. -/
def intOp (n : NibId) (hit : Word → Bool) (f : Bool) (sd sa sb : BitVec 6) (op : Word → Word → IRes) (s : State) : State :=
  s.issue n hit false (fun x s => intBody n f sd (op (x.rs sa).v (x.rs sb).v) ((x.rs sa).psn || (x.rs sb).psn) x s)

/-- An integer instruction with an immediate second operand. -/
def intImm (n : NibId) (hit : Word → Bool) (f : Bool) (sd sa : BitVec 6) (op : Word → IRes) (s : State) : State :=
  s.issue n hit false (fun x s => intBody n f sd (op (x.rs sa).v) (x.rs sa).psn x s)

/-- ADD (R133). -/
def execAdd (n : NibId) (f : Bool) (sd sa sb : BitVec 6) (s : State) : Out :=
  .next (intOp n (spells n (.add n f sd sa sb)) f sd sa sb iAdd s)

/-- SUB (R133). -/
def execSub (n : NibId) (f : Bool) (sd sa sb : BitVec 6) (s : State) : Out :=
  .next (intOp n (spells n (.sub n f sd sa sb)) f sd sa sb iSub s)

/-- AND (R133). -/
def execAnd (n : NibId) (f : Bool) (sd sa sb : BitVec 6) (s : State) : Out :=
  .next (intOp n (spells n (.and n f sd sa sb)) f sd sa sb (fun a b => iLogic (a &&& b)) s)

/-- OR (R133). -/
def execOr (n : NibId) (f : Bool) (sd sa sb : BitVec 6) (s : State) : Out :=
  .next (intOp n (spells n (.or n f sd sa sb)) f sd sa sb (fun a b => iLogic (a ||| b)) s)

/-- XOR (R133). -/
def execXor (n : NibId) (f : Bool) (sd sa sb : BitVec 6) (s : State) : Out :=
  .next (intOp n (spells n (.xor n f sd sa sb)) f sd sa sb (fun a b => iLogic (a ^^^ b)) s)

/-- SLL by Sb[4:0] (R133). -/
def execSll (n : NibId) (f : Bool) (sd sa sb : BitVec 6) (s : State) : Out :=
  .next (intOp n (spells n (.sll n f sd sa sb)) f sd sa sb (fun a b => iSll a (b.toNat % 32)) s)

/-- SRL by Sb[4:0] (R133). -/
def execSrl (n : NibId) (f : Bool) (sd sa sb : BitVec 6) (s : State) : Out :=
  .next (intOp n (spells n (.srl n f sd sa sb)) f sd sa sb (fun a b => iSrl a (b.toNat % 32)) s)

/-- SRA by Sb[4:0] (R133). -/
def execSra (n : NibId) (f : Bool) (sd sa sb : BitVec 6) (s : State) : Out :=
  .next (intOp n (spells n (.sra n f sd sa sb)) f sd sa sb (fun a b => iSra a (b.toNat % 32)) s)

/-- MIN, signed (R133). -/
def execMin (n : NibId) (f : Bool) (sd sa sb : BitVec 6) (s : State) : Out :=
  .next (intOp n (spells n (.min n f sd sa sb)) f sd sa sb (fun a b => iLogic (wMin a b)) s)

/-- MAX, signed (R133). -/
def execMax (n : NibId) (f : Bool) (sd sa sb : BitVec 6) (s : State) : Out :=
  .next (intOp n (spells n (.max n f sd sa sb)) f sd sa sb (fun a b => iLogic (wMax a b)) s)

/-- SLLI (R133). -/
def execSlli (n : NibId) (f : Bool) (sd sa : BitVec 6) (sh : BitVec 5) (s : State) : Out :=
  .next (intImm n (spells n (.slli n f sd sa sh)) f sd sa (fun a => iSll a sh.toNat) s)

/-- SRLI (R133). -/
def execSrli (n : NibId) (f : Bool) (sd sa : BitVec 6) (sh : BitVec 5) (s : State) : Out :=
  .next (intImm n (spells n (.srli n f sd sa sh)) f sd sa (fun a => iSrl a sh.toNat) s)

/-- SRAI (R133). -/
def execSrai (n : NibId) (f : Bool) (sd sa : BitVec 6) (sh : BitVec 5) (s : State) : Out :=
  .next (intImm n (spells n (.srai n f sd sa sh)) f sd sa (fun a => iSra a sh.toNat) s)

/-- SEL: Sa when the condition holds, else Sb (R133, R136). -/
def execSel (n : NibId) (sd sa sb : BitVec 6) (cond : BitVec 4) (s : State) : Out :=
  .next (s.issue n (spells n (.sel n sd sa sb cond)) false (fun x s =>
    match condTrap cond x.cur.fl with
    | some c => .trap c
    | none =>
      let v := if condTrue cond x.cur.fl then (x.rs sa).v else (x.rs sb).v
      .ok (s.setNib n (x.launchReg 1 2 sd ⟨v, (x.rs sa).psn || (x.rs sb).psn⟩))))

/-- CMP: the flags of Sa − Sb (R133). -/
def execCmp (n : NibId) (sa sb : BitVec 6) (s : State) : Out :=
  .next (s.issue n (spells n (.cmp n sa sb)) false (fun x s =>
    .ok (s.setNib n (x.launch 1 (.flags x.bank (iSub (x.rs sa).v (x.rs sb).v).f ((x.rs sa).psn || (x.rs sb).psn))))))

/-- ADDI (R134). -/
def execAddi (n : NibId) (f : Bool) (sd sa : BitVec 6) (imm : BitVec 14) (s : State) : Out :=
  .next (intImm n (spells n (.addi n f sd sa imm)) f sd sa (fun a => iAdd a (imm.signExtend 32)) s)

/-- MOVL (R135). -/
def execMovl (n : NibId) (sd : BitVec 6) (imm : BitVec 16) (s : State) : Out :=
  .next (s.issue n (spells n (.movl n sd imm)) false (fun x s => .ok (s.setNib n (x.launchReg 1 2 sd ⟨imm.signExtend 32, false⟩))))

/-- MOVH: the low half keeps its value and its poison (R135). -/
def execMovh (n : NibId) (sd : BitVec 6) (imm : BitVec 16) (s : State) : Out :=
  .next (s.issue n (spells n (.movh n sd imm)) false (fun x s =>
    .ok (s.setNib n (x.launchReg 1 2 sd ⟨imm ++ (x.rs sd).v.setWidth 16, (x.rs sd).psn⟩))))

/-! ### Scalar binary32 (R137, R138) -/

/-- A binary32 result with latency 3 and its sticky fields. -/
def floatBody (n : Nat) (dd : BitVec 5) (r : QRes) (psn : Bool) (x : Nib) (s : State) : Did :=
  .ok (s.setNib n ((x.launchReg 3 4 (dd.setWidth 6) ⟨r.w, psn⟩).launchSticky 3 r.st))

/-- A two-operand binary32 instruction. -/
def floatOp (n : NibId) (hit : Word → Bool) (dd da db : BitVec 5) (op : Word → Word → QRes) (s : State) : State :=
  s.issue n hit false (fun x s => floatBody n dd (op (x.rd da).v (x.rd db).v) ((x.rd da).psn || (x.rd db).psn) x s)

/-- A one-operand binary32 instruction. -/
def floatUn (n : NibId) (hit : Word → Bool) (dd da : BitVec 5) (op : Word → QRes) (s : State) : State :=
  s.issue n hit false (fun x s => floatBody n dd (op (x.rd da).v) (x.rd da).psn x s)

/-- FADD. -/
def execFadd (n : NibId) (dd da db : BitVec 5) (s : State) : Out :=
  .next (floatOp n (spells n (.fadd n dd da db)) dd da db (fun a b => (f32Add a b).q) s)

/-- FSUB. -/
def execFsub (n : NibId) (dd da db : BitVec 5) (s : State) : Out :=
  .next (floatOp n (spells n (.fsub n dd da db)) dd da db (fun a b => (f32Sub a b).q) s)

/-- FMUL. -/
def execFmul (n : NibId) (dd da db : BitVec 5) (s : State) : Out :=
  .next (floatOp n (spells n (.fmul n dd da db)) dd da db (fun a b => (f32Mul a b).q) s)

/-- FMIN (R138). -/
def execFmin (n : NibId) (dd da db : BitVec 5) (s : State) : Out :=
  .next (floatOp n (spells n (.fmin n dd da db)) dd da db (fun a b => qPlain (f32MinMax false a b)) s)

/-- FMAX (R138). -/
def execFmax (n : NibId) (dd da db : BitVec 5) (s : State) : Out :=
  .next (floatOp n (spells n (.fmax n dd da db)) dd da db (fun a b => qPlain (f32MinMax true a b)) s)

/-- FCMP (R138). -/
def execFcmp (n : NibId) (dd da db : BitVec 5) (s : State) : Out :=
  .next (floatOp n (spells n (.fcmp n dd da db)) dd da db (fun a b => (f32Cmp a b).q) s)

/-- FABS: the sign bit cleared (R97, R137). -/
def execFabs (n : NibId) (dd da : BitVec 5) (s : State) : Out :=
  .next (floatUn n (spells n (.fabs n dd da)) dd da (fun a => qPlain (f32Signed a false)) s)

/-- FNEG: the sign bit inverted (R97, R137). -/
def execFneg (n : NibId) (dd da : BitVec 5) (s : State) : Out :=
  .next (floatUn n (spells n (.fneg n dd da)) dd da (fun a => qPlain (f32Signed a !(bitOf a 31))) s)

/-- FCVTQF (R98). -/
def execFcvtqf (n : NibId) (dd da : BitVec 5) (s : State) : Out :=
  .next (floatUn n (spells n (.fcvtqf n dd da)) dd da (fun a => qPlain (q31ToF32 a)) s)

/-- FCVTFQ (R98). -/
def execFcvtfq (n : NibId) (dd da : BitVec 5) (s : State) : Out :=
  .next (floatUn n (spells n (.fcvtfq n dd da)) dd da (fun a => (f32ToQ31 a).q) s)

/-- FMA: Dd + Da × Db, rounded once. -/
def execFma (n : NibId) (dd da db : BitVec 5) (s : State) : Out :=
  .next (s.issue n (spells n (.fma n dd da db)) false (fun x s =>
    floatBody n dd (f32Fma (x.rd dd).v (x.rd da).v (x.rd db).v).q ((x.rd dd).psn || (x.rd da).psn || (x.rd db).psn) x s))

/-! ### Memory access (R139 to R143) -/

/-- LD. -/
def execLd (n : NibId) (dd : BitVec 5) (p : BitVec 3) (mode : MemMode) (s : State) : Out :=
  .next (s.issue n (spells n (.ld n dd p mode)) false (loadBody n false (dd.setWidth 6) 4 p mode))

/-- LDQ. -/
def execLdq (n : NibId) (qd : BitVec 3) (p : BitVec 3) (mode : MemMode) (s : State) : Out :=
  .next (s.issue n (spells n (.ldq n qd p mode)) false (loadBody n true (regQ qd 0) 16 p mode))

/-- The body of ST. -/
def stBody (n : Nat) (ds : BitVec 5) (p : BitVec 3) (mode : MemMode) (bx : Bool) (x : Nib) (s : State) : Did :=
  storeBody n [x.rd ds] 4 p mode bx (.st ds p mode bx) x s

/-- The body of STQ. -/
def stqBody (n : Nat) (qs : BitVec 3) (p : BitVec 3) (mode : MemMode) (bx : Bool) (x : Nib) (s : State) : Did :=
  storeBody n [x.rq qs 0, x.rq qs 1, x.rq qs 2, x.rq qs 3] 16 p mode bx (.stq qs p mode bx) x s

/-- ST. -/
def execSt (n : NibId) (ds : BitVec 5) (p : BitVec 3) (mode : MemMode) (bx : Bool) (s : State) : Out :=
  .next (s.issue n (spells n (.st n ds p mode bx)) false (stBody n ds p mode bx))

/-- STQ. -/
def execStq (n : NibId) (qs : BitVec 3) (p : BitVec 3) (mode : MemMode) (bx : Bool) (s : State) : Out :=
  .next (s.issue n (spells n (.stq n qs p mode bx)) false (stqBody n qs p mode bx))

/-- The first destination register of an LD2 access. -/
def dualDst (a : DualAcc) : BitVec 6 := if a.quad then regQ (a.dst.setWidth 3) 0 else a.dst.setWidth 6

/-- The D registers of an LD2 access. -/
def dualRegs (a : DualAcc) : List Nat :=
  if a.quad then (List.range 4).map fun l => 4 * (a.dst.toNat % 8) + l else [a.dst.toNat]

/-- The forms of LD2 that R130, R142 and R143 leave undefined. -/
def ld2Illegal (a0 a1 : DualAcc) : Bool :=
  (a0.quad && decide (8 ≤ a0.dst.toNat)) || (a1.quad && decide (8 ≤ a1.dst.toNat)) || decide (a0.p = a1.p) ||
    (dualRegs a0).any fun d => (dualRegs a1).contains d

/-- The cause of the first trap of two accesses in the order of R119. -/
def dualTrap (l0 l1 : Loc) : Option Nat :=
  let has (c : Nat) : Bool := decide (l0 = .bad c) || decide (l1 = .bad c)
  if has trapPoison then some trapPoison else if has trapAddr then some trapAddr
  else if has trapAlign then some trapAlign else none

/-- Whether two data-RAM accesses of one instruction conflict (R80, R143). -/
def dualConflict (a0 a1 : DualAcc) (l0 l1 : Loc) : Bool :=
  match l0, l1 with
  | .own x, .own y => a0.quad || a1.quad || decide (x / 4 % 4 = y / 4 % 4)
  | _, _ => false

/-- LD2 (R142, R143). -/
def execLd2 (n : NibId) (a0 a1 : DualAcc) (s : State) : Out :=
  .next (s.issue n (spells n (.ld2 n a0 a1)) false (fun x s =>
    if ld2Illegal a0 a1 then .trap trapIllegal
    else
      let al (a : DualAcc) : Nat := if a.quad then 16 else 4
      let l0 := accessAt n (x.ra (regP a0.p)) (al a0)
      let l1 := accessAt n (x.ra (regP a1.p)) (al a1)
      match dualTrap l0 l1 with
      | some c => .trap c
      | none =>
        let s := if dualConflict a0 a1 l0 l1 then s.stall n 1 else s
        let y := if a0.pm then x.postMod a0.p else x
        let y := if a1.pm then y.launchReg 1 1 (regP a1.p) (x.nextAddr a1.p) else y
        let (y, s) := loadAt n l1 a1.quad (dualDst a1) (loadAt n l0 a0.quad (dualDst a0) (y, s))
        .ok (s.setNib n y)))

/-! ### Quad arithmetic (R144, R145) -/

/-- A quad instruction: for each enabled lane a result from the lane's old value, a and b. -/
def quadOp (n : NibId) (hit : Word → Bool) (lat : Nat) (mask : BitVec 4) (qd : BitVec 3) (useD : Bool) (a b : Nib → Nat → PVal)
    (op : Nib → Word → Word → Word → QRes) (s : State) : State :=
  s.issue n hit false (fun x s =>
    if mask = 0 then .trap trapIllegal
    else
      let lane (y : Nib) (l : Nat) : Nib :=
        if bitOf mask l then
          let d := x.rq qd l
          let r := op x d.v (a x l).v (b x l).v
          (y.launchReg lat (lat + 1) (regQ qd l) ⟨r.w, (a x l).psn || (b x l).psn || (useD && d.psn)⟩).launchSticky lat r.st
        else y
      .ok (s.setNib n ([0, 1, 2, 3].foldl lane x)))

/-- The operand of a function whose b is reserved. -/
def noSrc (_ : Nib) (_ : Nat) : PVal := PVal.zero

/-- QADDS. -/
def execQadds (n : NibId) (mask : BitVec 4) (qd qa : BitVec 3) (b : QSrc) (s : State) : Out :=
  .next (quadOp n (spells n (.qadds n mask qd qa b)) 2 mask qd false (fun x l => x.rq qa l) (fun x l => x.src b l) (fun _ _ a b => qSat (a.toInt + b.toInt)) s)

/-- QSUBS. -/
def execQsubs (n : NibId) (mask : BitVec 4) (qd qa : BitVec 3) (b : QSrc) (s : State) : Out :=
  .next (quadOp n (spells n (.qsubs n mask qd qa b)) 2 mask qd false (fun x l => x.rq qa l) (fun x l => x.src b l) (fun _ _ a b => qSat (a.toInt - b.toInt)) s)

/-- QMULR (R145). -/
def execQmulr (n : NibId) (mask : BitVec 4) (qd qa : BitVec 3) (b : QSrc) (s : State) : Out :=
  .next (quadOp n (spells n (.qmulr n mask qd qa b)) 3 mask qd false (fun x l => x.rq qa l) (fun x l => x.src b l) (fun x _ a b => qMulr x.cur.rmode a b) s)

/-- QMAX. -/
def execQmax (n : NibId) (mask : BitVec 4) (qd qa : BitVec 3) (b : QSrc) (s : State) : Out :=
  .next (quadOp n (spells n (.qmax n mask qd qa b)) 2 mask qd false (fun x l => x.rq qa l) (fun x l => x.src b l) (fun _ _ a b => qPlain (wMax a b)) s)

/-- QMIN. -/
def execQmin (n : NibId) (mask : BitVec 4) (qd qa : BitVec 3) (b : QSrc) (s : State) : Out :=
  .next (quadOp n (spells n (.qmin n mask qd qa b)) 2 mask qd false (fun x l => x.rq qa l) (fun x l => x.src b l) (fun _ _ a b => qPlain (wMin a b)) s)

/-- QSHL (R145). -/
def execQshl (n : NibId) (mask : BitVec 4) (qd qa : BitVec 3) (b : QSrc) (s : State) : Out :=
  .next (quadOp n (spells n (.qshl n mask qd qa b)) 3 mask qd false (fun x l => x.rq qa l) (fun x l => x.src b l) (fun x _ a b => qShl x.cur.rmode a b) s)

/-- FADDQ. -/
def execFaddq (n : NibId) (mask : BitVec 4) (qd qa : BitVec 3) (b : QSrc) (s : State) : Out :=
  .next (quadOp n (spells n (.faddq n mask qd qa b)) 3 mask qd false (fun x l => x.rq qa l) (fun x l => x.src b l) (fun _ _ a b => (f32Add a b).q) s)

/-- FSUBQ. -/
def execFsubq (n : NibId) (mask : BitVec 4) (qd qa : BitVec 3) (b : QSrc) (s : State) : Out :=
  .next (quadOp n (spells n (.fsubq n mask qd qa b)) 3 mask qd false (fun x l => x.rq qa l) (fun x l => x.src b l) (fun _ _ a b => (f32Sub a b).q) s)

/-- FMULQ. -/
def execFmulq (n : NibId) (mask : BitVec 4) (qd qa : BitVec 3) (b : QSrc) (s : State) : Out :=
  .next (quadOp n (spells n (.fmulq n mask qd qa b)) 3 mask qd false (fun x l => x.rq qa l) (fun x l => x.src b l) (fun _ _ a b => (f32Mul a b).q) s)

/-- FMAQ: d + a × b, rounded once. -/
def execFmaq (n : NibId) (mask : BitVec 4) (qd qa : BitVec 3) (b : QSrc) (s : State) : Out :=
  .next (quadOp n (spells n (.fmaq n mask qd qa b)) 3 mask qd true (fun x l => x.rq qa l) (fun x l => x.src b l) (fun _ d a b => (f32Fma d a b).q) s)

/-- QABSS. -/
def execQabss (n : NibId) (mask : BitVec 4) (qd qa : BitVec 3) (s : State) : Out :=
  .next (quadOp n (spells n (.qabss n mask qd qa)) 2 mask qd false (fun x l => x.rq qa l) noSrc (fun _ _ a _ => qSat (Int.ofNat a.toInt.natAbs)) s)

/-- QNEGS. -/
def execQnegs (n : NibId) (mask : BitVec 4) (qd qa : BitVec 3) (s : State) : Out :=
  .next (quadOp n (spells n (.qnegs n mask qd qa)) 2 mask qd false (fun x l => x.rq qa l) noSrc (fun _ _ a _ => qSat (-a.toInt)) s)

/-- FCVTQFQ (R98). -/
def execFcvtqfq (n : NibId) (mask : BitVec 4) (qd qa : BitVec 3) (s : State) : Out :=
  .next (quadOp n (spells n (.fcvtqfq n mask qd qa)) 3 mask qd false (fun x l => x.rq qa l) noSrc (fun _ _ a _ => qPlain (q31ToF32 a)) s)

/-- FCVTFQQ (R98). -/
def execFcvtfqq (n : NibId) (mask : BitVec 4) (qd qa : BitVec 3) (s : State) : Out :=
  .next (quadOp n (spells n (.fcvtfqq n mask qd qa)) 3 mask qd false (fun x l => x.rq qa l) noSrc (fun _ _ a _ => (f32ToQ31 a).q) s)

/-- QMOV: Qa, or a broadcast D register. -/
def execQmov (n : NibId) (mask : BitVec 4) (qd : BitVec 3) (src : QSrc) (s : State) : Out :=
  .next (quadOp n (spells n (.qmov n mask qd src)) 2 mask qd false (fun x l => x.src src l) noSrc (fun _ _ a _ => qPlain a) s)

/-! ### Multiply-accumulate and extraction (R146 to R149) -/

/-- The register index of a lane of AC(X). -/
def acReg (ax : Bool) (l : Nat) : BitVec 3 := BitVec.ofNat 3 (4 * b2n ax + l)

/-- An accumulator lane result: MAC view after 1 cycle, EXT and ACST view after 3 (R158). -/
def Nib.launchAcc (r : BitVec 3) (v : AccVal) (x : Nib) : Nib := (x.launch 1 (.acMac r v)).launch 3 (.acExt r v)

/-- The parallel load of a QMAC (R147): its location, and the load itself. -/
def parLoc (n : Nat) (ld : ParLoad) (x : Nib) : Option Loc :=
  match ld with
  | .none => none
  | .word _ p => some (accessAt n (x.ra (regP p)) 4)
  | .quad _ p => some (accessAt n (x.ra (regP p)) 16)

def parLoad (n : Nat) (ld : ParLoad) (loc : Loc) (x : Nib) (y : Nib) (s : State) : Nib × State :=
  match ld with
  | .none => (y, s)
  | .word d p => loadAt n loc false (d.setWidth 6) (y.launchReg 1 1 (regP p) (x.nextAddr p), s)
  | .quad q p => loadAt n loc true (regQ q 0) (y.launchReg 1 1 (regP p) (x.nextAddr p), s)

/-- QMAC: per lane, the accumulator from its previous value and the shifted product (R92 to R94, R107). -/
def qmacOp (n : NibId) (hit : Word → Bool) (ax : Bool) (qa : BitVec 3) (b : QSrc) (ld : ParLoad) (prev : Bool) (op : Int → Int → Int)
    (s : State) : State :=
  s.issue n hit false (fun x s =>
    let mul (y : Nib) (l : Nat) : Nib :=
      let a := x.rq qa l
      let c := x.src b l
      let old := x.acMac (acReg ax l).toNat
      let r := accSat (op old.v.toInt (2 * (a.v.toInt * c.v.toInt)))
      (y.launchAcc (acReg ax l) ⟨r.1, a.psn || c.psn || (prev && old.psn)⟩).launchSticky 1 (stIf r.2 stAV)
    match parLoc n ld x with
    | some (.bad c) => .trap c
    | some loc =>
      let (y, s) := parLoad n ld loc x ([0, 1, 2, 3].foldl mul x) s
      .ok (s.setNib n y)
    | none => .ok (s.setNib n ([0, 1, 2, 3].foldl mul x)))

/-- MPY: the previous value is not used. -/
def execMpy (n : NibId) (ax : Bool) (qa : BitVec 3) (b : QSrc) (ld : ParLoad) (s : State) : Out :=
  .next (qmacOp n (spells n (.mpy n ax qa b ld)) ax qa b ld false (fun _ p => p) s)

/-- MAC. -/
def execMac (n : NibId) (ax : Bool) (qa : BitVec 3) (b : QSrc) (ld : ParLoad) (s : State) : Out :=
  .next (qmacOp n (spells n (.mac n ax qa b ld)) ax qa b ld true (fun o p => o + p) s)

/-- MSU. -/
def execMsu (n : NibId) (ax : Bool) (qa : BitVec 3) (b : QSrc) (ld : ParLoad) (s : State) : Out :=
  .next (qmacOp n (spells n (.msu n ax qa b ld)) ax qa b ld true (fun o p => o - p) s)

/-- The forms of EXT that R130 and R148 leave undefined: an empty mask; a shift outside −8 to +8; a shift or
BX in the binary32 format. -/
def extIllegal (fmt : Bool) (mask : BitVec 4) (shift : BitVec 5) (bx : Bool) : Bool :=
  decide (mask = 0) || (if fmt then decide (shift ≠ 0) || bx
    else decide (shift.toInt < -8) || decide (8 < shift.toInt))

/-- EXT (R95, R96, R104, R148). -/
def execExt (n : NibId) (fmt ax : Bool) (qd : BitVec 3) (mask : BitVec 4) (shift : BitVec 5) (bx clr : Bool)
    (s : State) : Out :=
  .next (s.issue n (spells n (.ext n fmt ax qd mask shift bx clr)) false (fun x s =>
    if extIllegal fmt mask shift bx then .trap trapIllegal
    else
      let lane (y : Nib) (l : Nat) : Nib :=
        if bitOf mask l then
          let a := x.acExt (acReg ax l).toNat
          let r := if fmt then extF a.v else extQ x.cur.rmode a.v shift.toInt
          let y := (y.launchReg 2 3 (regQ qd l) ⟨r.w, a.psn⟩).launchSticky 2 r.st
          let y := if bx && !a.psn then y.launch 3 (.bexpMin (BitVec.ofNat 6 (rsb r.w))) else y
          if clr then y.launchAcc (acReg ax l) ⟨0, false⟩ else y
        else y
      .ok (s.setNib n ([0, 1, 2, 3].foldl lane x))))

/-- ACLD: a lane from D(j+2)[7:0], D(j+1), Dj (R149). Dj above D29 is undefined. -/
def execAcld (n : NibId) (ax : Bool) (lane : BitVec 2) (dj : BitVec 5) (s : State) : Out :=
  .next (s.issue n (spells n (.acld n ax lane dj)) false (fun x s =>
    if 29 < dj.toNat then .trap trapIllegal
    else
      let a := x.rd dj
      let b := x.rd (dj + 1)
      let c := x.rd (dj + 2)
      let v : BitVec 72 := c.v.setWidth 8 ++ (b.v ++ a.v)
      .ok (s.setNib n (x.launchAcc (acReg ax lane.toNat) ⟨v, a.psn || b.psn || c.psn⟩))))

/-- ACST: a lane to Dj, D(j+1) and, sign-extended, D(j+2) (R149). -/
def execAcst (n : NibId) (ax : Bool) (lane : BitVec 2) (dj : BitVec 5) (s : State) : Out :=
  .next (s.issue n (spells n (.acst n ax lane dj)) false (fun x s =>
    if 29 < dj.toNat then .trap trapIllegal
    else
      let a := x.acExt (acReg ax lane.toNat).toNat
      let put (d : BitVec 5) (w : Word) (y : Nib) : Nib := y.launchReg 2 3 (d.setWidth 6) ⟨w, a.psn⟩
      let y := put (dj + 2) ((a.v.extractLsb' 64 8).signExtend 32) (put (dj + 1) (a.v.extractLsb' 32 32) (put dj (a.v.extractLsb' 0 32) x))
      .ok (s.setNib n y)))

/-! ### Control flow and control registers (R150 to R156) -/

/-- BR: two delay slots, then the target when the condition holds (R151). -/
def execBr (n : NibId) (cond : BitVec 4) (target : BitVec 13) (s : State) : Out :=
  .next (s.issue n (spells n (.br n cond target)) true (fun x s =>
    match condTrap cond x.cur.fl with
    | some c => .trap c
    | none => .branch s (if condTrue cond x.cur.fl then some target else none)))

/-- BDNZ: Dk ← Dk − 1, taken when the result is not 0 (R151, R152). -/
def execBdnz (n : NibId) (dk : BitVec 5) (target : BitVec 13) (s : State) : Out :=
  .next (s.issue n (spells n (.bdnz n dk target)) true (fun x s =>
    if (x.rd dk).psn then .trap trapPoison
    else
      let v := (x.rd dk).v - 1
      .branch (s.setNib n (x.launchReg 1 2 (dk.setWidth 6) ⟨v, false⟩)) (if v = 0 then none else some target)))

/-- REP: the next instruction N times (R110). -/
def execRep (n : NibId) (count1 : BitVec 12) (s : State) : Out :=
  .next (s.issue n (spells n (.rep n count1)) true (fun _ s => .repeated s (count1.toNat + 1)))

/-- The body of HALT: it waits for posted quire SRAM stores, then ends the slice (R153). -/
def haltBody (n : Nat) (x : Nib) (s : State) : Did :=
  if x.posted = 0 then .done (s.endSlice n 1) else .done (s.setNib n { x with blocked := some .halt })

/-- HALT. -/
def execHalt (n : NibId) (s : State) : Out := .next (s.issue n (spells n (.halt n)) true (haltBody n))

/-- RETI: only in the shadow bank; issued instructions complete, the primary bank is selected, EPC is next; a
return to a repeated instruction runs the iterations that remain (R120, R154). -/
def execReti (n : NibId) (s : State) : Out :=
  .next (s.issue n (spells n (.reti n)) true (fun x s =>
    if x.bank then
      let x := x.drain
      let k := x.prim
      let k := if k.repAt = some x.epc ∧ k.repc ≠ 0 then k else { k with repAt := none }
      .done (s.setNib n { x with bank := false, pc := x.epc, prim := k, held := none })
    else .trap trapIllegal))

/-- NOP. -/
def execNop (n : NibId) (s : State) : Out := .next (s.issue n (spells n (.nop n)) false (fun _ s => .ok s))

/-- The body of FENCE: it waits for posted quire SRAM stores (R150). -/
def fenceBody (n : Nat) (x : Nib) (s : State) : Did :=
  if x.posted = 0 then .ok s else .done (s.setNib n { x with blocked := some .fence })

/-- FENCE. -/
def execFence (n : NibId) (s : State) : Out := .next (s.issue n (spells n (.fence n)) false (fenceBody n))

/-- NIB_CYC: cycles since the current or last dispatch (R125). -/
def State.nibCyc (s : State) (n : Nat) : Word :=
  let x := s.nib n
  if x.run then BitVec.ofNat 32 (s.tim.sysCnt - x.start).toNat else x.cyc

/-- MOVC to a control register (R155). -/
def execMovcTo (n : NibId) (creg : BitVec 4) (sa : BitVec 6) (s : State) : Out :=
  .next (s.issue n (spells n (.movcTo n creg sa)) false (fun x s =>
    let v := x.rs sa
    if creg = 6 ∨ 8 ≤ creg.toNat ∨ (creg = 7 ∧ x.bank = false) then .trap trapIllegal
    else if creg ≠ 0 ∧ v.psn = true then .trap trapPoison
    else
      let y : Nib :=
        match creg.toNat with
        | 0 => x.launch 1 (.fl x.bank ((v.v.setWidth 16 &&& 0x3FF) ||| (if v.psn then 0x200 else 0)))
        | 1 => (x.launch 1 (.amode x.bank (v.v &&& 0xFF1F))).launch 2 (.amodeA x.bank (v.v &&& 0xFF1F))
        | 2 => x.launch 1 (.rmode x.bank (v.v.setWidth 2))
        | 3 => { x with imask := v.v.setWidth 3 }
        | 4 => { x with tcmp := v.v, armed := true }
        | 5 => x.launch 1 (.bexp (v.v.setWidth 6))
        | _ => x.launch 1 (.epc (v.v.setWidth 13))
      .ok (s.setNib n y)))

/-- MOVC from a control register, unpoisoned; reading BEXP sets it to 31 (R105, R155). -/
def execMovcFrom (n : NibId) (creg : BitVec 4) (sd : BitVec 6) (s : State) : Out :=
  .next (s.issue n (spells n (.movcFrom n creg sd)) false (fun x s =>
    if 10 ≤ creg.toNat ∨ (creg = 7 ∧ x.bank = false) then .trap trapIllegal
    else
      let v : Word :=
        match creg.toNat with
        | 0 => x.cur.fl.setWidth 32
        | 1 => x.cur.amode
        | 2 => x.cur.rmode.setWidth 32
        | 3 => x.imask.setWidth 32
        | 4 => x.tcmp
        | 5 => x.bexp.setWidth 32
        | 6 => x.cur.repc.setWidth 32
        | 7 => x.epc.setWidth 32
        | 8 => x.irq.setWidth 32
        | _ => s.nibCyc n
      let y := if creg = 5 then { x with bexp := 31 } else x
      .ok (s.setNib n (y.launchReg 1 2 sd ⟨v, false⟩))))

/-- IRQCLR. -/
def execIrqclr (n : NibId) (clear : BitVec 3) (s : State) : Out :=
  .next (s.issue n (spells n (.irqclr n clear)) false (fun x s => .ok (s.setNib n { x with irq := x.irq &&& ~~~ clear })))

/-! ### Events of the nib core -/

/-- The cause with which an instruction traps at an instruction boundary of the primary bank outside repeats and delay
slots (R109, R119, R151 to R155). -/
def bankTrap (n : NibId) (i : Instr) (x : Nib) : Option Nat :=
  let at_ (a : PVal) (align : Nat) : Option Nat := match accessAt n a align with | .bad c => some c | _ => none
  let par (ld : ParLoad) : Option Nat := match parLoc n ld x with | some (.bad c) => some c | _ => none
  match i with
  | .sel _ _ _ _ c => condTrap c x.cur.fl
  | .br _ c _ => condTrap c x.cur.fl
  | .bdnz _ d _ => if (x.rd d).psn then some trapPoison else none
  | .ld _ _ p m => at_ (x.effAddr p m) 4
  | .st _ _ p m _ => at_ (x.effAddr p m) 4
  | .ldq _ _ p m => at_ (x.effAddr p m) 16
  | .stq _ _ p m _ => at_ (x.effAddr p m) 16
  | .ld2 _ a b => dualTrap (accessAt n (x.ra (regP a.p)) (if a.quad then 16 else 4)) (accessAt n (x.ra (regP b.p)) (if b.quad then 16 else 4))
  | .mpy _ _ _ _ ld => par ld
  | .mac _ _ _ _ ld => par ld
  | .msu _ _ _ _ ld => par ld
  | .reti _ => some trapIllegal
  | .movcTo _ c sa => if c = 7 then some trapIllegal else if c ≠ 0 ∧ (x.rs sa).psn = true then some trapPoison else none
  | .movcFrom _ c _ => if c = 7 then some trapIllegal else none
  | _ => none

/-- The cause with which the next instruction of a nib traps at a boundary where R114 allows an interrupt. -/
def State.nextTrap (s : State) (n : NibId) : Option Nat :=
  let r := s.peek (nibWindow n + 4 * (s.nib n).pc.toNat)
  if r.psn then some 5
  else
    match nibDecode n (r.w.setWidth 32) with
    | some i => bankTrap n i (s.nib n).advance
    | none => some trapIllegal

/-- INTERRUPT_ENTRY: a pending interrupt is taken where R114 allows it, unless the deadline or a trap of the next
instruction falls on the same boundary (R123). -/
def execInterruptEntry (n : NibId) (s : State) : Out :=
  let x := s.nib n
  .next (if x.irqPending && x.interruptible && s.issues n && (s.nextTrap n).isNone then s.setNib n (x.enter x.intVec x.pc) else s)

/-- TIMER_MATCH: NIB_CYC equals TCMP while armed; the bit sets and TIMER disarms (R113, R156). -/
def execTimerMatch (n : NibId) (s : State) : Out :=
  let x := s.nib n
  .next (if x.run && x.armed && s.nibCyc n == x.tcmp then s.setNib n { x with irq := x.irq ||| 2, armed := false } else s)

/-- WARN_LEAD_REACHED: WARN sets when NIB_WARN_LEAD cycles remain before the deadline, unless NIB_WARN_LEAD was 0 at the
dispatch (R113, R125). -/
def execWarnLeadReached (n : NibId) (s : State) : Out :=
  let x := s.nib n
  .next (if x.run && decide (x.lead ≠ 0) && decide (s.phase + x.lead = x.cutAt) then s.setNib n { x with irq := x.irq ||| 4 } else s)

/-- NIB_GUARD_CYCLE: an external request that waited 64 cycles is served and the core stalls a cycle (R82). -/
def execNibGuardCycle (n : NibId) (s : State) : Out :=
  .next (if (s.nib n).run then s.stall n 1 else s)

/-- The words of a returned quire SRAM access go to their registers: readable by the next instruction as data,
one later at address formation (R158). -/
def returnWords (n : Nat) : List QLoad → State → State
  | [], s => s
  | q :: l, s =>
    let (r, s) := s.readWord32 q.addr
    returnWords n l (s.setNib n ((s.nib n).launchReg 1 2 q.dst ⟨r.1, r.2.1⟩))

/-- QUIRE_SRAM_LOAD_RETURN: the oldest access returns and the wait ends, counted as a stall (R85). -/
def execQuireSramLoadReturn (n : NibId) (waited : Nat) (s : State) : Out :=
  .next (match (s.nib n).loads with
    | [] => s
    | q :: l => returnWords n q ((s.setNib n { s.nib n with loads := l }).stall n waited))

/-- A blocked instruction goes on once a store was acknowledged, unless the deadline has come (R124). -/
def State.unblock (n : Nat) (s : State) : State :=
  let x := s.nib n
  let y := { x with blocked := none }
  match if s.phase < x.cutAt then x.blocked else none with
  | none => s
  | some (.st d p m b) => (s.setNib n y).settle n (stBody n d p m b y (s.setNib n y))
  | some (.stq q p m b) => (s.setNib n y).settle n (stqBody n q p m b y (s.setNib n y))
  | some .halt => (s.setNib n y).settle n (haltBody n y (s.setNib n y))
  | some .fence => (s.setNib n y).settle n (fenceBody n y (s.setNib n y))

/-- POSTED_STORE_ACK: one posted store is acknowledged; a core that waited for it tries again (R85, R150, R153). The
`waited` cycles of a store or of FENCE are a stall; HALT has stopped issue and counts none (R125, R132). -/
def execPostedStoreAck (n : NibId) (waited : Nat) (s : State) : Out :=
  let x := s.nib n
  .next (if x.posted = 0 then s
    else
      let s := s.setNib n { x with posted := x.posted - 1 }
      if x.blocked = none then s
      else (if x.blocked = some .halt then s else s.stall n waited).unblock n)

end Sys2Proof.Machine
end

