-- ==== Sys2Proof/Machine/NibVal.lean ====
section
/-! DEFINITION. What the folio validator finds of a nib program (CHECK 5 of R620; rule 4 of R171): a walk along every
control path from an entry address, with the results under way (R158, R160, R161), the addresses that the address
generators form (R27), what a repeat repeats (R85, R112), and the issue cycles and quire SRAM waits of the path (R171,
R512). A register whose value the path does not fix stands as a poisoned register in the walk. -/

namespace Sys2Proof.Machine

/-! ### What an instruction reads and writes (R158) -/

/-- Keys of the registers whose results have a latency above 1 or which R161 orders: S register r as data, and as
address formation reads it; AMODE at address formation; accumulator lane r as QMAC, and as EXT and ACST read it;
BEXP. -/
def keyS (r : BitVec 6) : Nat := r.toNat
def keyA (r : BitVec 6) : Nat := 64 + r.toNat
def keyAmode : Nat := 128
def keyMac (r : BitVec 3) : Nat := 130 + r.toNat
def keyExt (r : BitVec 3) : Nat := 140 + r.toNat
def keyBexp : Nat := 150

def keyD (d : BitVec 5) : Nat := d.toNat

/-- The lanes that a mask enables. -/
def maskLanes (m : BitVec 4) : List Nat := [0, 1, 2, 3].filter fun l => bitOf m l

def keysQ (m : BitVec 4) (q : BitVec 3) : List Nat := (maskLanes m).map fun l => keyS (regQ q l)

def keysSrc (m : BitVec 4) (b : QSrc) : List Nat :=
  match b with
  | .quad q => keysQ m q
  | .bcast d => [keyD d]

/-- What post-modification of Pk reads (R100): Bk only where Lk or bit-reversal makes it count. -/
def keysPost (x : Nib) (k : BitVec 3) : List Nat :=
  let l := x.ra (regL k)
  [keyA (regP k), keyA (regM k), keyA (regL k), keyAmode] ++ (if l.psn || l.v != 0 || bitOf x.cur.amodeA (8 + k.toNat) then [keyA (regB k)] else [])

/-- What the formation of an address reads. -/
def keysMode (x : Nib) (k : BitVec 3) (m : MemMode) : List Nat :=
  match m with
  | .plain => [keyA (regP k)]
  | .post => keysPost x k
  | .index dj => [keyA (regP k), keyA (dj.setWidth 6)]
  | .offset _ => [keyA (regP k)]

def keysPar (x : Nib) (ld : ParLoad) : List Nat :=
  match ld with
  | .none => []
  | .word _ p => keysPost x p
  | .quad _ p => keysPost x p

/-- The lanes of AC(X). -/
def keysAc (key : BitVec 3 → Nat) (ax : Bool) (m : BitVec 4) : List Nat := (maskLanes m).map fun l => key (acReg ax l)

/-- The registers that an instruction reads. -/
def nibReads (x : Nib) (i : Instr) : List Nat :=
  match i with
  | .add _ _ _ a b => [keyS a, keyS b]
  | .sub _ _ _ a b => [keyS a, keyS b]
  | .and _ _ _ a b => [keyS a, keyS b]
  | .or _ _ _ a b => [keyS a, keyS b]
  | .xor _ _ _ a b => [keyS a, keyS b]
  | .sll _ _ _ a b => [keyS a, keyS b]
  | .srl _ _ _ a b => [keyS a, keyS b]
  | .sra _ _ _ a b => [keyS a, keyS b]
  | .min _ _ _ a b => [keyS a, keyS b]
  | .max _ _ _ a b => [keyS a, keyS b]
  | .sel _ _ a b _ => [keyS a, keyS b]
  | .cmp _ a b => [keyS a, keyS b]
  | .slli _ _ _ a _ => [keyS a]
  | .srli _ _ _ a _ => [keyS a]
  | .srai _ _ _ a _ => [keyS a]
  | .addi _ _ _ a _ => [keyS a]
  | .movh _ d _ => [keyS d]
  | .fadd _ _ a b => [keyD a, keyD b]
  | .fsub _ _ a b => [keyD a, keyD b]
  | .fmul _ _ a b => [keyD a, keyD b]
  | .fmin _ _ a b => [keyD a, keyD b]
  | .fmax _ _ a b => [keyD a, keyD b]
  | .fcmp _ _ a b => [keyD a, keyD b]
  | .fma _ d a b => [keyD d, keyD a, keyD b]
  | .fabs _ _ a => [keyD a]
  | .fneg _ _ a => [keyD a]
  | .fcvtqf _ _ a => [keyD a]
  | .fcvtfq _ _ a => [keyD a]
  | .ld _ _ p m => keysMode x p m
  | .st _ d p m _ => keyD d :: keysMode x p m
  | .ldq _ _ p m => keysMode x p m
  | .stq _ q p m _ => keysQ 15 q ++ keysMode x p m
  | .ld2 _ a b => (if a.pm then keysPost x a.p else [keyA (regP a.p)]) ++ (if b.pm then keysPost x b.p else [keyA (regP b.p)])
  | .qadds _ m _ a b => keysQ m a ++ keysSrc m b
  | .qsubs _ m _ a b => keysQ m a ++ keysSrc m b
  | .qmulr _ m _ a b => keysQ m a ++ keysSrc m b
  | .qmax _ m _ a b => keysQ m a ++ keysSrc m b
  | .qmin _ m _ a b => keysQ m a ++ keysSrc m b
  | .qshl _ m _ a b => keysQ m a ++ keysSrc m b
  | .faddq _ m _ a b => keysQ m a ++ keysSrc m b
  | .fsubq _ m _ a b => keysQ m a ++ keysSrc m b
  | .fmulq _ m _ a b => keysQ m a ++ keysSrc m b
  | .fmaq _ m d a b => keysQ m d ++ keysQ m a ++ keysSrc m b
  | .qabss _ m _ a => keysQ m a
  | .qnegs _ m _ a => keysQ m a
  | .fcvtqfq _ m _ a => keysQ m a
  | .fcvtfqq _ m _ a => keysQ m a
  | .qmov _ m _ b => keysSrc m b
  | .mpy _ _ a b ld => keysQ 15 a ++ keysSrc 15 b ++ keysPar x ld
  | .mac _ ax a b ld => keysQ 15 a ++ keysSrc 15 b ++ keysPar x ld ++ keysAc keyMac ax 15
  | .msu _ ax a b ld => keysQ 15 a ++ keysSrc 15 b ++ keysPar x ld ++ keysAc keyMac ax 15
  | .ext _ _ ax _ m _ _ _ => keysAc keyExt ax m
  | .acld _ _ _ d => [keyD d, keyD (d + 1), keyD (d + 2)]
  | .acst _ ax l _ => [keyExt (acReg ax l.toNat)]
  | .bdnz _ d _ => [keyD d]
  | .movcTo _ _ a => [keyS a]
  | .movcFrom _ c _ => if c = 5 then [keyBexp] else []
  | _ => []

/-- A result in an S register with its latencies as data and at address formation. -/
def outS (r : BitVec 6) (l la : Nat) : List (Nat × Nat) := [(keyS r, l), (keyA r, la)]
def outQ (m : BitVec 4) (q : BitVec 3) (l : Nat) : List (Nat × Nat) := (maskLanes m).flatMap fun k => outS (regQ q k) l (l + 1)
def outAc (ax : Bool) (m : BitVec 4) : List (Nat × Nat) :=
  (keysAc keyMac ax m).map (·, 1) ++ (keysAc keyExt ax m).map (·, 3)
def outPost (k : BitVec 3) : List (Nat × Nat) := outS (regP k) 1 1
def outMode (k : BitVec 3) (m : MemMode) : List (Nat × Nat) :=
  match m with
  | .post => outPost k
  | _ => []

/-- A load's result: latency 3 from data RAM, 1 from quire SRAM. -/
def outLoad (quire quad : Bool) (d : BitVec 6) : List (Nat × Nat) :=
  let l := if quire then 1 else 3
  if quad then [0, 1, 2, 3].flatMap fun k => outS (d + BitVec.ofNat 6 k) l (l + 1) else outS d l (l + 1)

def outPar (quire : Bool) (ld : ParLoad) : List (Nat × Nat) :=
  match ld with
  | .none => []
  | .word d p => outLoad quire false (d.setWidth 6) ++ outPost p
  | .quad q p => outLoad quire true (regQ q 0) ++ outPost p

/-- The results of an instruction with their latencies; `quire` says of each access whether it leads to quire SRAM. -/
def nibWrites (quire : List Bool) (i : Instr) : List (Nat × Nat) :=
  let q0 := quire.getD 0 false
  match i with
  | .add _ _ d _ _ => outS d 1 2
  | .sub _ _ d _ _ => outS d 1 2
  | .and _ _ d _ _ => outS d 1 2
  | .or _ _ d _ _ => outS d 1 2
  | .xor _ _ d _ _ => outS d 1 2
  | .sll _ _ d _ _ => outS d 1 2
  | .srl _ _ d _ _ => outS d 1 2
  | .sra _ _ d _ _ => outS d 1 2
  | .min _ _ d _ _ => outS d 1 2
  | .max _ _ d _ _ => outS d 1 2
  | .sel _ d _ _ _ => outS d 1 2
  | .slli _ _ d _ _ => outS d 1 2
  | .srli _ _ d _ _ => outS d 1 2
  | .srai _ _ d _ _ => outS d 1 2
  | .addi _ _ d _ _ => outS d 1 2
  | .movl _ d _ => outS d 1 2
  | .movh _ d _ => outS d 1 2
  | .fadd _ d _ _ => outS (d.setWidth 6) 3 4
  | .fsub _ d _ _ => outS (d.setWidth 6) 3 4
  | .fmul _ d _ _ => outS (d.setWidth 6) 3 4
  | .fmin _ d _ _ => outS (d.setWidth 6) 3 4
  | .fmax _ d _ _ => outS (d.setWidth 6) 3 4
  | .fcmp _ d _ _ => outS (d.setWidth 6) 3 4
  | .fma _ d _ _ => outS (d.setWidth 6) 3 4
  | .fabs _ d _ => outS (d.setWidth 6) 3 4
  | .fneg _ d _ => outS (d.setWidth 6) 3 4
  | .fcvtqf _ d _ => outS (d.setWidth 6) 3 4
  | .fcvtfq _ d _ => outS (d.setWidth 6) 3 4
  | .ld _ d p m => outLoad q0 false (d.setWidth 6) ++ outMode p m
  | .ldq _ q p m => outLoad q0 true (regQ q 0) ++ outMode p m
  | .st _ _ p m bx => outMode p m ++ (if bx then [(keyBexp, 3)] else [])
  | .stq _ _ p m bx => outMode p m ++ (if bx then [(keyBexp, 3)] else [])
  | .ld2 _ a b =>
    outLoad q0 a.quad (dualDst a) ++ outLoad (quire.getD 1 false) b.quad (dualDst b) ++
      (if a.pm then outPost a.p else []) ++ (if b.pm then outPost b.p else [])
  | .qadds _ m d _ _ => outQ m d 2
  | .qsubs _ m d _ _ => outQ m d 2
  | .qmulr _ m d _ _ => outQ m d 3
  | .qmax _ m d _ _ => outQ m d 2
  | .qmin _ m d _ _ => outQ m d 2
  | .qshl _ m d _ _ => outQ m d 3
  | .faddq _ m d _ _ => outQ m d 3
  | .fsubq _ m d _ _ => outQ m d 3
  | .fmulq _ m d _ _ => outQ m d 3
  | .fmaq _ m d _ _ => outQ m d 3
  | .qabss _ m d _ => outQ m d 2
  | .qnegs _ m d _ => outQ m d 2
  | .fcvtqfq _ m d _ => outQ m d 3
  | .fcvtfqq _ m d _ => outQ m d 3
  | .qmov _ m d _ => outQ m d 2
  | .mpy _ ax _ _ ld => outAc ax 15 ++ outPar q0 ld
  | .mac _ ax _ _ ld => outAc ax 15 ++ outPar q0 ld
  | .msu _ ax _ _ ld => outAc ax 15 ++ outPar q0 ld
  | .ext _ _ ax d m _ bx clr => outQ m d 2 ++ (if clr then outAc ax m else []) ++ (if bx then [(keyBexp, 3)] else [])
  | .acld _ ax l _ => [(keyMac (acReg ax l.toNat), 1), (keyExt (acReg ax l.toNat), 3)]
  | .acst _ _ _ d => outS (d.setWidth 6) 2 3 ++ outS ((d + 1).setWidth 6) 2 3 ++ outS ((d + 2).setWidth 6) 2 3
  | .bdnz _ d _ => outS (d.setWidth 6) 1 2
  | .movcTo _ c _ => if c = 1 then [(keyAmode, 2)] else if c = 5 then [(keyBexp, 1)] else []
  | .movcFrom _ _ d => outS d 1 2
  | _ => []

/-- The memory accesses of an instruction: address and alignment. -/
def nibAccesses (x : Nib) (i : Instr) : List (PVal × Nat) :=
  let par : ParLoad → List (PVal × Nat) := fun ld =>
    match ld with
    | .none => []
    | .word _ p => [(x.ra (regP p), 4)]
    | .quad _ p => [(x.ra (regP p), 16)]
  match i with
  | .ld _ _ p m => [(x.effAddr p m, 4)]
  | .st _ _ p m _ => [(x.effAddr p m, 4)]
  | .ldq _ _ p m => [(x.effAddr p m, 16)]
  | .stq _ _ p m _ => [(x.effAddr p m, 16)]
  | .ld2 _ a b => [(x.ra (regP a.p), if a.quad then 16 else 4), (x.ra (regP b.p), if b.quad then 16 else 4)]
  | .mpy _ _ _ _ ld => par ld
  | .mac _ _ _ _ ld => par ld
  | .msu _ _ _ _ ld => par ld
  | _ => []

/-! ### The walk -/

/-- Where an access leads, as far as the validator finds. -/
inductive Reach where
  | out
  | own (a : Option Nat)
  | quire
  deriving DecidableEq, Repr

/-- What the walk looks at: the program, its nib, and the sum of the burst times of the other masters at a quire SRAM
bank (R512). -/
structure WalkEnv where
  n : Fin 272
  prog : List Word
  sigma : Nat
  deriving DecidableEq, Repr

/-- Where an access leads: by its address where the path fixes it, else as the validator's analysis finds. -/
def WalkEnv.reach (v : WalkEnv) (pc : Nat) (a : PVal × Nat) : Reach :=
  if a.1.psn then
    match (Config.addressOf v.prog pc).val with
    | 0 => .out
    | 1 => .own none
    | _ => .quire
  else
    match locate v.n.val a.1.v a.2 with
    | .own x => .own (some x)
    | .quire _ => .quire
    | .bad c => if c = trapAddr then .out else .own none

/-- A result under way in a walk: its register, the cycles left, the address of its producer, and whether the producer
is an iteration of the repeat in hand. -/
structure WalkRes where
  key : Nat
  left : Nat
  pc : Nat
  rep : Bool
  deriving DecidableEq, Repr

/-- A walk: the registers as the path fixes them, the sequencer, the D registers that MOVL or ADDI from a constant
loaded, the results under way, the posted stores that may be outstanding, issue cycles W and waits Q so far, and the
instructions left of a probe, which follows an outcome that the counter of a BDNZ rules out. -/
structure Walk where
  x : Nib
  pc : Nat
  slots : Nat := 0
  tgt : Option Nat := none
  rep : Option Nat := none
  imm : List Nat := []
  res : List WalkRes := []
  posted : Nat := 0
  w : Nat := 0
  q : Nat := 0
  probe : Option Nat := none
  deriving DecidableEq, Repr

/-- What the walks of a program find: a violation of R27, R85, R112, R160 or R161; a path that cannot be bounded; the
worst W + ⌈W/64⌉ + 4·⌈W/1,024⌉ + Q of a path (rule 4 of R171). -/
structure Found where
  bad : Bool := false
  loose : Bool := false
  cost : Nat := 0
  deriving DecidableEq, Repr

def Found.join (a b : Found) : Found := ⟨a.bad || b.bad, a.loose || b.loose, Nat.max a.cost b.cost⟩

def pathCost (w q : Nat) : Nat := w + (w + 63) / 64 + 4 * ((w + 1023) / 1024) + q

/-- The wait of a quire SRAM access behind `k` posted stores, in ROOT cycles (R512). -/
def WalkEnv.wait (v : WalkEnv) (k : Nat) : Nat := 2 * (4 + v.sigma * (k + 1) + 2 * k + 2)

/-- An instruction that a repeat must not repeat (R112). -/
def noRepeat (i : Instr) : Bool :=
  match i with
  | .br .. => true
  | .bdnz .. => true
  | .rep .. => true
  | .halt .. => true
  | .reti .. => true
  | _ => false

/-- What R151 forbids in a delay slot. -/
def noDelay (i : Instr) : Bool := noRepeat i

def unknown : PVal := ⟨0, true⟩

/-- Set an S register of a walk, as data and at address formation. -/
def Nib.setS (r : BitVec 6) (v : PVal) (x : Nib) : Nib := land (.addr false r v) (land (.data false r v) x)

/-- An integer result where its operands are known. -/
def knownOp (a b : PVal) (f : Word → Word → Word) : PVal := if a.psn || b.psn then unknown else ⟨f a.v b.v, false⟩

/-- The S registers of an instruction's results take the values that the path fixes; the rest become unknown. -/
def walkValues (x : Nib) (i : Instr) : List (BitVec 6 × PVal) :=
  let two : BitVec 6 → BitVec 6 → BitVec 6 → (Word → Word → Word) → List (BitVec 6 × PVal) := fun d a b f => [(d, knownOp (x.rs a) (x.rs b) f)]
  let post : BitVec 3 → List (BitVec 6 × PVal) := fun k => [(regP k, x.nextAddr k)]
  let mode : BitVec 3 → MemMode → List (BitVec 6 × PVal) := fun k m => match m with | .post => post k | _ => []
  let par : ParLoad → List (BitVec 6 × PVal) := fun ld => match ld with | .none => [] | .word _ p => post p | .quad _ p => post p
  match i with
  | .add _ _ d a b => two d a b (· + ·)
  | .sub _ _ d a b => two d a b (· - ·)
  | .and _ _ d a b => two d a b (· &&& ·)
  | .or _ _ d a b => two d a b (· ||| ·)
  | .xor _ _ d a b => two d a b (· ^^^ ·)
  | .sll _ _ d a b => two d a b fun p q => p <<< (q.toNat % 32)
  | .srl _ _ d a b => two d a b fun p q => p >>> (q.toNat % 32)
  | .sra _ _ d a b => two d a b fun p q => p.sshiftRight (q.toNat % 32)
  | .slli _ _ d a k => [(d, knownOp (x.rs a) PVal.zero fun p _ => p <<< k.toNat)]
  | .srli _ _ d a k => [(d, knownOp (x.rs a) PVal.zero fun p _ => p >>> k.toNat)]
  | .srai _ _ d a k => [(d, knownOp (x.rs a) PVal.zero fun p _ => p.sshiftRight k.toNat)]
  | .min _ _ d a b => two d a b wMin
  | .max _ _ d a b => two d a b wMax
  | .addi _ _ d a k => [(d, knownOp (x.rs a) PVal.zero fun p _ => p + k.signExtend 32)]
  | .movl _ d k => [(d, ⟨k.signExtend 32, false⟩)]
  | .movh _ d k => [(d, knownOp (x.rs d) PVal.zero fun p _ => k ++ p.setWidth 16)]
  | .bdnz _ d _ => [(d.setWidth 6, knownOp (x.rd d) PVal.zero fun p _ => p - 1)]
  | .ld _ _ p m => mode p m
  | .st _ _ p m _ => mode p m
  | .ldq _ _ p m => mode p m
  | .stq _ _ p m _ => mode p m
  | .ld2 _ a b => (if a.pm then post a.p else []) ++ (if b.pm then post b.p else [])
  | .mpy _ _ _ _ ld => par ld
  | .mac _ _ _ _ ld => par ld
  | .msu _ _ _ _ ld => par ld
  | _ => []

/-- The registers after an instruction. -/
def walkRegs (quire : List Bool) (i : Instr) (x : Nib) : Nib :=
  let lost := (nibWrites quire i).filter fun o => decide (o.1 < 64)
  let y := lost.foldl (fun y o => y.setS (BitVec.ofNat 6 o.1) unknown) x
  let y := (walkValues x i).foldl (fun y o => y.setS o.1 o.2) y
  match i with
  | .movcTo _ c a =>
    if c = 1 then
      -- with AMODE unknown every pointer's next address is
      if (x.rs a).psn then (List.range 8).foldl (fun y k => y.setS (regM (BitVec.ofNat 3 k)) unknown) y
      else { y with prim := { y.prim with amodeA := (x.rs a).v &&& 0xFF1F } }
    else y
  | _ => y

/-- The D registers that hold a constant from MOVL or ADDI after an instruction. -/
def walkImm (quire : List Bool) (i : Instr) (l : List Nat) : List Nat :=
  let kept := l.filter fun d => !((nibWrites quire i).any fun o => o.1 == d)
  match i with
  | .movl _ d _ => keyS d :: kept
  | .addi _ _ d a _ => if l.contains (keyS a) then keyS d :: kept else kept
  | .bdnz _ d _ => if l.contains (keyD d) then keyD d :: kept else kept
  | _ => kept

/-- Issue cycles of an instruction beyond the first (R80, R143, R150). -/
def extraCycles (l : List Reach) (i : Instr) : Nat :=
  match i with
  | .ld2 _ a b =>
    match l with
    | [.own x, .own y] =>
      if a.quad || b.quad then 1
      else
        match x, y with
        | some x, some y => if x / 4 % 4 = y / 4 % 4 then 1 else 0
        | _, _ => 1
    | _ => 0
  | .reti _ => 5
  | _ => 0

/-- Whether an instruction stores. -/
def isStore (i : Instr) : Bool :=
  match i with
  | .st .. => true
  | .stq .. => true
  | _ => false

/-- Waits and posted stores of one access to quire SRAM (R85, R512). -/
def WalkEnv.access (v : WalkEnv) (store : Bool) (kq : Nat × Nat) (r : Reach) : Nat × Nat :=
  match r with
  | .quire =>
    if store then (if 16 ≤ kq.1 then (16, kq.2 + v.wait 15) else (kq.1 + 1, kq.2))
    else (0, kq.2 + v.wait (Nat.min 15 kq.1))
  | _ => kq

/-- The wait for every posted store (FENCE, HALT). -/
def WalkEnv.drainWait (v : WalkEnv) (k : Nat) : Nat := if k = 0 then 0 else v.wait (k - 1)

/-- The next place in order, as `Nib.next` finds it; results of a repeat that ends are no longer its iterations'. -/
def Walk.onward (k : Walk) : Walk :=
  match k.rep with
  | some m =>
    if m ≤ 1 then { k with rep := none, pc := (k.pc + 1) % 8192, res := k.res.map fun r => { r with rep := false } }
    else { k with rep := some (m - 1) }
  | none =>
    if k.slots = 0 then { k with pc := (k.pc + 1) % 8192 }
    else if k.slots = 1 then { k with pc := k.tgt.getD ((k.pc + 1) % 8192), slots := 0, tgt := none }
    else { k with pc := (k.pc + 1) % 8192, slots := k.slots - 1 }

/-- After a branch: its delay slots, then the target where it is taken. -/
def Walk.branch (t : Option Nat) (k : Walk) : Walk := { k with pc := (k.pc + 1) % 8192, slots := 2, tgt := t }

/-- Instructions that a probe follows: past the branch, its slots, and every latency window. -/
def probeLen : Nat := 8

/-- One instruction of a walk: what it violates, the walks that follow, and what a path that ends here costs. -/
def WalkEnv.step (v : WalkEnv) (k : Walk) : Found × List Walk :=
  match nibDecode v.n (v.prog.getD k.pc 0) with
  | none => ({}, [])
  | some i =>
    if noDelay i && decide (k.slots ≠ 0) then ({}, [])
    else
      let x := k.x
      let res := (k.res.map fun r => { r with left := r.left - 1 }).filter fun r => decide (0 < r.left)
      let acc := (nibAccesses x i).map (v.reach k.pc)
      let quire := acc.map fun r => r == .quire
      let outs := nibWrites quire i
      let windowed := (nibReads x i).any fun key => res.any fun r => r.key == key && !(k.rep.isSome && r.rep && r.pc == k.pc)
      let disorder := outs.any fun o => res.any fun r => r.key == o.1 && decide (o.2 < r.left)
      let repeated := k.rep.isSome && (noRepeat i || quire.contains true)
      let bad := windowed || disorder || repeated || acc.contains .out
      let kq := acc.foldl (v.access (isStore i)) (k.posted, k.q)
      let left := res.foldl (fun m r => Nat.max m r.left) 0
      let next : Walk := { k with
        x := walkRegs quire i x, imm := walkImm quire i k.imm,
        res := res ++ outs.map fun o => ⟨o.1, o.2, k.pc, k.rep.isSome⟩,
        posted := kq.1, q := kq.2, w := k.w + 1 + extraCycles acc i, probe := k.probe.map (· - 1) }
      let here : Found := { bad := bad }
      if bad then (here, [])
      else if k.probe = some 0 then (here, [])
      else
        match i with
        | .halt _ =>
          let cost := if k.probe.isSome then 0 else pathCost (next.w + left) (next.q + v.drainWait kq.1)
          ({ here with cost := cost }, [])
        | .reti _ => (here, [])
        | .fence _ => (here, [{ next with posted := 0, q := next.q + v.drainWait kq.1 }.onward])
        | .rep _ c => (here, [{ next with pc := (k.pc + 1) % 8192, rep := some (c.toNat + 1) }])
        | .br _ c t =>
          if c = 14 then (here, [next.branch (some t.toNat)]) else (here, [next.branch (some t.toNat), next.branch none])
        | .bdnz _ d t =>
          let ctr := next.x.rd d
          if next.imm.contains (keyD d) && !ctr.psn then
            let taken := ctr.v != 0
            let other : Walk := { next with probe := some (k.probe.getD probeLen) }
            (here, [next.branch (if taken then some t.toNat else none), other.branch (if taken then none else some t.toNat)])
          else (here, [next.branch (some t.toNat), next.branch none])
        | _ => (here, [next.onward])

/-- The walks of at most `n` instructions from a place; a path that does not end by then is not bounded. -/
def WalkEnv.walk (v : WalkEnv) : Nat → Walk → Found
  | 0, k => { loose := k.probe.isNone }
  | n + 1, k =>
    let r := v.step k
    r.2.foldl (fun f k => f.join (v.walk n k)) r.1

/-- Issue cycles that no slice has room for (rule 2 of R171): a longer path cannot be bounded within any entry. -/
def walkLimit : Nat := 102400

/-- The registers at dispatch, all 0 (R88), and in a handler, where the path does not fix them. -/
def freshNib : Nib := {}
def handlerNib : Nib := (List.range 64).foldl (fun x r => x.setS (BitVec.ofNat 6 r) unknown) {}

/-- Whether a program loads IMASK: without it no interrupt is ever taken (R113, R156). -/
def usesImask (n : Fin 272) (prog : List Word) : Bool :=
  prog.any fun w => match nibDecode n w with | some (.movcTo _ c _) => c == 3 | _ => false

/-- What the validator finds of the program of a NIB entry: its slice, and its handlers. -/
def WalkEnv.entry (v : WalkEnv) (e : Entry) : Found :=
  let f := v.walk walkLimit { x := freshNib, pc := eEntry e }
  let h : Nat → Bool := fun a => (v.walk walkLimit { x := handlerNib, pc := a }).bad
  { f with bad := f.bad || h (eTvec e) || (usesImask v.n v.prog && h (eIvec e)) }

end Sys2Proof.Machine
end

