-- ==== Sys2Proof/Machine/MemExec.lean ====
section
/-! DEFINITION. Error injection, the scrubbers and spare rows (spec/17_memory_protection.md R566 to R575). -/

namespace Sys2Proof.Machine

/-! ### The words of a group (R558) -/

/-- The address ranges of a memory group, ascending. -/
def groupRanges (g : Nat) : List (Nat × Nat) :=
  if g = 0 then [(0x04000000, 0x04080000), (0x08000000, 0x08200000)]
  else if g < 5 then
    let b := 0x10000000 + 0x4000000 * (g - 1)
    [(b, b + 0x1000000), (b + 0x3200000, b + 0x3240000), (b + 0x3310000, b + 0x3318000), (b + 0x3400000, b + 0x4000000)]
  else
    let q := g - 5
    let b := 0x10000000 + 0x4000000 * (q / 4) + 0x1000000 + 0x200000 * (q % 4)
    let nib : Nat → List (Nat × Nat) := fun n => [(nibWin n, nibWin n + 0x8000), (nibWin n + 0x10000, nibWin n + 0x20000)]
    (b, b + 0x200000) :: ((List.range 16).map fun k => nib (16 * q + k)).flatten ++ nib (256 + q)

/-- The first word of a group at or above an address. -/
def nextWord (g a : Nat) : Option Nat :=
  ((groupRanges g).find? fun r => decide (a < r.2)).bind fun r =>
    let x := Nat.max a r.1
    let l := wordLen r.1
    let w := (x + l - 1) / l * l
    if w < r.2 then some w else ((groupRanges g).find? fun t => decide (r.2 ≤ t.1)).map Prod.fst

/-! ### Error injection (R566, R567) -/

def relIdle : Nat := 0

/-- Whether an ARM is accepted now (R567). -/
def State.armOk (s : State) (g : Nat) : Bool :=
  if s.muted then true
  else if s.live then
    s.on (MEM_FLIP_ADDR g) MEM_FLIP_ADDR_MATCH &&
      (match nibOfAddr ((s.reg (MEM_FLIP_ADDR g)).toNat / 4 * 4) with
       | some (n, _) => decide (256 ≤ n) && decide (groupOf ((s.reg (MEM_FLIP_ADDR g)).toNat / 4 * 4) = some g) && decide (s.fld (RUL_RELIEF (n - 256)) RUL_RELIEF_STATE ≠ 2)
       | none => false)
  else false

/-- An ARM accepted. -/
def State.armNow (g : Nat) (s : State) : State :=
  let s := s.setFld (MEM_FLIP_STAT g) MEM_FLIP_STAT_ARMED 1
  let s := s.setFld (MEM_FLIP_STAT g) MEM_FLIP_STAT_REFUSED 0
  s.setGroup g { s.group g with armLater := false }

/-- A write of 1 to MEM_FLIP_CTL.ARM: accepted, or refused and deferred (R567). -/
def State.flipArm (g : Nat) (s : State) : State :=
  if s.armOk g then s.armNow g
  else
    let s := s.setFld (MEM_FLIP_STAT g) MEM_FLIP_STAT_REFUSED 1
    (s.setGroup g { s.group g with armLater := true }).mark EVT_MF_BUSY

/-- A write of 1 to MEM_FLIP_CTL.DISARM: any record stays (R566). -/
def State.flipDisarm (g : Nat) (s : State) : State :=
  (s.setFld (MEM_FLIP_STAT g) MEM_FLIP_STAT_ARMED 0).setGroup g { s.group g with armLater := false }

/-- Deferred ARMs take effect on entry to POISED or SERVICE (R567, R601). -/
def State.armDeferred (s : State) : State :=
  each (List.range 21) (fun g s => if (s.group g).armLater then s.armNow g else s) s

/-! ### The scrubber (R569 to R571) -/

def scrubRun : Nat := 1
def scrubDone : Nat := 2
def scrubStopped : Nat := 3
def scrubError : Nat := 4

/-- The summary registers and their SATURATED bits clear (R569). -/
def State.clearSummary (g : Nat) (s : State) : State :=
  let s := each [MEM_SUM_CE g, MEM_SUM_UE g, MEM_SUM_POISON g, MEM_SUM_INJ g, MEM_SUM_SKIP g] (fun a s => s.setReg a 0) s
  let s := (s.setReg (MEM_SUM_FIRST g) 0xFFFFFFFF).setReg (MEM_SUM_LAST g) 0xFFFFFFFF
  s.setReg (MEM_CNT_SAT g) (s.reg (MEM_CNT_SAT g) &&& 3)

/-- A write of 1 to MEM_SCRUB_CTL.GO (R569). -/
def State.scrubGo (g : Nat) (s : State) : State :=
  if (s.group g).scrub then s.setFld (MEM_SCRUB_STAT g) MEM_SCRUB_STAT_BUSY 1
  else
    let s := (s.setFld (MEM_SCRUB_STAT g) MEM_SCRUB_STAT_BUSY 0).clearSummary g
    let lo := (s.reg (MEM_SCRUB_START g)).toNat
    let hi := (s.reg (MEM_SCRUB_END g)).toNat
    match nextWord g lo with
    | some w =>
      if lo ≤ hi ∧ w ≤ hi then
        let s := s.setReg (MEM_SCRUB_POS g) (BitVec.ofNat 32 w)
        (s.setFld (MEM_SCRUB_STAT g) MEM_SCRUB_STAT_STATE scrubRun).setGroup g { s.group g with scrub := true }
      else s.setFld (MEM_SCRUB_STAT g) MEM_SCRUB_STAT_STATE scrubError
    | none => s.setFld (MEM_SCRUB_STAT g) MEM_SCRUB_STAT_STATE scrubError

/-- A write of 1 to MEM_SCRUB_CTL.STOP (R569). -/
def State.scrubStop (g : Nat) (s : State) : State :=
  if (s.group g).scrub then
    (s.setFld (MEM_SCRUB_STAT g) MEM_SCRUB_STAT_STATE scrubStopped).setGroup g { s.group g with scrub := false }
  else s

/-- Whether the domain of a memory address is powered. -/
def State.powered (s : State) (a : Nat) : Bool :=
  match domOf a with
  | some d => (s.dom (domKey d)).on
  | none => true

/-- A word is marked hard (R574, R575). -/
def State.markHard (g a : Nat) (s : State) : State :=
  let s := (s.mark (EVT_MEM_HARD g)).setReg (MEM_HARD_ADDR g) (BitVec.ofNat 32 a)
  match segOf a with
  | none => s
  | some (x, _) =>
    let m := s.group g
    let s := s.setGroup g { m with found := SMap.set (fun _ => 0) m.found x (SMap.get (fun _ => 0) m.found x + 1) }
    if 8 ≤ s.segUsed x then s.mark (EVT_MEM_SPARE_OUT g)
    else if s.on (MEM_REPAIR g) MEM_REPAIR_AUTO = false ∨ (s.group g).hard.contains a then s
    else s.setGroup g { s.group g with hard := (s.group g).hard ++ [a] }

/-- The flips of a cell that stays faulty, again in the word after a write-back. -/
def State.flipsBack (a : Nat) (w : Word64) (m : Mark) (s : State) : State :=
  (s.setRawWord a (if (s.markAt a).poison then s.rawWord a else w)).setMark a { m with poison := (s.markAt a).poison }

/-- The scrubber's read of one word, and the second read after a write-back (R570): what the first found. A cell that
stays faulty, `stuck`, keeps its flips through the write-back. -/
def State.scrubRead (g a : Nat) (stuck : Bool) (s : State) : MemRes × State :=
  let w := s.rawWord a
  let m := s.markAt a
  let again : State → State := fun s => if stuck then s.flipsBack a w m else s
  let (r, s) := s.readWord a
  if r.stall then
    let (r2, s) := (again s).readWord a
    (r, if r2.stall then (again s).markHard g a else s)
  else (r, s)

/-- A real error in the summary (R571). -/
def State.sumAddr (g a : Nat) (s : State) : State :=
  let w := BitVec.ofNat 32 a
  let s := if (s.reg (MEM_SUM_FIRST g)).toNat = 0xFFFFFFFF then s.setReg (MEM_SUM_FIRST g) w else s
  s.setReg (MEM_SUM_LAST g) w

/-- What a scrub started by GO counts of one read (R571). -/
def State.summarise (g a : Nat) (r : MemRes) (s : State) : State :=
  match r.row with
  | .clean => s
  | .poisoned => s.bump (CTR_MEM_SUM_POISON g)
  | .corrected => if r.inj then s.bump (CTR_MEM_SUM_INJ g) else (s.bump (CTR_MEM_SUM_CE g)).sumAddr g a
  | .fresh => if r.inj then s.bump (CTR_MEM_SUM_INJ g) else (s.bump (CTR_MEM_SUM_UE g)).sumAddr g a

/-- The next word of a scrub started by GO. -/
def State.scrubNext (g a : Nat) (s : State) : State :=
  match nextWord g (a + wordLen a) with
  | some w =>
    let s := s.setReg (MEM_SCRUB_POS g) (BitVec.ofNat 32 w)
    if w ≤ (s.reg (MEM_SCRUB_END g)).toNat then s
    else ((s.setFld (MEM_SCRUB_STAT g) MEM_SCRUB_STAT_STATE scrubDone).setGroup g { s.group g with scrub := false }).mark (EVT_MEM_SCRUB_DONE g)
  | none => ((s.setFld (MEM_SCRUB_STAT g) MEM_SCRUB_STAT_STATE scrubDone).setGroup g { s.group g with scrub := false }).mark (EVT_MEM_SCRUB_DONE g)

/-- The patrol stands at an address, or has ended (R572). -/
def State.setPatrol (g : Nat) (a : Option Nat) (s : State) : State :=
  (s.setFld (MEM_SCRUB_STAT g) MEM_SCRUB_STAT_PATROL (b2n a.isSome)).setGroup g { s.group g with patrol := a }

/-- The scrubber reads its next word: of the scrub started by GO, else of the patrol (R570, R572). -/
def State.scrubWord (g : Nat) (stuck : Bool) (s : State) : State :=
  if (s.group g).scrub then
    let a := (s.reg (MEM_SCRUB_POS g)).toNat
    if s.powered a then
      let (r, s) := s.scrubRead g a stuck
      (s.summarise g a r).scrubNext g a
    else (s.bump (CTR_MEM_SUM_SKIP g)).scrubNext g a
  else
    match (s.group g).patrol with
    | none => s
    | some a =>
      let s := if s.powered a then (s.scrubRead g a stuck).2 else s
      s.setPatrol g (nextWord g (a + wordLen a))

/-! ### Spare rows (R574) -/

/-- The bank copies a row's 128 words into the spare under R559. -/
def State.copyRow (a : Nat) (s : State) : State :=
  each (List.range 128) (fun i s => (s.readWord (a + i * wordLen a)).2) s

/-- The scribe's repair of the oldest hard word's row, in phase 1 of a boundary (R574). -/
def State.repairRow (g : Nat) (s : State) : State :=
  match (s.group g).hard with
  | [] => s
  | a :: rest =>
    match segOf a with
    | none => s
    | some (x, row) =>
      if s.on (MEM_REPAIR g) MEM_REPAIR_AUTO = false then s
      else if 8 ≤ s.segUsed x then s.setGroup g { s.group g with hard := rest }
      else
        let s := (s.copyRow (spareRow x row)).mapRow x row
        let inRow : Nat → Bool := fun b => segOf b == some (x, row)
        let s := s.setGroup g { s.group g with hard := (s.group g).hard.filter fun b => !inRow b, repaired := (s.group g).repaired + 1 }
        (s.mark (EVT_MEM_REPAIR g)).ledgerAppend ledgerRow (BitVec.ofNat 32 (2 ^ 16 * x + row))

/-! ### The commands -/

def execFlipArm (g : Fin 21) (s : State) : Host.Outcome State Fault Refusal := .next (s.flipArm g)
def execFlipDisarm (g : Fin 21) (s : State) : Host.Outcome State Fault Refusal := .next (s.flipDisarm g)
def execScrubGo (g : Fin 21) (s : State) : Host.Outcome State Fault Refusal := .next (s.scrubGo g)
def execScrubStop (g : Fin 21) (s : State) : Host.Outcome State Fault Refusal := .next (s.scrubStop g)
def execScrubWord (g : Fin 21) (stuck : Bool) (s : State) : Host.Outcome State Fault Refusal := .next (s.scrubWord g stuck)

/-- The scribe starts a patrol of a group at its first word (R572). -/
def execPatrolStart (g : Fin 21) (s : State) : Host.Outcome State Fault Refusal :=
  .next (if s.scribeActs = false ∨ (s.group g).patrol.isSome then s else s.setPatrol g (nextWord g 0))

def execRowRepairCommit (g : Fin 21) (s : State) : Host.Outcome State Fault Refusal :=
  .next (if s.scribeActs then s.repairRow g else s)

end Sys2Proof.Machine
end

