-- ==== Sys2Proof/Machine/SluBase.lean ====
section
/-! DEFINITION. The sluice channels' states, their starts and their ends (spec/16_sluice_dma.md R534, R540, R545 to
R556). -/

namespace Sys2Proof.Machine

def sluIdle : Nat := 0
def sluRun : Nat := 1
def sluDone : Nat := 2
def sluLoop : Nat := 3
def sluTimeout : Nat := 4
def sluStopped : Nat := 5
def sluError : Nat := 6
def sluDry : Nat := 7
def sluCut : Nat := 8

def State.sluState (s : State) (c : Nat) : Nat := s.fld (SLU_CH_STAT c) SLU_CH_STAT_STATE

/-- Store a channel's STATE; SLU_ACTIVE follows (R553). -/
def State.setSluState (c st : Nat) (s : State) : State :=
  (s.setFld (SLU_CH_STAT c) SLU_CH_STAT_STATE st).setRegBit (SLU_ACTIVE (c / 16)) (c % 16) (decide (st = sluRun))

def State.chain (s : State) (c : Nat) : ChainSt := SMap.get (fun _ => {}) s.chains c
def State.setChain (c : Nat) (x : ChainSt) (s : State) : State := s.withChains (SMap.set (fun _ => {}) s.chains c x)

/-- Raise a sluice source for a channel: its status bit and its WHO bit (R553). -/
def State.sluRaise (e : Evt) (c : Nat) (s : State) : State :=
  (s.mark e).setRegBit (SLU_WHO (c / 16) e.bit) (c % 16) true

/-- Whether a channel is a ruling channel, and whether it is a chain channel (R534). -/
def State.ruledChannel (s : State) (c : Nat) : Bool := s.on (SLU_CH_CFG c) SLU_CH_CFG_RUL
def State.chainChannel (s : State) (c : Nat) : Bool := s.on (SLU_CH_CFG c) SLU_CH_CFG_EN && !s.ruledChannel c

/-- The modes in which chains run (R546). -/
def State.chainsRun (s : State) : Bool := s.mode == modePoised || s.live

/-- Whether a chain runs on a channel. -/
def State.chainRuns (s : State) (c : Nat) : Bool := s.chainChannel c && s.sluState c == sluRun

/-- A start of a chain: from the descriptor at HEAD, with POISON and MATCH afresh; a running chain is not restarted
(R545, R556). -/
def State.sluStart (c : Nat) (s : State) : State :=
  if s.chainChannel c = false ∨ s.chainsRun = false then s
  else if s.sluState c = sluRun then (s.bump (CTR_SLU_CH_OVR_CNT c)).sluRaise (EVT_SLU_OVERRUN (c / 16)) c
  else
    let s := s.setReg (SLU_CH_STAT c) 0
    let s := (s.setSluState c sluRun).setFld (SLU_CH_STAT c) SLU_CH_STAT_MATCH 1
    s.setChain c { fetch := some (32 * ((s.reg (SLU_CH_HEAD c)).toNat / 32)) }

/-- A chain ends in a state: nothing of it goes on. -/
def State.sluEnd (c st : Nat) (s : State) : State := (s.setSluState c st).setChain c {}

/-- STOP (R547): what is buffered is discarded; a write burst already granted stays a transaction of the channel's
port, and completes. -/
def State.sluStop (c : Nat) (s : State) : State := if s.chainRuns c then s.sluEnd c sluStopped else s

/-- A change to a mode in which chains do not run stops every running chain (R546). -/
def State.sluStopAll (s : State) : State := each (List.range 64) State.sluStop s

/-- A trigger of a chain (R545): TRIG 1 in the first stroke of POISED after the folio loads, TRIG 2 in every stroke
whose number is a multiple of PERIOD. -/
def State.sluTrigger (c : Nat) (first : Bool) (s : State) : State :=
  let per := Nat.max 1 (s.fld (SLU_CH_PERIOD c) SLU_CH_PERIOD_PERIOD)
  let due : Bool :=
    match s.fld (SLU_CH_CFG c) SLU_CH_CFG_TRIG with
    | 1 => first
    | 2 => s.tim.strk.toNat % per == 0
    | _ => false
  if due ∧ s.chainChannel c ∧ s.chainsRun then (s.atRoot (s.fld (SLU_CH_CFG c) SLU_CH_CFG_TRIG_CYC)).sluStart c else s

/-- An early termination of a write burst at an address: counted in the bank of its master's level, and a slot copy
that the burst was writing is STALE. -/
def State.earlyEnd (l a : Nat) (s : State) : State :=
  let s := (s.bump (CTR_FAB_EARLY_CNT l)).mark (EVT_FAB_EARLY l)
  if 0x08000000 ≤ a ∧ a < 0x08200000 then s.setStale s.curCopy (a % 0x100000 / 64) else s

/-! ### Addresses and descriptors (R169, R539 to R542) -/

/-- A slate address that names copy 0, with the copy substituted (R169, R542). -/
def substCopy (copy a : Nat) : Nat :=
  if 0x08000000 ≤ a ∧ a < 0x08200000 then 0x08000000 + 0x100000 * copy + a % 0x100000 else a

/-- The fields of a descriptor's four words. -/
def descOf (addr : Nat) (w0 w1 w2 w3 : Word64) : Desc :=
  let ctl := w2.toNat % 2 ^ 32
  { addr := addr, next := 32 * (w0.toNat % 2 ^ 32 / 32), src := w0.toNat / 2 ^ 32, dst := w1.toNat % 2 ^ 32, len := w1.toNat / 2 ^ 32 % 2 ^ 25,
    chained := ctl.testBit 13, srel := ctl.testBit 12, note := ctl.testBit 10, fin := ctl.testBit 9, barrier := ctl.testBit 8,
    op := ctl % 16, fill := w3 }

/-- HOPS of a descriptor, 0 standing for 4,096. -/
def descHops (w2 : Word64) : Nat := let h := w2.toNat / 2 ^ 32 % 2 ^ 16; if h = 0 then 4096 else h

/-- The checks of R541 beside poison: OP, reserved fields, LEN, alignment, overlap. -/
def descBad (d : Desc) (w0 w1 w2 : Word64) : Bool :=
  let ctl := w2.toNat % 2 ^ 32
  decide (2 < d.op) || decide (w0.toNat % 32 ≠ 0) || decide (w1.toNat / 2 ^ 57 ≠ 0) || decide (ctl / 2 ^ 14 ≠ 0) || ctl.testBit 11 ||
    decide (ctl / 16 % 16 ≠ 0) || decide (w2.toNat / 2 ^ 48 ≠ 0) || decide (d.op = 1 ∧ d.src ≠ 0) || decide (d.op ≠ 1 ∧ d.fill ≠ 0) ||
    decide (d.len = 0) || decide (d.len % 8 ≠ 0) || decide (16777216 < d.len) || decide (d.src % 8 ≠ 0) || decide (d.dst % 8 ≠ 0) ||
    decide (d.op ≠ 1 ∧ d.src < d.dst + d.len ∧ d.dst < d.src + d.len)

def execSluStart (c : Fin 64) (s : State) : Host.Outcome State Fault Refusal := .next (s.sluStart c)
def execSluStop (c : Fin 64) (s : State) : Host.Outcome State Fault Refusal := .next (s.sluStop c)

end Sys2Proof.Machine
end

