-- ==== Sys2Proof/Machine/Wide.lean ====
section
/-! DEFINITION. The wide format of the inkstone and the brush engine, and the gain table (R202 to R207). -/

namespace Sys2Proof.Machine

/-- +0 in the wide format. -/
def wideZero : Dyad := ⟨false, 0, 0⟩

/-- The largest wide magnitude, (2 − 2^−40)·2^127 (R203). -/
def wideMax : Nat × Int := (2 ^ 41 - 1, 87)

/-- Rounding to the wide format: 41 significant bits, below 2^−126 zero of the same sign, above the largest
value that value; `true` marks the saturation (R203, R205). -/
def wideRound (d : Dyad) : Dyad × Bool :=
  let (q, e) := roundSig 41 d.mant d.exp
  if q = 0 then (⟨d.neg, 0, 0⟩, false)
  else
    let ex : Int := e + Nat.log2 q
    if ex < -126 then (⟨d.neg, 0, 0⟩, false)
    else if 127 < ex then (⟨d.neg, wideMax.1, wideMax.2⟩, true)
    else (⟨d.neg, q, e⟩, false)

/-- acc + a·b: the product rounded once, the sum rounded once (R205). -/
def Acc.mulAdd (x : Acc) (a b : Dyad) (psn : Bool) : Acc :=
  let (p, s1) := wideRound (a.mul b)
  let (r, s2) := wideRound (x.d.add p)
  ⟨r, x.psn || psn, x.sats + b2n s1 + b2n s2⟩

/-- The saturations met so far by accumulators, and these with none left to count. -/
def takeSats (l : List Acc) : Nat × List Acc := (l.foldl (fun n a => n + a.sats) 0, l.map fun a => { a with sats := 0 })

/-- Rounding to binary32 on write: below 2^−126 zero of the same sign, above the largest finite value that
value; `true` marks the saturation (R207). -/
def wideToF32 (d : Dyad) : Word × Bool :=
  match f32Round d with
  | (_, true) => (if d.neg then 0xFF7FFFFF else 0x7F7FFFFF, true)
  | (w, false) => (w, false)

/-- A source word on entry: its exact value, and whether a NaN or an infinity was replaced by +0 (R202). -/
def enter (f32 : Bool) (w : Word) : Dyad × Bool :=
  if f32 then
    match f32Read w with
    | .fin d => (d, false)
    | _ => (wideZero, true)
  else (⟨decide (w.toInt < 0), w.toInt.natAbs, -31⟩, false)

/-! ### Level codes (R204) -/

/-- OFF. -/
def codeOff : BitVec 16 := 0x8000

/-- The largest `m` below 2^n, built from `m0` bit by bit, with m^1280 · c ≤ b. -/
def rootBits (b c : Nat) : Nat → Nat → Nat
  | 0, m => m
  | n + 1, m => if (m + 2 ^ n) ^ 1280 * c ≤ b then rootBits b c n (m + 2 ^ n) else rootBits b c n m

/-- G(g): the binary32 value nearest to 10^(g/1280), as an exact number (R204). -/
def gain (g : BitVec 16) : Dyad :=
  let k := g.toInt
  if 0 ≤ k then
    let t := 10 ^ k.toNat
    let e := Nat.log2 t / 1280
    let m2 := rootBits (t * 2 ^ (1280 * (24 - e))) 1 25 0
    ⟨false, (m2 + 1) / 2, (e : Int) - 23⟩
  else
    let t := 10 ^ (-k).toNat
    let e := Nat.log2 t / 1280 + 1
    let m2 := rootBits (2 ^ (1280 * (24 + e))) t 25 0
    ⟨false, (m2 + 1) / 2, -(e : Int) - 23⟩

end Sys2Proof.Machine
end

