-- ==== Sys2Proof/Machine/Brush.lean ====
section
/-! DEFINITION. The brush engine: element descriptors, lines, the interpolator, the FIR head and tail, stale
blocks and late tails (spec/07_brush_and_reservoir.md). -/

namespace Sys2Proof.Machine

/-- The address of element `e`'s descriptor (R228). -/
def elemAddr (p e : Nat) : Nat := 0x13310000 + 0x4000000 * p + 64 * e

/-- The fields of a descriptor (R229). -/
structure Elem where
  src : Nat
  sfmt : Bool
  dst : Nat
  taps : Nat
  coef : Nat
  hbase : Nat
  hlen : Nat
  lmem : Bool
  lbase : Nat
  llen : Nat
  bank : Nat
  delay : Nat
  run : Nat
  deriving DecidableEq, Repr

/-- A descriptor's fields from its first five 64-bit words. -/
def elemOf (w0 w1 w2 w3 w4 : Word64) : Elem :=
  let f (w : Word64) (hi lo : Nat) : Nat := w.toNat / 2 ^ lo % 2 ^ (hi + 1 - lo)
  { src := f w0 13 0, sfmt := bitOf w0 30, dst := f w0 29 16, taps := f w0 63 51, coef := f w0 48 32,
    hbase := f w1 31 16, hlen := f w1 8 0, lmem := bitOf w1 63, lbase := f w1 49 32,
    llen := f w2 17 0, bank := f w2 32 32, delay := f w3 27 0, run := f w4 18 0 }

/-- A descriptor as stored, the code not looked at. -/
def State.elem (s : State) (p e : Nat) : Elem :=
  let w (i : Nat) : Word64 := (s.peek (elemAddr p e + 8 * i)).w
  elemOf (w 0) (w 1) (w 2) (w 3) (w 4)

/-- Read `n` successive 64-bit words through the code. -/
def readLongs (a : Nat) : Nat → State → List MemRes × State
  | 0, s => ([], s)
  | n + 1, s =>
    let (r, s) := s.readWord a
    let (l, s) := readLongs (a + 8) n s
    (r :: l, s)

/-- A descriptor read through the code; `true` when one of its eight words is uncorrectable (R260). -/
def readElem (p e : Nat) (s : State) : (Elem × Bool) × State :=
  let (l, s) := readLongs (elemAddr p e) 8 s
  let w (i : Nat) : Word64 := ((l.map MemRes.w).getD i 0)
  ((elemOf (w 0) (w 1) (w 2) (w 3) (w 4), l.any MemRes.psn), s)

/-- The first byte of block `b` of an element's line (R249, R252). -/
def lineAddr (p : Nat) (el : Elem) (b : Nat) : Nat :=
  (if el.lmem then 0x10000000 else 0x13800000) + 0x4000000 * p + 64 * (el.lbase + b)

/-- The word of an element's ring for sample `m` (R233). -/
def ringAddr (p : Nat) (el : Elem) (m : Int) : Nat :=
  0x13800000 + 0x4000000 * p + 64 * el.hbase + 4 * (m % (16 * el.hlen : Nat)).toNat

/-- Tap `i` of an element in a bank (R240). -/
def tapAddr (p : Nat) (el : Elem) (bank i : Nat) : Nat :=
  (if bank = 0 then 0x13400000 else 0x13C00000) + 0x4000000 * p + 32 * el.coef + 4 * i

/-- REACH (R244). -/
def Elem.reach (el : Elem) (samples : Nat) : Nat :=
  let l := if el.llen = 0 then 0 else el.delay / 64 + 4
  (el.taps + l - 1 + samples - 1) / samples

/-- The delay in force for a written value (R238); `true` when it was replaced. -/
def clampDelay (llen samples delay : Nat) : Nat × Bool :=
  if llen = 0 then (0, decide (delay ≠ 0))
  else
    let f := delay % 64
    let di := delay / 64
    let top := (llen - 1) * samples - 4
    let di' := if f ≠ 0 ∧ di < 3 then 3 else di
    let di' := if top < di' then top else di'
    (64 * di' + f, decide (di' ≠ di))

/-- The sample index of position `k` of the current stroke (R233). -/
def State.sampleIdx (s : State) (k : Nat) : Int := (s.tim.strk.toNat * s.samples + k : Nat)

/-- Replaced words are counted (R232). -/
def State.bruNonfinite (p : Nat) (b : Bool) (s : State) : State :=
  if b then (s.bump (CTR_BRU_NONFINITE_CNT p)).mark (EVT_BRU_NONFINITE p) else s

/-- A binary32 coefficient as it enters: NaN and infinity read as +0 and are counted, subnormals as zero (R232). -/
def State.coefValue (p : Nat) (w : Word) (s : State) : Dyad × State :=
  let (d, r) := enter true w
  (d, s.bruNonfinite p r)

/-- Tap `i`, with its poison (R241, R259). -/
def readTap (p : Nat) (el : Elem) (i : Nat) (s : State) : (Dyad × Bool) × State :=
  let (r, s) := s.readWord32 (tapAddr p el el.bank i)
  let (d, s) := s.coefValue p r.1
  ((d, r.2.1), s)

/-- Line sample x[m'], as read from the line (R235). -/
def readLine (p : Nat) (el : Elem) (m : Int) (s : State) : (Dyad × Bool) × State :=
  let n := m / (s.samples : Int)
  let k := (m - n * s.samples).toNat
  let (r, s) := s.readWord32 (lineAddr p el (n % (el.llen : Int)).toNat + 4 * k)
  let (d, repl) := enter el.sfmt r.1
  ((d, r.2.1), s.bruNonfinite p repl)

/-- C[i][j]: rows 0 and 32 are the fixed unit impulses, the others the folio's table (R236, R237). -/
def State.interpCoef (p i j : Nat) (s : State) : Dyad × State :=
  if i = 0 then (⟨false, if j = 3 then 1 else 0, 0⟩, s)
  else if i = 32 then (⟨false, if j = 4 then 1 else 0, 0⟩, s)
  else s.coefValue p (s.reg (BRU_INTERP p (8 * i + j)))

/-- poly(i, m) (R236): terms j, …, 7 added in order. -/
def polyFrom (p : Nat) (el : Elem) (i : Nat) (m : Int) : Nat → Nat → Acc → State → Acc × State
  | 0, _, a, s => (a, s)
  | n + 1, j, a, s =>
    let (c, s) := s.interpCoef p i j
    let (x, s) := readLine p el (m - (el.delay / 64 : Nat) + 3 - j) s
    polyFrom p el i m n (j + 1) (a.mulAdd c x.1 x.2) s

def poly (p : Nat) (el : Elem) (i : Nat) (m : Int) (s : State) : Acc × State := polyFrom p el i m 8 0 {} s

/-- Saturations are counted (R231). -/
def State.bruSats (p n : Nat) (s : State) : State :=
  if n = 0 then s else (s.bumpBy (CTR_BRU_SAT_CNT p) n).mark (EVT_BRU_SAT p)

/-- r32 with the brush's own counter (R207, R233). -/
def r32 (p : Nat) (a : Acc) (s : State) : (Word × Bool) × State :=
  (((wideToF32 a.d).1, a.psn), s.bruSats p (a.sats + b2n (wideToF32 a.d).2))

/-- half(): times one half, below 2^−126 zero of the same sign (R236). -/
def half (d : Dyad) : Dyad := (wideRound ⟨d.neg, d.mant, d.exp - 1⟩).1

/-- interp(m), with `x0` the source word of the position when there is no line (R236). -/
def interp (p : Nat) (el : Elem) (x0 : Word × Bool) (m : Int) (s : State) : (Word × Bool) × State :=
  let f := el.delay % 64
  if el.llen = 0 then
    let (d, repl) := enter el.sfmt x0.1
    r32 p { d := d, psn := x0.2 } (s.bruNonfinite p repl)
  else if f = 0 then
    let (x, s) := readLine p el (m - (el.delay / 64 : Nat)) s
    r32 p { d := x.1, psn := x.2 } s
  else if f % 2 = 0 then
    let (a, s) := poly p el (f / 2) m s
    r32 p a s
  else
    let (a, s) := poly p el ((f - 1) / 2) m s
    let (b, s) := poly p el ((f + 1) / 2) m s
    let (sum, sat) := wideRound (a.d.add b.d)
    r32 p ⟨half sum, a.psn || b.psn, a.sats + b.sats + b2n sat⟩ s

/-- Ring sample v[m] of an earlier stroke. -/
def readRing (p : Nat) (el : Elem) (m : Int) (s : State) : (Word × Bool) × State :=
  let (r, s) := s.readWord32 (ringAddr p el m)
  ((r.1, r.2.1), s)

/-- FIR terms i, i − 1, … down to `lo`, in descending tap order, each with the v that `v` brings (R233, R234, R258). -/
def firTerms (p : Nat) (el : Elem) (v : Nat → State → (Word × Bool) × State) (lo : Nat) : Nat → Nat → Acc → State → Acc × State
  | 0, _, a, s => (a, s)
  | n + 1, i, a, s =>
    if i < lo then (a, s)
    else
      let (h, s) := readTap p el i s
      let (x, s) := v i s
      let a := a.mulAdd h.1 (enter true x.1).1 (h.2 || x.2)
      if i = 0 then (a, s) else firTerms p el v lo n (i - 1) a s

/-- tail[k]: terms i from N − 1 down to k + 1 (R233). -/
def tailOf (p : Nat) (el : Elem) (k : Nat) (s : State) : Acc × State :=
  if k + 1 ≤ el.taps - 1 then
    let m := s.sampleIdx k
    firTerms p el (fun i s => readRing p el (m - i) s) (k + 1) el.taps (el.taps - 1) {} s
  else ({}, s)

/-- The tails of one element, one for each sample position. -/
def tailsOf (p : Nat) (el : Elem) : Nat → Nat → State → List Acc × State
  | 0, _, s => ([], s)
  | n + 1, k, s =>
    let (a, s) := tailOf p el k s
    let (l, s) := tailsOf p el n (k + 1) s
    (a :: l, s)

def State.bru (s : State) (p : Nat) : Bru := SMap.get (fun _ => {}) s.brus p
def State.setBru (p : Nat) (x : Bru) (s : State) : State := s.withBrus (SMap.set (fun _ => {}) s.brus p x)

/-- The tail of an element, when the sweep of this stroke has formed it: its completion cycle and its values. -/
def State.tail (s : State) (p e : Nat) : Option TailSt := (s.bru p).tails.find? fun t => t.elem == e

/-- A tail's slack in BRU_SWEEP_MIN: the smallest since the last read (R262). -/
def noteSlack (p n : Nat) (s : State) : State :=
  let b := s.bru p
  if b.minRead then (s.setReg (BRU_SWEEP_MIN p) (BitVec.ofNat 32 n)).setBru p { b with minRead := false }
  else if n < (s.reg (BRU_SWEEP_MIN p)).toNat then s.setReg (BRU_SWEEP_MIN p) (BitVec.ofNat 32 n)
  else s

/-- An element's tails enter the tail store, their saturations counted (R231, R245). -/
def sweepElem (p e : Nat) (el : Elem) (cycle : Nat) (s : State) : State :=
  let (l, s) := tailsOf p el s.samples 0 s
  let (n, l) := takeSats l
  let s := s.bruSats p n
  s.setBru p { s.bru p with tails := (s.bru p).tails ++ [⟨e, cycle, l⟩] }

/-! ### The course of the sweep (R243, R245, R247, R256) -/

/-- M_tail and M_head of an element (R243). -/
def Elem.mTail (el : Elem) (samples : Nat) : Nat := (List.range samples).foldl (fun n k => n + (el.taps - 1 - k)) 0
def Elem.mHead (el : Elem) (samples : Nat) : Nat :=
  (if el.llen = 0 then 0 else 16 * samples) + (List.range samples).foldl (fun n k => n + Nat.min el.taps (k + 1)) 0

/-- The elements of a BRU entry. -/
def bruElems (e : Entry) : List Nat := (List.range (bits e.w4 9 0)).map (bits e.w3 8 0 + ·)

/-- The ROOT cycles for which the heads of an entry hold the MAC units, 128 products in each FAB_CLK cycle. -/
def State.headTime (s : State) (e : Entry) : Nat :=
  2 * (((bruElems e).foldl (fun n i => n + (s.elem (ePolder e) i).mHead s.samples) 0 + 127) / 128)

/-- The cycle at which `n` ROOT cycles have passed from `t`, outside windows of a start and a length in rising order. -/
def passed : List (Nat × Nat) → Nat → Nat → Nat
  | [], t, n => t + n
  | w :: l, t, n => if t + n ≤ w.1 then t + n else passed l (Nat.max t w.1 + w.2) (n - (w.1 - t))

/-- The ROOT cycles between 2,048 and a cycle that lie outside the windows. -/
def freeUntil (l : List (Nat × Nat)) (c : Nat) : Nat :=
  c - 2048 - l.foldl (fun n w => if w.1 < c then n + Nat.min w.2 (c - w.1) else n) 0

/-- The place of a sweep that has issued so many products: the cycle at which the last of them is done. -/
def sweptAt (wins : List (Nat × Nat)) (products : Nat) : Nat := passed wins 2048 (2 * ((products + 127) / 128))

/-- The words of an element's tap range and ring that its tails read and that the read writes back, each of which holds
the sweep up for 4 ROOT cycles (R247, R560). -/
def State.tailStalls (s : State) (p : Nat) (el : Elem) : Nat :=
  if el.taps < 2 then 0
  else
    ((List.range ((el.taps - 1) / 2 + 1)).countP fun i => (s.peek (tapAddr p el el.bank 0 + 8 * i)).stall) +
      (List.range (el.taps / 2)).countP fun (i : Nat) => (s.peek (ringAddr p el (s.sampleIdx 0 - 2 * ((i : Nat) + 1)))).stall

/-- The elements of one entry (R245): the products issued so far go in and come out. An element whose tail would be
complete only after the entry's START is abandoned there, with all that follow it in the entry (R256); an element
without a tail is complete from the start, an inert one (R260) is left out. -/
def sweepEntry (p : Nat) (wins : List (Nat × Nat)) (start : Nat) : List Nat → Nat → State → Nat × State
  | [], n, s => (n, s)
  | e :: l, n, s =>
    let (r, s) := readElem p e s
    let m := r.1.mTail s.samples
    if r.2 then sweepEntry p wins start l n s
    else if m = 0 then sweepEntry p wins start l n (sweepElem p e r.1 0 s)
    else
      let n' := n + m + 256 * s.tailStalls p r.1
      let c := sweptAt wins n'
      if c ≤ start then sweepEntry p wins start l n' (noteSlack p (start - c) (sweepElem p e r.1 c s))
      else sweepEntry p wins start l (128 * (freeUntil wins start / 2)) (noteSlack p 0 s)

/-- The entries in order. -/
def sweepEntries (p : Nat) (wins : List (Nat × Nat)) : List Entry → Nat → State → Nat × State
  | [], n, s => (n, s)
  | e :: l, n, s =>
    let (n, s) := sweepEntry p wins (eStart e) (bruElems e) n s
    sweepEntries p wins l n s

/-- The tail sweep of a stroke over the entries of a polder that run in it (R245). -/
def State.sweep (p : Nat) (es : List Entry) (s : State) : State :=
  let wins := es.map fun e => (eStart e, s.headTime e)
  let (n, s) := sweepEntries p wins es 0 s
  s.setBru p { s.bru p with sweepEnd := sweptAt wins n }

/-- Write 16 words of a line block: the source words, then zeros (R235). -/
def writeLine (p : Nat) (el : Elem) (words : List (Word × Bool)) (s : State) : State :=
  if el.llen = 0 then s
  else writeBeats (lineAddr p el (s.tim.strk.toNat % el.llen))
    (words ++ List.replicate (16 - words.length) (0, false)) s

/-- Write v of the stroke into the ring, whole 64-bit words (R233, R258). -/
def writeRing (p : Nat) (el : Elem) (vs : List (Word × Bool)) (s : State) : State :=
  if el.taps = 0 then s else ringPairs p el vs (s.sampleIdx 0) s
where
  ringPairs (p : Nat) (el : Elem) : List (Word × Bool) → Int → State → State
    | x :: y :: l, m, s => ringPairs p el l (m + 2) (writeBeats (ringAddr p el m) [x, y] s)
    | _, _, s => s

/-- v of the stroke from the source words (R233, R236). -/
def interps (p : Nat) (el : Elem) : List (Word × Bool) → Nat → State → List (Word × Bool) × State
  | [], _, s => ([], s)
  | x :: xs, k, s =>
    let (v, s) := interp p el x (s.sampleIdx k) s
    let (l, s) := interps p el xs (k + 1) s
    (v :: l, s)

/-- Output sample `k` from its tail and the v of the stroke (R233). -/
def headSample (p : Nat) (el : Elem) (vs : List (Word × Bool)) (k : Nat) (tail : Acc) (s : State) : (Word × Bool) × State :=
  if el.taps = 0 then (vs.getD k (0, false), s)
  else
    let i0 := if k ≤ el.taps - 1 then k else el.taps - 1
    let (a, s) := firTerms p el (fun i s => (vs.getD (k - i) (0, false), s)) 0 (i0 + 1) i0 tail s
    r32 p a s

/-- The output samples from position `k` on. -/
def headFrom (p : Nat) (el : Elem) (tails : List Acc) (vs : List (Word × Bool)) : Nat → Nat → State → List (Word × Bool) × State
  | 0, _, s => ([], s)
  | n + 1, k, s =>
    let (y, s) := headSample p el vs k (tails.getD k {}) s
    let (l, s) := headFrom p el tails vs n (k + 1) s
    (y :: l, s)

/-- Store STALE_RUN in the descriptor (R255). -/
def setStaleRun (p e n : Nat) (s : State) : State :=
  s.writeWord32 (elemAddr p e + 0x20) (BitVec.ofNat 32 (n % 2 ^ 19)) false

/-- An element writes its output block; each written STALE is counted (R255). -/
def bruWrite (p : Nat) (el : Elem) (words : List (Word × Bool)) (stale : Bool) (s : State) : State :=
  let s := if stale then (s.bump (CTR_BRU_STALE_CNT p)).mark (EVT_BRU_STALE_OUT p) else s
  s.writeBlock s.curCopy el.dst (16 + p) words stale

/-- The head of one element in an entry (R233, R255, R256, R260). -/
def bruHead (p e : Nat) (en : Entry) (tainted : Bool) (s : State) : State :=
  let (r, s) := readElem p e s
  let el := r.1
  let zeros := List.replicate s.samples ((0 : Word), false)
  if r.2 then bruWrite p el zeros true s
  else
    let (blk, s) := s.readSource (eChained en) el.src
    let reach := el.reach s.samples
    let s := writeLine p el blk.words s
    let (vs, s) := interps p el blk.words 0 s
    let s := writeRing p el vs s
    match s.tail p e with
    | some t =>
      let run := if blk.stale then reach + 1 else el.run
      let (ys, s) := headFrom p el t.vals vs s.samples 0 s
      let s := if run - 1 = el.run then s else setStaleRun p e (run - 1) s
      bruWrite p el ys (decide (0 < run) || tainted) s
    | none =>
      -- a late tail (R256)
      let s := setStaleRun p e reach s
      let s := (s.bump (CTR_BRU_LATE_CNT p)).mark (EVT_BRU_LATE p)
      bruWrite p el zeros true (noteSlack p 0 s)

/-- The first `limit` heads of a BRU entry, in element order. -/
def bruPass (e : Entry) (tainted : Bool) (limit : Nat) (s : State) : State :=
  each ((bruElems e).take limit) (fun i s => bruHead (ePolder e) i e tainted s) s

/-- The output slots of a BRU entry (R176). -/
def State.bruSlots (s : State) (e : Entry) : List Nat :=
  (bruElems e).map fun i => (s.elem (ePolder e) i).dst

/-- What the cut leaves of an element whose head did not run: zeros in its line and ring, STALE_RUN (R257). Of one whose
descriptor cannot be read nothing is known (R260). -/
def cutElem (p e : Nat) (s : State) : State :=
  let (r, s) := readElem p e s
  let zeros := List.replicate s.samples ((0 : Word), false)
  if r.2 then s else setStaleRun p e (r.1.reach s.samples + 1) (writeRing p r.1 zeros (writeLine p r.1 zeros s))

/-- Whether the bank a coefficient word lies in is live for an element whose range covers it (R242). The live
banks are those of the stroke that is ending. -/
def State.coefLive (s : State) (a : Nat) : Bool :=
  let o := foldPolder a
  let p := polderOf a
  let bank := if 0x13C00000 ≤ o then 1 else 0
  (List.range 512).any fun e =>
    let el := s.elem p e
    let lo := tapAddr 0 el bank 0
    decide (el.taps ≠ 0) && decide (lo ≤ o) && decide (o < lo + 4 * el.taps)
      && (decide (bank = 1) == s.bruLive.contains (512 * p + e))

end Sys2Proof.Machine
end

