-- ==== Sys2Proof/Machine/Ink.lean ====
section
/-! DEFINITION. The inkstone: its rows, the gain-step state machine, one pass (spec/06_inkstone_mixing.md). -/

namespace Sys2Proof.Machine

/-- The address of row `r` of PLD[p] (R194). -/
def rowAddr (p r : Nat) : Nat := 0x13200000 + 0x4000000 * p + 16 * r

/-- Word 0 of a row: DST, SRC, PROFILE, SFMT (R195). -/
def rowSrc (w : Word64) : Nat := w.toNat % 16384
def rowDst (w : Word64) : Nat := w.toNat / 2 ^ 16 % 16384
def rowSfmt (w : Word64) : Bool := bitOf w 34
def rowProfile (w : Word64) : Nat := w.toNat / 2 ^ 36 % 16

/-- Word 1 of a row by its fields (R195). -/
structure RowState where
  mute : Bool
  target : BitVec 16
  armed : Bool
  dir : Bool
  prev : BitVec 2
  tcnt : Nat
  cur : BitVec 16
  deriving DecidableEq, Repr

def rowState (w : Word64) : RowState :=
  ⟨bitOf w 16, w.extractLsb' 0 16, bitOf w 63, bitOf w 62, w.extractLsb' 60 2, w.toNat / 2 ^ 48 % 2048, w.extractLsb' 32 16⟩

def RowState.word (r : RowState) : Word64 :=
  BitVec.ofNat 64 (r.target.toNat + 2 ^ 16 * b2n r.mute + 2 ^ 32 * r.cur.toNat + 2 ^ 48 * (r.tcnt % 2048) + 2 ^ 60 * r.prev.toNat
    + 2 ^ 62 * b2n r.dir + 2 ^ 63 * b2n r.armed)

/-- A TARGET as it is stored: below −5,760 OFF, above +1,536 that limit, with EVT_INK_CLAMP (R210). -/
def storedTarget (t : BitVec 16) : BitVec 16 × Bool :=
  if t.toInt < -5760 then (codeOff, false) else if 1536 < t.toInt then (1536, true) else (t, false)

/-- The effective target (R210). -/
def RowState.eff (r : RowState) : BitVec 16 := if r.mute then codeOff else r.target

/-- up(c, e) (R212). -/
def levelUp (c e : BitVec 16) : Bool := c == codeOff || (e != codeOff && decide (c.toInt < e.toInt))

/-- next(c, e) with a step of `s` codes (R215). -/
def levelNext (c e : BitVec 16) (s : Nat) : BitVec 16 :=
  let f : Int := -5760
  if levelUp c e then
    if c = codeOff then (if e.toInt ≤ f then e else BitVec.ofInt 16 f)
    else BitVec.ofInt 16 (min (c.toInt + s) e.toInt)
  else if e = codeOff ∧ c.toInt = f then codeOff
  else BitVec.ofInt 16 (max (c.toInt - s) (if e = codeOff then f else e.toInt))

/-- The phase 4 update of a row that runs in the stroke (R212). -/
def RowState.decide4 (r : RowState) : RowState :=
  if r.cur = r.eff then { r with armed := false }
  else if r.armed && r.dir == levelUp r.cur r.eff then r
  else { r with armed := true, dir := levelUp r.cur r.eff, tcnt := 0 }

/-- One sample examined (R213, R214): `z` zero, `neg` negative, `psn` poisoned; step size and timeout from the
profile. -/
def RowState.examine (r : RowState) (z neg psn : Bool) (step tmo : Nat) : RowState :=
  let cross := !psn && (z || (r.prev == 1 && neg) || (r.prev == 2 && !neg))
  let prev : BitVec 2 := if psn then r.prev else if z then 0 else if neg then 2 else 1
  if r.armed then
    let t := r.tcnt + 1
    if cross || Nat.ble tmo t then
      let c := levelNext r.cur r.eff step
      { r with prev := prev, cur := c, tcnt := 0, armed := c != r.eff }
    else { r with prev := prev, tcnt := t }
  else { r with prev := prev }

/-- Step size in codes and timeout in samples of a row's profile (R211). -/
def State.profile (s : State) (p i : Nat) : Nat × Nat :=
  let w := s.reg (INK_PROFILE p i)
  (8 * (bits w 11 9 + 1), 8 * (bits w 6 0 + 1))

/-- What one row does to one sample position: the row's state after it, the accumulator, how many samples were
replaced. -/
structure RowStep where
  st : RowState
  acc : Acc
  nonfinite : Nat
  anyOn : Bool
  deriving DecidableEq, Repr

/-- One row at one sample (R202, R205, R206, R213, R214, R220). -/
def rowSample (sfmt : Bool) (step tmo : Nat) (st : RowState) (x : Word × Bool) (acc : Acc) : RowStep :=
  let (v, repl) := enter sfmt x.1
  let st := st.examine (v.mant == 0) v.neg x.2 step tmo
  if st.cur = codeOff then ⟨st, acc, 0, false⟩
  else ⟨st, acc.mulAdd v (gain st.cur) x.2, b2n repl, true⟩

/-- One row over the samples of a block, in time order; the last result says whether any sample had a level. -/
def rowBlock (sfmt : Bool) (step tmo : Nat) :
    RowState → List (Word × Bool) → List Acc → RowState × List Acc × Nat × Bool
  | st, x :: xs, a :: as =>
    let r := rowSample sfmt step tmo st x a
    let (st', as', n, on) := rowBlock sfmt step tmo r.st xs as
    (st', r.acc :: as', r.nonfinite + n, r.anyOn || on)
  | st, _, as => (st, as, 0, false)

/-- The bus an inkstone pass has open: its slot, accumulators, whole-bus poison, STALE; and whether a poisoned
word 0 waits for the next bus to open (R199, R223, R224). -/
structure InkBus where
  dst : Option Nat := none
  accs : List Acc := []
  psn : Bool := false
  stale : Bool := false
  wait : Bool := false
  deriving DecidableEq, Repr

/-- Saturations are counted (R205, R207). -/
def State.inkSats (p n : Nat) (s : State) : State := if n = 0 then s else (s.bumpBy (CTR_INK_SAT_CNT p) n).mark (EVT_INK_SAT p)

/-- A bus is written with STALE (R222); one that carries the flag already has been counted. -/
def State.countStaleBus (p d : Nat) (s : State) : State :=
  if (s.slot s.curCopy d).stale then s else (s.bump (CTR_INK_STALE_CNT p)).mark (EVT_INK_STALE_BUS p)

/-- Write the open bus as its slot and close it (R199, R207, R220, R222). -/
def closeBus (p : Nat) (tainted : Bool) (b : InkBus) (s : State) : State :=
  match b.dst with
  | none => s
  | some d =>
    let outs := b.accs.map fun a => ((wideToF32 a.d).1, a.psn || b.psn)
    let s := s.inkSats p (b.accs.foldl (fun n a => n + b2n (wideToF32 a.d).2) 0)
    let stale := b.stale || tainted
    let s := if stale then s.countStaleBus p d else s
    s.writeBlock s.curCopy d (12 + p) outs stale

/-- Keep the STATE a row had after the previous stroke's last sample, for reads of it (R227). -/
def State.keepRow (a : Nat) (w : Word64) (s : State) : State :=
  if (s.inkPrev.find? fun e => e.1 == a).isSome then s
  else s.withInkPrev (SMap.insert s.inkPrev a (BitVec.ofNat 32 (w.toNat / 2 ^ 32)))

/-- One row of a pass (R199, R222 to R224). Whether an OFF row passes STALE goes by ARMED as phase 4 left it, before the
first sample (DESIGN CHOICE: R221 does not say at which instant). -/
def inkRow (p : Nat) (e : Entry) (tainted : Bool) (r : Nat) (bs : InkBus × State) : InkBus × State :=
  let (b, s) := bs
  let a := rowAddr p r
  let (w0, s) := s.readWord a
  if w0.psn then
    let s := s.mark (EVT_INK_POISON_ROW p)
    (if b.dst.isSome then { b with psn := true } else { b with wait := true }, s)
  else
    let d := rowDst w0.w
    let (b, s) :=
      if b.dst = some d then (b, s)
      else
        let s := closeBus p tainted b s
        ({ dst := some d, accs := List.replicate s.samples {}, psn := b.wait }, s)
    let (w1, s) := s.readWord (a + 8)
    if w1.psn then
      let s := (s.mark (EVT_INK_POISON_ROW p)).keepRow a w1.w
      ({ b with psn := true }, s.writeWord (a + 8) 0x0000800000008000 255 false)
    else
      let st := rowState w1.w
      let (blk, s) := s.readSource (eChained e) (rowSrc w0.w)
      let (step, tmo) := s.profile p (rowProfile w0.w)
      let (st', accs, nf, on) := rowBlock (rowSfmt w0.w) step tmo st blk.words b.accs
      let (sats, accs) := takeSats accs
      let s := s.inkSats p sats
      let s := if nf = 0 then s else (s.bumpBy (CTR_INK_NONFINITE_CNT p) nf).mark (EVT_INK_NONFINITE p)
      let s := if st'.word = w1.w then s else (s.keepRow a w1.w).writeWord (a + 8) st'.word 255 false
      ({ b with accs := accs, stale := b.stale || (blk.stale && (on || st.armed)) }, s)

/-- An inkstone pass over the first `limit` rows of an entry; a pass that reaches the entry's end writes the
last bus (R199). -/
def inkPass (e : Entry) (tainted : Bool) (limit : Nat) (s : State) : State :=
  let p := ePolder e
  let n := Nat.min limit (eCount e)
  let (b, s) := (List.range n).foldl (fun bs i => inkRow p e tainted (eFirst e + i) bs) (({} : InkBus), s)
  if eCount e ≤ limit then closeBus p tainted b s else s

/-- The bus slots an INK entry writes, of the rows whose word 0 can be read (R176, R224). -/
def State.inkSlots (s : State) (e : Entry) : List Nat :=
  (((List.range (eCount e)).map fun i => s.peek (rowAddr (ePolder e) (eFirst e + i))).filter fun (r : MemRes) => !r.psn).map (fun r => rowDst r.w)
    |>.eraseDups

/-- Phase 4 for one row (R212); a row whose word 1 cannot be read keeps it for the pass to repair. -/
def inkDecide (p r : Nat) (s : State) : State :=
  let a := rowAddr p r
  let (w1, s) := s.readWord (a + 8)
  if w1.psn then s
  else
    let st := (rowState w1.w).decide4
    if st.word = w1.w then s else (s.keepRow a w1.w).writeWord (a + 8) st.word 255 false

/-- The rows of a polder with ARMED = 1 (INK_ARMED): bit 31 of STATE is bit 7 of a row's last byte. -/
def State.inkArmed (s : State) (p : Nat) : Nat :=
  s.mem.countP fun c => decide (rowAddr p 0 ≤ c.1) && decide (c.1 < rowAddr p 16384) && decide (c.1 % 16 = 15)
    && bitOf c.2 7

end Sys2Proof.Machine
end

