-- ==== Sys2Proof/Machine/Tables.lean ====
section
/-! DEFINITION. The crosspoint rows and the element descriptors as tables of words: what each word takes when a
folio loads it and when a change is applied to it (R195, R196, R210, R216, R226, R229, R230, R238). -/

namespace Sys2Proof.Machine

def isRowWord (a : Nat) : Bool := decide (0x13200000 ≤ foldPolder a) && decide (foldPolder a < 0x13240000)
def isElemWord (a : Nat) : Bool := decide (0x13310000 ≤ foldPolder a) && decide (foldPolder a < 0x13318000)

/-- Whether an address lies in a crosspoint row or in a descriptor. -/
def isTable (a : Nat) : Bool := isRowWord a || isElemWord a

/-- The writable words of the two tables: LEVEL of a row, BANK and DELAY of an element; the others are RO (R195,
R229). -/
def tableRw (a : Nat) : Bool :=
  (isRowWord a && decide (a % 16 = 8)) || (isElemWord a && (decide (a % 64 = 0x14) || decide (a % 64 = 0x18)))

/-- A LEVEL word as it is stored: TARGET within its range, MUTE (R210). -/
def State.levelWord (p : Nat) (w : Word) (s : State) : Word × State :=
  let (t, hit) := storedTarget (BitVec.ofNat 16 w.toNat)
  (BitVec.ofNat 32 (2 ^ 16 * (b2n (bitOf w 16)) + t.toNat), if hit then s.mark (EVT_INK_CLAMP p) else s)

/-- A DELAY word as it is stored: the delay in force (R238). -/
def State.delayWord (a : Nat) (w : Word) (s : State) : Word × State :=
  let p := polderOf a
  let el := s.elem p (foldPolder a / 64 % 512)
  let (d, hit) := clampDelay el.llen s.samples (w.toNat % 2 ^ 28)
  (BitVec.ofNat 32 d, if hit then s.mark (EVT_BRU_CLAMP p) else s)

/-- What a word takes for a changed value: of a table only its writable words change. -/
def State.tableWord (a : Nat) (old new : Word) (s : State) : Word × State :=
  if isTable a = false then (new, s)
  else if tableRw a = false then (old, s)
  else if isRowWord a then s.levelWord (polderOf a) new
  else if a % 64 = 0x14 then (new &&& 1, s)
  else s.delayWord a new

/-- The bits of a table word that are not reserved (R195, R229); of a row's STATE the image gives CURRENT only, the
rest starts at 0 (R216); LPOS follows from the stroke. -/
def tableMask (a : Nat) : Word :=
  if isRowWord a then
    match a % 16 with
    | 0 => 0x3FFF3FFF
    | 4 => 0xF4
    | _ => 0xFFFF
  else
    match a % 64 with
    | 0 => 0x7FFF3FFF
    | 4 => 0xFFF9FFFF
    | 8 => 0xFFFF01FF
    | 0xC => 0x8003FFFF
    | 0x10 => 0x3FFFF
    | 0x14 => 1
    | 0x20 => 0x7FFFF
    | _ => 0

/-- What a word takes from the folio image: a table word by its fields (R210, R216, R238), any other as it is. -/
def State.tableLoad (a : Nat) (w : Word) (s : State) : Word × State :=
  if isTable a = false then (w, s)
  else if isRowWord a ∧ a % 16 = 8 then s.levelWord (polderOf a) w
  else if isElemWord a ∧ a % 64 = 0x18 then s.delayWord a w
  else (w &&& tableMask a, s)

/-- One word as the folio image gives it: a register takes its fields within their ranges (R9, R74). -/
def State.loadWord (a : Nat) (w : Word) (s : State) : State :=
  if (groupOf a).isSome then
    let (w, s) := s.tableLoad a w
    s.writeWord32 a w false
  else
    match regRow a with
    | some r => s.setReg a (clampWord a w &&& BitVec.ofNat 32 r.mask)
    | none => s

/-- Both halves of a 64-bit SRAM word, as one full write, which ends its poison (R563). -/
def State.loadPair (a : Nat) (lo hi : Word) (s : State) : State :=
  let (lo, s) := s.tableLoad a lo
  let (hi, s) := s.tableLoad (a + 4) hi
  s.writeWord a (joinWords 64 hi lo) 255 false

/-- Words as the folio image gives them, in order; halves that follow each other go in one write. -/
def State.imageWords : List (Nat × Word) → State → State
  | [], s => s
  | [x], s => s.loadWord x.1 x.2
  | x :: y :: l, s =>
    if (groupOf x.1).isSome ∧ wordLen x.1 = 8 ∧ x.1 % 8 = 0 ∧ y.1 = x.1 + 4 then State.imageWords l (s.loadPair x.1 x.2 y.2)
    else State.imageWords (y :: l) (s.loadWord x.1 x.2)

end Sys2Proof.Machine
end

