-- ==== Sys2Proof/Machine/Relief.lean ====
section
/-! DEFINITION. Relief nibs, rotation, the lost set, reduced rulings (spec/05_ruling.md R179 to R190), cofferdams
(R524, R525) and retirement (R663 to R665). -/

namespace Sys2Proof.Machine

def relPreparing : Nat := 1
def relCarrying : Nat := 2
def relLost : Nat := 3

def State.relState (s : State) (x : Nat) : Nat := s.fld (RUL_RELIEF x) RUL_RELIEF_STATE
def State.setRelState (x v : Nat) (s : State) : State := s.setFld (RUL_RELIEF x) RUL_RELIEF_STATE v
def State.relPerm (s : State) (x : Nat) : Bool := s.on (RUL_RELIEF x) RUL_RELIEF_PERM

def State.move (s : State) (x : Nat) : Option ReliefMove := SMap.get (fun _ => none) s.rul.moves x
def State.setMove (x : Nat) (m : Option ReliefMove) (s : State) : State :=
  s.withRul { s.rul with moves := SMap.set (fun _ => none) s.rul.moves x m }

/-- The home nib `h` of a quire as an active nib, and the quire's relief nib. -/
def homeNib (x : Fin 16) (h : Fin 16) : Fin 272 := ⟨16 * x.val + h.val, by omega⟩
def reliefNib (x : Fin 16) : Fin 272 := ⟨256 + x.val, by omega⟩

/-- The quire of a nib. -/
def nibQuire (n : Fin 272) : Fin 16 := if h : n.val < 256 then ⟨n.val / 16, by omega⟩ else ⟨n.val - 256, by omega⟩

/-- The entries of the active ruling on an active nib. -/
def State.nibEntries (s : State) (n : Nat) : List Entry := s.entries.filter fun e => eType e == 1 && eUnit e == n

/-- Whether the domain of a nib, quire or polder has been closed for good (R524, R664). -/
def State.deadNib (s : State) (n : Fin 272) : Bool := (s.dom (domKey (.nib n))).dead
def State.deadQuire (s : State) (x : Fin 16) : Bool := (s.dom (domKey (.qre x))).dead
def State.deadPolder (s : State) (p : Fin 4) : Bool := (s.dom (domKey (.pld p))).dead

/-! ### The lost set (R187 to R189) -/

/-- Whether a quire lies in X. -/
def State.lostQuire (s : State) (x : Nat) : Bool := bitOf (s.reg RUL_LOST) x

/-- The quire in whose memories an address lies. -/
def quireOfAddr (a : Nat) : Option Nat :=
  match domOf a with
  | some (.qre x) => some x.val
  | some (.nib n) => some (nibQuire n).val
  | _ => none

/-- Whether a whole polder lies in X. -/
def State.lostPolder (s : State) (p : Nat) : Bool := (List.range 4).all fun q => s.lostQuire (4 * p + q)

/-- Whether an address lies in a quire or polder in X. -/
def State.lostAddr (s : State) (a : Nat) : Bool :=
  match quireOfAddr a with
  | some x => s.lostQuire x
  | none => decide (0x10000000 ≤ a) && decide (a < 0x20000000) && s.lostPolder (polderOf a)

/-- Whether the entries of an active nib have no nib: the relief nib that carried them is lost and they have not
gone home (R186). -/
def State.homeless (s : State) (n : Nat) : Bool :=
  match s.move (n / 16) with
  | some m => decide (s.relState (n / 16) = relLost) && m.back && m.home.val == n % 16
  | none => false

/-- Whether an entry of the active ruling does not run: an entry in X (R188), an entry of a cofferdammed or retired
nib whose slices have not moved (R182), an entry of a unit that is cofferdammed (R175). -/
def State.suppressed (s : State) (e : Entry) : Bool :=
  match eType e with
  | 1 =>
    let n := s.runsOn (eUnit e)
    s.homeless (eUnit e) || s.lostQuire (eUnit e / 16) || (s.dom (26 + n)).dead || (s.dom (10 + eUnit e / 16)).dead || (s.dom (6 + eUnit e / 64)).dead
  | 2 =>
    s.lostPolder (ePolder e) || (s.dom (6 + ePolder e)).dead || s.lostAddr (eSrc e) || s.lostAddr (eDst e)
  | 3 => s.lostPolder (ePolder e) || (s.dom (6 + ePolder e)).dead
  | 4 => s.lostPolder (ePolder e) || (s.dom (6 + ePolder e)).dead
  | _ => false

/-- The slate slots in an entry's write range (R176). -/
def State.entrySlots (s : State) (e : Entry) : List Nat :=
  match eType e with
  | 2 => sluSlots e
  | 3 => s.inkSlots e
  | 4 => s.bruSlots e
  | _ => []

/-- The buses of a tainted INK entry are written STALE (R222); those of a polder without power count nothing. -/
def State.countBuses (e : Entry) (s : State) : State :=
  if eType e = 3 ∧ s.isOpen (6 + ePolder e) then each (s.inkSlots e) (fun d s => s.countStaleBus (ePolder e) d) s else s

/-- An entry is tainted, and its slot copies are STALE (R175, R176). -/
def State.taintNow (i : Nat) (e : Entry) (s : State) : State := ((s.taintEntry i).countBuses e).staleSlots (s.entrySlots e)

/-- Taint that has come up late in a stroke passes on to the dependents that have started (R175): a dependency has
the lower index, so one pass in index order reaches all. -/
def State.spreadTaint (s : State) : State :=
  each s.entries.zipIdx (fun x s =>
    if (s.entrySt x.2).started && !(s.entrySt x.2).tainted && s.depTainted x.1 then s.taintNow x.2 x.1 else s) s

/-- Taint every entry that a test selects and that has started in this stroke, and what depends on it. -/
def State.taintStarted (f : Entry → Bool) (s : State) : State :=
  (each ((s.entries.zipIdx).filter fun (x : Entry × Nat) => f x.1 && (s.entrySt x.2).started) (fun x s => s.taintNow x.2 x.1) s).spreadTaint

/-- The cut of an SLU entry's channel: a write burst that its destination has accepted in part ends early (R522,
R523). -/
def State.cutSlu (done : Nat) (e : Entry) (s : State) : State :=
  let s := s.setSluState (eChan e) sluCut
  if done ≠ 0 ∧ done < 8 * eLen e ∧ (eDst e / 8 + done) % 8 ≠ 0 then s.earlyEnd (1 + ePolder e) (eDst e + 8 * done) else s

/-- What stopping an entry stops on its unit (R174, R257). -/
def State.cutUnit (idx : Nat) (e : Entry) (s : State) : State :=
  match eType e with
  | 1 => if (s.nib (s.runsOn (eUnit e))).run then s.endSlice (s.runsOn (eUnit e)) 2 else s
  | 2 => s.cutSlu (s.entrySt idx).done e
  | 4 => each ((bruElems e).drop (s.entrySt idx).done) (fun x s => cutElem (ePolder e) x s) s
  | _ => s

/-- An entry stops before its end: it runs no more and is tainted. -/
def State.stopEntry (i : Nat) (e : Entry) (s : State) : State :=
  let s := s.cutUnit i e
  (s.setEntrySt i { s.entrySt i with running := false }).taintNow i e

/-- Stop every running entry that a test selects, and taint what depends on it. -/
def State.stopRunning (f : Entry → Bool) (s : State) : State :=
  (each ((s.entries.zipIdx).filter fun (x : Entry × Nat) => f x.1 && (s.entrySt x.2).running) (fun x s => s.stopEntry x.2 x.1) s).spreadTaint

/-- A quire joins X (R187): the entries in X that run stop there (R188). -/
def State.joinX (x : Nat) (s : State) : State :=
  let s := s.setRegBit RUL_LOST x true
  s.stopRunning s.suppressed

/-! ### The choice of a reduced ruling (R188, R189) -/

def reg16 (w : Word) : BitVec 16 := BitVec.ofNat 16 w.toNat

/-- The quires that the active ruling excludes. -/
def State.activeExcl (s : State) : BitVec 16 :=
  match s.ruling with
  | some r => rulExcl r
  | none => 0

/-- The lowest-index reduced ruling whose exclusions cover a set of quires. -/
def State.covering (s : State) (x : BitVec 16) : Option Nat :=
  (((List.range 5).drop 1).filterMap fun i => s.rul.rulings.find? fun r => rulIndex r == i).findSome? fun r =>
    if x &&& ~~~ rulExcl r = 0 then some (rulIndex r) else none

/-- Retirements that wait for a ruling wait for the next entry to LOAD instead (R664 step 4). -/
def State.retireDefer (s : State) : State :=
  if s.rul.retire = [] then s else (s.withRul { s.rul with retire := [] }).setFld FB_RETIRED FB_RETIRED_DEFER 1

/-- The ruling chosen is chosen no longer. -/
def State.unchoose (s : State) : State := s.withRul { s.rul with chosen := none, prepared := false, commit := false }

/-- No reduced ruling covers: the current ruling stays active, with PARTIAL and EVT_RUL_NOCOVER (R189). -/
def State.noCover (s : State) : State :=
  let s := s.retireDefer.unchoose
  ((s.withRul { s.rul with cause := true }).setFld RUL_ACTIVE RUL_ACTIVE_PARTIAL 1).mark EVT_RUL_NOCOVER

/-- The active nibs with entries in a ruling. -/
def rulNibs (r : Ruling) : List Nat := (((rulEntries r).filter fun e => eType e == 1).map eUnit).eraseDups

/-- The nibs that a ruling newly gives entries: the scribe prepares them before the change (R188). -/
def State.newNibs (s : State) (i : Nat) : List Nat :=
  match s.rul.rulings.find? fun r => rulIndex r == i with
  | some r => (rulNibs r).filter fun n => (s.nibEntries n).isEmpty
  | none => []

/-- A ruling is chosen; where it gives no nib new entries there is nothing to prepare. -/
def State.choose (i : Nat) (s : State) : State :=
  if s.rul.chosen = some i then s
  else s.withRul { s.rul with chosen := some i, prepared := (s.newNibs i).isEmpty, commit := false }

/-- The quires of the nibs whose retirement waits for a ruling (R664 step 3). -/
def State.retireQuires (s : State) : BitVec 16 := s.rul.retire.foldl (fun acc n => acc ||| BitVec.ofNat 16 (2 ^ (nibQuire n).val)) 0

/-- The selection when X has grown (R188): nothing when the active ruling already excludes all of X. A ruling that
covers X but not the quires of waiting retirements defers these. -/
def State.selectReduced (s : State) : State :=
  let x := reg16 (s.reg RUL_LOST)
  let grown : Bool := decide (x &&& ~~~ s.activeExcl ≠ 0)
  if grown = false ∧ s.rul.retire = [] then s
  else
    match s.covering ((x ||| s.activeExcl) ||| s.retireQuires) with
    | some i => s.choose i
    | none =>
      if grown then
        match s.covering (x ||| s.activeExcl) with
        | some i => s.retireDefer.choose i
        | none => s.noCover
      else s.retireDefer.unchoose

/-- The LOST fields and the index of a ruling become active (R163, R190). -/
def State.activateRuling (i : Nat) (s : State) : State :=
  let s := (s.setFld RUL_ACTIVE RUL_ACTIVE_INDEX i).setFld RUL_ACTIVE RUL_ACTIVE_PARTIAL 0
  match s.ruling with
  | some r => (s.setReg RUL_LOSS (BitVec.ofNat 32 (r.h2.toNat % 2 ^ 24))).setReg RUL_LOSS_ELEM (BitVec.ofNat 32 (r.h3.toNat % 4096))
  | none => (s.setReg RUL_LOSS 0).setReg RUL_LOSS_ELEM 0

/-! ### Moves to and from the relief nib (R180 to R186) -/

/-- Whether a quire's relief nib can take a home nib's entries: powered, not lost, carrying and preparing nothing. -/
def State.reliefFree (s : State) (x : Fin 16) : Bool :=
  decide (s.relState x.val = 0) && (s.move x.val).isNone && (s.dom (domKey (.nib (reliefNib x)))).on && !s.deadNib (reliefNib x)

/-- The preparation of a move to the relief nib begins. -/
def State.beginMove (x : Fin 16) (h : Fin 16) (rotation retire : Bool) (s : State) : State :=
  (s.setRelState x.val relPreparing).setMove x.val (some { home := h, rotation := rotation, retire := retire })

/-- The rotated entries go home, and then another nib's entries move (R186): a step still preparing is dropped. -/
def State.endRotation (x : Fin 16) (m : ReliefMove) (next : Option (Fin 16 × Bool)) (s : State) : State :=
  let s := s.withMf { s.mf with tests := s.mf.tests.filter fun t => t != TestRun.rotation x (⟨16 * x.val + m.home.val, by omega⟩) }
  if s.relState x.val = relCarrying then
    s.setMove x.val (some { m with back := true, prepared := m.back && m.prepared, commit := m.back && m.commit, next := next })
  else
    match next with
    | some (h, r) => s.beginMove x h false r
    | none => (s.setRelState x.val 0).setMove x.val none

/-- An active nib's entries need the relief nib (R180, R183, R186): `false` when none is available. -/
def State.needRelief (x : Fin 16) (h : Fin 16) (retire : Bool) (s : State) : Bool × State :=
  if s.reliefFree x then (true, s.beginMove x h false retire)
  else if s.relState x.val = relLost ∨ s.deadNib (reliefNib x) then (false, s)
  else
    match s.move x.val with
    | some m =>
      if m.rotation ∧ m.next.isNone then (true, s.endRotation x m (some (h, retire))) else (false, s)
    | none =>
      if s.relState x.val = relCarrying ∧ s.relPerm x.val = false then
        (true, s.endRotation x { home := Fin.ofNat 16 (s.fld (RUL_RELIEF x.val) RUL_RELIEF_HOME), rotation := true } (some (h, retire)))
      else (false, s)

/-- Steps 3 and 4 of R664: a reduced ruling that also leaves out the quire is prepared, or the retirement is
deferred. -/
def State.retireByRuling (n : Fin 272) (s : State) : State :=
  let x := ((reg16 (s.reg RUL_LOST) ||| s.activeExcl) ||| s.retireQuires) ||| BitVec.ofNat 16 (2 ^ (nibQuire n).val)
  match s.covering x with
  | some i =>
    let s := s.withRul { s.rul with retire := s.rul.retire ++ [n] }
    s.choose i
  | none => s.setFld FB_RETIRED FB_RETIRED_DEFER 1

/-- No relief is left for an active nib: a nib due for retirement turns to the rulings (R664), a lost nib that holds
entries gives its quire up (R183, R187). -/
def State.noRelief (x : Fin 16) (h : Fin 16) (retire : Bool) (s : State) : State :=
  if retire then s.retireByRuling (homeNib x h)
  else if s.nibEntries (16 * x.val + h.val) = [] then s
  else s.joinX x.val

/-- As `noRelief` for the nib that waits behind a move, when there is one. -/
def State.noReliefNext (x : Fin 16) (next : Option (Fin 16 × Bool)) (s : State) : State :=
  match next with
  | some (h, r) => s.noRelief x h r
  | none => s

/-- An active nib is lost (R182, R183, R187). -/
def State.loseNib (n : Fin 272) (s : State) : State :=
  let x := nibQuire n
  if s.nibEntries n.val = [] then s
  else
    let (ok, s) := s.needRelief x (Fin.ofNat 16 n.val) false
    if ok then s else s.noRelief x (Fin.ofNat 16 n.val) false

/-- Drop the tests that a selection names. -/
def State.dropTests (f : TestRun → Bool) (s : State) : State := s.withMf { s.mf with tests := s.mf.tests.filter fun t => !f t }

/-- Whether a test is a rotation step of a quire. -/
def rotationOf (x : Fin 16) (t : TestRun) : Bool :=
  match t with
  | .rotation q _ => q == x
  | _ => false

/-- The way home of rotated entries whose relief nib is lost (R186): a preparation already under way goes on. -/
def State.goHome (x : Fin 16) (s : State) : State :=
  let h := Fin.ofNat 16 (s.fld (RUL_RELIEF x.val) RUL_RELIEF_HOME)
  match s.move x.val with
  | some m => s.setMove x.val (some { m with back := true, prepared := m.back && m.prepared, commit := m.back && m.commit, next := none })
  | none => s.setMove x.val (some { home := h, rotation := true, back := true })

/-- The relief nib is lost (R186): rotated entries that it carries go home, a move under preparation ends, and a
retired nib's entries have no nib left (R183). -/
def State.loseRelief (x : Fin 16) (s : State) : State :=
  let carrying := s.relState x.val = relCarrying
  let perm := s.relPerm x.val
  let m := s.move x.val
  let s := (s.dropTests (rotationOf x)).setRelState x.val relLost
  let s := if carrying ∧ perm = false then s.goHome x else s.setMove x.val none
  let s := if carrying ∧ perm then s.joinX x.val else s
  match m with
  | some m =>
    let s := if m.rotation then s else s.noRelief x m.home m.retire
    s.noReliefNext x m.next
  | none => s

/-! ### Nib images (R180, R615, R624) -/

/-- The nib images of a folio's sections. -/
def sectionImages (l : List FolioSection) : List NibImage := l.flatMap fun x => match x.body with | .nibs i => i | _ => []

/-- The image that the folio in hand gives a nib. -/
def State.nibImage (s : State) (n : Nat) : NibImage :=
  ((sectionImages s.boot.sections).reverse.find? fun i => i.nib.val == n).getD ⟨Fin.ofNat 272 n, [], [], [], []⟩

/-- Write words to successive addresses four bytes apart. -/
def loadWords (a : Nat) (l : List Word) (s : State) : State := each l.zipIdx (fun w s => s.writeWord (a + 4 * w.2) (w.1.setWidth 64) 15 false) s

/-- Write an image into the RAMs of a nib through its load port (R84). -/
def State.loadNib (n : Nat) (im : NibImage) (s : State) : State :=
  let b := nibWin n
  let s := (s.zeroMem b (b + 0x8000)).zeroMem (b + 0x10000) (b + 0x20000)
  loadWords (b + 0x10000) (im.data.take 16384) (loadWords b (im.prog.take 8192) s)

/-- The nib that a move prepares: the relief nib, or the home nib on the way back. -/
def ReliefMove.target (x : Fin 16) (m : ReliefMove) : Fin 272 := if m.back then homeNib x m.home else reliefNib x

/-- Preparation (R180 step 1): the images of the home nib are written into the nib that will carry the entries. -/
def State.prepare (x : Fin 16) (s : State) : State :=
  match s.move x.val with
  | some m =>
    if m.commit then s
    else (s.loadNib (m.target x).val (s.nibImage (16 * x.val + m.home.val))).setMove x.val (some { m with prepared := true })
  | none => s

/-- Preparation of a reduced ruling (R188): the nibs newly given entries start from their images. -/
def State.prepareReduced (s : State) : State :=
  match s.rul.chosen with
  | some i =>
    let s := each (s.newNibs i) (fun n s => if s.isOpen (26 + n) then s.loadNib n (s.nibImage n) else s) s
    s.withRul { s.rul with prepared := true }
  | none => s

/-- The scribe commits a prepared move for the next boundary (R180 step 2). -/
def State.commitMove (x : Fin 16) (s : State) : State :=
  match s.move x.val with
  | some m => if m.prepared then s.setMove x.val (some { m with commit := true }) else s
  | none => s

/-- Copy `n` data RAM words from one nib's window to another's with their poison marks (R180 step 3). -/
def copyRam (a b : Nat) : Nat → State → State
  | 0, s => s
  | n + 1, s =>
    let (r, s) := s.readWord a
    copyRam (a + 4) (b + 4) n (s.storeWord b r.w r.psn r.psn)

/-- Whether a nib's data RAM can be read in phase 1 (R181). -/
def State.ramReadable (s : State) (n : Fin 272) : Bool := s.isOpen (domKey (.nib n))

/-- The carried regions of a home nib's entries, as word offset and count in data RAM (R179). -/
def State.carried (s : State) (home : Nat) : List (Nat × Nat) :=
  ((s.nibEntries home).map fun e => (0x10000 + 16 * (eCarryBase e), eCarryLen e * 4)).eraseDups

/-- Copy the carried regions (R180 step 3); `false` when the source cannot be read (R181). -/
def State.carry (home : Nat) (a b : Fin 272) (s : State) : Bool × State :=
  if s.ramReadable a then
    (true, each (s.carried home) (fun r s => copyRam (nibWin a.val + r.1) (nibWin b.val + r.1) r.2 s) s)
  else (false, s)

/-- Counts of retired nibs and the quires that hold one (R673). -/
def State.countRetired (s : State) : State :=
  let l := s.fb.retired
  let q := (List.range 16).foldl (fun acc x => if l.any fun n => (if n < 256 then n / 16 else n - 256) == x then acc + 2 ^ x else acc) 0
  s.setReg FB_RETIRED (BitVec.ofNat 32 (2 ^ 16 * q + 2 ^ 15 * (s.fld FB_RETIRED FB_RETIRED_DEFER) + l.length))

/-- A nib is retired (R664): its gate closes, its domain goes down after the drain and stays down, the ledger's
record becomes retired. -/
def State.retireNow (n : Fin 272) (s : State) : State :=
  let x := nibQuire n
  let s := (s.closeGate (.nib n)).setDead (.nib n)
  let s := if n.val < 256 then s.setRegBit (RUL_RELIEF x.val) (n.val % 16) true else s
  let s := s.withFb { s.fb with retired := s.fb.retired ++ [n.val] }
  (s.ledgerAppend ledgerRetired (BitVec.ofNat 32 n.val)).countRetired

/-- A committed move takes effect in phase 1 (R180 steps 3 and 4, R664 step 1). -/
def State.reliefApply (x : Fin 16) (s : State) : State :=
  match s.move x.val with
  | none => s
  | some m =>
    if m.commit = false then s
    else
      let home := homeNib x m.home
      let rel := reliefNib x
      if m.back then
        let (warm, s) := s.carry home.val rel home
        let s := if s.relState x.val = relLost then s else s.setRelState x.val 0
        let s := s.setFld (RUL_RELIEF x.val) RUL_RELIEF_COLD (b2n (!warm))
        let s := if warm then s else s.withRul { s.rul with cause := true }
        let s := (s.setMove x.val none).mark EVT_RUL_RELIEF
        (match m.next with
         | some (h, r) => s.beginMove x h false r
         | none => s)
      else
        let (warm, s) := s.carry home.val home rel
        let s := (s.setRelState x.val relCarrying).setMove x.val none
        let s := s.setFld (RUL_RELIEF x.val) RUL_RELIEF_HOME m.home.val
        let s := s.setFld (RUL_RELIEF x.val) RUL_RELIEF_COLD (b2n (!warm))
        let s := if warm then s else s.withRul { s.rul with cause := true }
        let s := s.setFld (RUL_RELIEF x.val) RUL_RELIEF_PERM (b2n (!m.rotation))
        let s := (s.setReg (NIB_WARN_LEAD rel.val) (s.reg (NIB_WARN_LEAD home.val))).mark EVT_RUL_RELIEF
        let s := if m.rotation then s.withMf { s.mf with tests := s.mf.tests ++ [.rotation x ⟨16 * x.val + m.home.val, by omega⟩] } else s
        if m.retire then s.retireNow home else s

/-! ### Rotation (R184, R193) -/

/-- The next active nib of a quire in rotation order, skipping those out, and those with entries while the relief nib
cannot take them. -/
def State.rotNext (s : State) (x : Fin 16) : Option (Fin 16) :=
  let k := s.fld (RUL_RELIEF x.val) RUL_RELIEF_ROT_NEXT
  ((List.range 16).map fun i => Fin.ofNat 16 (k + i)).find? fun h =>
    !bitOf (s.reg (RUL_RELIEF x.val)) h.val && ((s.nibEntries (16 * x.val + h.val)).isEmpty || s.reliefFree x)

/-- Whether the last step of a quire began less than PERIOD seconds ago, 12,000 strokes each (R184, R193). -/
def State.stepEarly (s : State) (x : Fin 16) : Bool :=
  match SMap.get (fun _ => none) s.rul.stepAt x.val with
  | some t => decide ((s.tim.strk - t).toNat < 12000 * Nat.max 1 (s.fld RUL_ROT_CTL RUL_ROT_CTL_PERIOD))
  | none => false

/-- A rotation step of a quire begins (R184): a nib without entries is tested in place. -/
def State.rotate (x : Fin 16) (h : Fin 16) (s : State) : State :=
  if s.nibEntries (16 * x.val + h.val) = [] then
    s.withMf { s.mf with tests := s.mf.tests ++ [.inPlace (homeNib x h)] }
  else s.beginMove x h true false

/-- Whether a rotation step or a test is under way in a quire. -/
def State.rotating (s : State) (x : Fin 16) : Bool :=
  (match s.move x.val with
   | some m => m.rotation
   | none => s.relState x.val == relCarrying && !s.relPerm x.val) ||
  s.mf.tests.any fun t =>
    match t with
    | .inPlace n => nibQuire n == x
    | .rotation q _ => q == x
    | .full => false

/-- A rotation step begins (R184, R193); rotation in a quire has stopped for good after a failed test (R185) and with
its relief nib lost (R186). -/
def State.rotationStep (x : Fin 16) (s : State) : State :=
  if s.on RUL_ROT_CTL RUL_ROT_CTL_EN = false ∨ s.rulingRuns = false ∨ s.relState x.val = relLost ∨ s.rotating x ∨ s.stepEarly x ∨
      (s.dom (domKey (.qre x))).on = false ∨ s.rul.rotFail.contains x.val then s
  else
    match s.rotNext x with
    | none => s
    | some h =>
      let s := s.setFld (RUL_RELIEF x.val) RUL_RELIEF_ROT_NEXT ((h.val + 1) % 16)
      let s := s.withRul { s.rul with stepAt := SMap.set (fun _ => none) s.rul.stepAt x.val (some s.tim.strk) }
      s.rotate x h

/-! ### Cofferdams (R524, R525) -/

/-- Stop a nib whose gates have closed: its running slice ends and its entry is tainted. -/
def State.haltNib (n : Fin 272) (s : State) : State :=
  let x := s.nib n.val
  if x.run then
    let s := s.endSlice n.val 2
    (s.setEntrySt x.entry { s.entrySt x.entry with running := false }).taintEntry x.entry
  else s

def State.addCoff (c : Contain) (s : State) : State := s.withFab { s.fab with coffs := s.fab.coffs ++ [c] }

/-- Cofferdam of a nib: its entries that ran in this stroke are tainted, and they move to the relief nib. -/
def State.coffNib (n : Fin 272) (s : State) : State :=
  if s.deadNib n then s
  else
    let ran : Entry → Bool := fun e => eType e == 1 && s.runsOn (eUnit e) == n.val
    let s := (s.haltNib n).taintStarted ran
    let s := ((s.closeGate (.nib n)).setDead (.nib n)).addCoff (.nib n)
    let s := s.dropTests fun t => match t with | .inPlace k => k == n | .rotation _ k => k.val == n.val | .full => false
    if n.val < 256 then
      -- a rotated nib whose entries the relief carries only loses the way home
      if s.runsOn n.val ≠ n.val then
        let next := (s.move (nibQuire n).val).bind ReliefMove.next
        let s := (s.setFld (RUL_RELIEF (nibQuire n).val) RUL_RELIEF_PERM 1).setMove (nibQuire n).val none
        s.noReliefNext (nibQuire n) next
      else s.loseNib n
    else s.loseRelief (nibQuire n)

/-- Cofferdam of a quire. -/
def State.coffQuire (x : Fin 16) (s : State) : State :=
  if s.deadQuire x then s
  else
    let s := each (quireNibs x) State.haltNib s
    let s := s.taintStarted fun e => (eType e == 1 && eUnit e / 16 == x.val)
    (((s.closeGate (.qre x)).setDead (.qre x)).addCoff (.quire x)).joinX x.val

/-- Cofferdam of a polder. -/
def State.coffPolder (p : Fin 4) (s : State) : State :=
  if s.deadPolder p then s
  else
    let s := each ((polderQuires p).flatMap quireNibs) State.haltNib s
    let s := s.taintStarted fun e => eType e != 5 && ePolder e == p.val
    let s := ((s.closeGate (.pld p)).setDead (.pld p)).addCoff (.polder p)
    each (polderQuires p) (fun x s => s.joinX x.val) s

/-- The record of a cofferdam in phase 1 (R525). -/
def State.recordCoff (c : Contain) (s : State) : State :=
  match c with
  | .nib n =>
    let x := nibQuire n
    let l := 1 + x.val / 4
    let s := s.setRegBit (FAB_NIB_COFF l (x.val % 4)) (nibInQuire n.val) true
    let s := if n.val < 256 then s.setRegBit (RUL_RELIEF x.val) (n.val % 16) true else s
    s.contain (EVT_FAB_COFF l) .recorded
  | .quire x => (s.setRegBit (FAB_COFF (1 + x.val / 4)) (x.val % 4) true).contain (EVT_FAB_COFF (1 + x.val / 4)) .recorded
  | .polder p => (s.setRegBit (FAB_COFF 0) p.val true).contain (EVT_FAB_COFF 0) .recorded
  | _ => s

def State.recordCoffs (s : State) : State :=
  let l := s.fab.coffs
  each l State.recordCoff (s.withFab { s.fab with coffs := [] })

/-! ### Retirement (R663, R664) -/

/-- A nib becomes due for retirement: FB_RETIRE_NIB, a pending record, EVT_FB_RETIRE (R663). -/
def State.retireDue (n : Fin 272) (s : State) : State :=
  if s.fb.due.contains n.val then s
  else
    let s := s.withFb { s.fb with due := s.fb.due ++ [n.val] }
    let s := s.setReg FB_RETIRE_NIB (BitVec.ofNat 32 (0x80000000 + n.val))
    (s.ledgerAppend ledgerPending (BitVec.ofNat 32 n.val)).contain EVT_FB_RETIRE (.retire n)

/-- The retirement of a nib that is due (R664). -/
def State.retire (n : Fin 272) (s : State) : State :=
  if s.deadNib n then s
  else if n.val < 256 then
    if s.runsOn n.val ≠ n.val ∧ s.relPerm (nibQuire n).val then s.retireNow n
    else if s.nibEntries n.val = [] then s.retireNow n
    else
      let (ok, t) := s.needRelief (nibQuire n) (Fin.ofNat 16 n.val) true
      if ok then t else s.retireByRuling n
  else s.retireByRuling n

/-- The chosen ruling becomes active in phase 1 (R188, R664 step 3). -/
def State.rulingApply (s : State) : State :=
  if s.rul.commit = false then s
  else
    match s.rul.chosen with
    | none => s.withRul { s.rul with commit := false }
    | some i =>
      let l := s.rul.retire
      let s := s.withRul { s.rul with chosen := none, prepared := false, commit := false, retire := [], cause := true }
      let s := (s.activateRuling i).mark EVT_RUL_REDUCED
      each l (fun n s =>
        let s := s.joinX (nibQuire n).val
        let s := if n.val < 256 then s else s.loseRelief (nibQuire n)
        s.retireNow n) s

/-! ### The commands -/

def execReliefPreparation (q : Fin 16) (home : Fin 256) (s : State) : Host.Outcome State Fault Refusal :=
  .next (match s.move q.val with
    | some m => if s.scribeActs ∧ home.val = 16 * q.val + m.home.val then s.prepare q else s
    | none => s)

def execReliefCommit (q : Fin 16) (s : State) : Host.Outcome State Fault Refusal := .next (if s.scribeActs then s.commitMove q else s)

def execReliefRotationStep (q : Fin 16) (s : State) : Host.Outcome State Fault Refusal :=
  .next (if s.scribeActs then s.rotationStep q else s)

def execReducedRulingSelect (s : State) : Host.Outcome State Fault Refusal := .next (if s.scribeActs then s.selectReduced else s)

/-- The scribe commits the prepared ruling for the next boundary (R188). -/
def execReducedRulingCommit (s : State) : Host.Outcome State Fault Refusal :=
  .next (if s.scribeActs ∧ s.rul.chosen.isSome ∧ s.rul.prepared then s.withRul { s.rul with commit := true } else s)

/-- The scribe acts on the next entry of the containment queue (R583, R584). -/
def execContainmentAction (s : State) : Host.Outcome State Fault Refusal :=
  .next (if s.scribeActs = false then s
    else
      match s.mf.queue with
      | [] => s
      | c :: rest =>
        let s := s.withMf { s.mf with queue := rest }
        match c with
        | .nib n => s.coffNib n
        | .quire x => s.coffQuire x
        | .polder p => s.coffPolder p
        | .recorded => s
        | .retire n => s.retire n)

/-! ### Words of the folio image (R624) -/

/-- The words that the folio's sections in hand give of a range. -/
def State.imageRange (s : State) (lo n : Nat) : List (Nat × Word) :=
  (s.boot.sections.flatMap fun x => match x.body with
    | .words l => l.map fun e => (e.1.toNat / 4 * 4, e.2)
    | _ => []).filter fun (w : Nat × Word) => decide (lo ≤ w.1) && decide (w.1 < lo + n)

/-- The word that the image gives an address; zero where it gives none. -/
def imageAt (l : List (Nat × Word)) (a : Nat) : Word :=
  match l.reverse.find? fun w => w.1 == a with
  | some w => w.2
  | none => 0

/-- Rewrite `n` bytes from the image, each 64-bit word whole, when a word of them is poisoned. -/
def State.rewriteRange (lo n : Nat) (s : State) : State :=
  if (List.range (n / 8)).any fun i => (s.peek (lo + 8 * i)).psn then
    let l := s.imageRange lo n
    each (List.range (n / 8)) (fun i s => s.loadPair (lo + 8 * i) (imageAt l (lo + 8 * i)) (imageAt l (lo + 8 * i + 4))) s
  else s

/-- Word 0 of a crosspoint row (R224), a descriptor (R260), a word of the two maps of scribe SRAM (R565). -/
def State.rewriteRow (p r : Nat) (s : State) : State := if s.isOpen (6 + p) then s.rewriteRange (rowAddr p r) 8 else s
def State.rewriteElem (p e : Nat) (s : State) : State := if s.isOpen (6 + p) then s.rewriteRange (elemAddr p e) 64 else s
def State.rewriteMap (a : Nat) (s : State) : State := if inScribeMap a then s.rewriteRange (a / 8 * 8) 8 else s

/-- A poisoned word 0 of a crosspoint row is rewritten from the folio image (R224). -/
def execInkRowRewrite (p : Fin 4) (row : Fin 16384) (s : State) : Host.Outcome State Fault Refusal :=
  .next (if s.scribeActs then s.rewriteRow p.val row.val else s)

/-- A poisoned descriptor is rewritten whole from the folio image (R260). -/
def execDescriptorRewrite (p : Fin 4) (e : Fin 512) (s : State) : Host.Outcome State Fault Refusal :=
  .next (if s.scribeActs then s.rewriteElem p.val e.val else s)

/-- A poisoned word of the two maps of scribe SRAM is rewritten from the folio image (R565). -/
def execScribeMapRewrite (addr : Word) (s : State) : Host.Outcome State Fault Refusal :=
  .next (if s.scribeActs then s.rewriteMap addr.toNat else s)

/-- The tail sweep of a polder (R245). -/
def execTailSweep (p : Fin 4) (s : State) : Host.Outcome State Fault Refusal :=
  .next (if s.rulingRuns ∧ s.isOpen (6 + p.val) ∧ s.lostPolder p.val = false ∧ (s.bru p.val).sweepEnd = 0 then
      (s.atRoot 2048).sweep p.val (s.entries.filter fun e => eType e == 4 && ePolder e == p.val && !s.suppressed e)
    else s)

end Sys2Proof.Machine
end

