-- ==== Sys2Proof/Machine/RulVal.lean ====
section
/-! DEFINITION. What the folio validator checks of a ruling (CHECK 6 of R620): its header and entries (R165 to R168), the
feasibility rules (R171, with R33, R37, R65, R200, R246 and R513), reduced rulings against the full one (R172), and the
nib programs its entries run (CHECK 5: R27, R85, R112, R160, R161). -/

namespace Sys2Proof.Machine

/-! ### Lists of entries -/

/-- A test of every two entries, the earlier one first. -/
def pairsOk (f : Entry → Entry → Bool) : List Entry → Bool
  | [] => true
  | e :: l => l.all (f e) && pairsOk f l

/-- Whether two entries' intervals, from START up to but not including DEADLINE, meet. -/
def overlap (a b : Entry) : Bool := decide (eStart a < eDeadline b) && decide (eStart b < eDeadline a)

/-- The unit of an entry within its type: a nib, a sluice channel, the polder of an inkstone or a brush engine. -/
def eUnitKey (e : Entry) : Nat := if eType e = 1 then eUnit e else if eType e = 2 then eChan e else ePolder e

def sameUnit (a b : Entry) : Bool := eType a == eType b && eUnitKey a == eUnitKey b

def isIdle (e : Entry) : Bool := eType e == 5

/-- Whether two byte ranges meet. -/
def rangesMeet (a b : Nat × Nat) : Bool := decide (a.1 < b.1 + b.2) && decide (b.1 < a.1 + a.2)

/-! ### What an entry reads and writes -/

/-- The addresses of the 64-byte blocks of a SLU entry's source and destination. -/
def srcBlocks (e : Entry) : List Nat := (List.range (eLen e)).map fun i => eSrc e + 64 * i
def dstBlocks (e : Entry) : List Nat := (List.range (eLen e)).map fun i => eDst e + 64 * i

/-- The slate slots that an entry reads. -/
def State.readSlots (s : State) (e : Entry) : List Nat :=
  match eType e with
  | 2 => if 0x08000000 ≤ eSrc e ∧ eSrc e < 0x08200000 then (srcBlocks e).map fun a => a % 0x100000 / 64 else []
  | 3 => (List.range (eCount e)).map fun i => rowSrc (s.peek (rowAddr (ePolder e) (eFirst e + i))).w
  | 4 => (bruElems e).map fun i => (s.elem (ePolder e) i).src
  | _ => []

/-- Whether an IDLE entry of a ruling names a slot. -/
def idleIn (es : List Entry) (slot : Nat) : Bool :=
  es.any fun e => isIdle e && decide (eFirst e ≤ slot) && decide (slot < eFirst e + eCount e)

def inQuireSram (a : Nat) : Bool :=
  decide (0x10000000 ≤ a) && decide (a < 0x20000000) && decide (0x1000000 ≤ a % 0x4000000) && decide (a % 0x4000000 < 0x1800000)

/-- The quire SRAM regions that an entry reads and writes: those that a nib's image declares, those of a transfer. -/
def State.quireReads (s : State) (e : Entry) : List (Nat × Nat) :=
  if eType e = 1 then (s.nibImage (eUnit e)).reads
  else if eType e = 2 ∧ (inQuireSram (eSrc e) ∨ inQuireSram (eSrc e + 64 * eLen e - 1)) then [(eSrc e, 64 * eLen e)]
  else []

def State.quireWrites (s : State) (e : Entry) : List (Nat × Nat) :=
  if eType e = 1 then (s.nibImage (eUnit e)).writes
  else if eType e = 2 ∧ (inQuireSram (eDst e) ∨ inQuireSram (eDst e + 64 * eLen e - 1)) then [(eDst e, 64 * eLen e)]
  else []

/-! ### The rules of R171 -/

/-- Rule 1: order, and dependencies on entries before, done before the START. -/
def rule1 (es : List Entry) : Bool :=
  pairsOk (fun a b => decide (eStart a ≤ eStart b)) es &&
    es.zipIdx.all fun x => (eDeps x.1).all fun d =>
      match es[d]? with
      | some y => decide (d < x.2) && decide (eDeadline y ≤ eStart x.1)
      | none => false

/-- Rule 2, with the boundary window of R65. -/
def rule2 (e : Entry) : Bool :=
  if isIdle e then eStart e == 0 && eDeadline e == 0
  else
    decide (2048 ≤ eStart e) && decide (eStart e < eDeadline e) && decide (eDeadline e ≤ 102399) &&
      (eType e == 1 || (eStart e % 2 == 0 && eDeadline e % 2 == 0))

/-- Rule 3. -/
def rule3 (es : List Entry) : Bool :=
  pairsOk (fun a b => isIdle a || !sameUnit a b || decide (eDeadline a + (if eType a = 1 then 64 else 0) ≤ eStart b)) es

/-- What the validator walks for a NIB entry: the sum of burst times of R512 counts the other slices of the quire whose
intervals meet this one, and the quire port. -/
def State.walkEnv (s : State) (es : List Entry) (e : Entry) : WalkEnv :=
  let m := es.countP fun f => eType f == 1 && eUnit f / 16 == eUnit e / 16 && eUnit f != eUnit e && overlap e f
  ⟨Fin.ofNat 272 (eUnit e), (s.nibImage (eUnit e)).prog, 2 * m + 8⟩

/-- Rule 4. -/
def State.rule4 (s : State) (es : List Entry) (e : Entry) : Bool :=
  eType e != 1 || (let f := (s.walkEnv es e).entry e; !f.loose && decide (f.cost ≤ eDeadline e - eStart e))

/-- K of rule 5: the largest number of transfers of one sluice whose intervals share a cycle of this entry's. -/
def peers (es : List Entry) (e : Entry) : Nat :=
  let l := es.filter fun f => eType f == 2 && ePolder f == ePolder e && overlap e f
  (l.map fun f => Nat.max (eStart f) (eStart e)).foldl (fun k c => Nat.max k (l.countP fun f => decide (eStart f ≤ c) && decide (c < eDeadline f))) 0

/-- Rule 5. -/
def rule5 (es : List Entry) (e : Entry) : Bool :=
  eType e != 2 || decide (2 * (8 * eLen e) * peers es e + 128 ≤ eDeadline e - eStart e)

/-- Rule 6: R200 and R246. -/
def State.rule6 (s : State) (e : Entry) : Bool :=
  let need :=
    match eType e with
    | 3 => 4 * eCount e + 4 * (s.inkSlots e).length + 512
    | 4 => 256 + 2 * (bruElems e).length + s.headTime e
    | _ => 0
  decide (need ≤ eDeadline e - eStart e)

/-- Rule 7 (R37). -/
def State.rule7 (s : State) (es : List Entry) : Bool :=
  pairsOk (fun a b => !(s.entrySlots a).any fun x => (s.entrySlots b).contains x) es &&
    es.all fun e => !(s.entrySlots e).any (idleIn es)

/-- Rule 8 (R33). -/
def State.rule8 (s : State) (es : List Entry) (e : Entry) : Bool :=
  !eChained e || (s.readSlots e).all fun x =>
    idleIn es x || es.any fun f => (s.entrySlots f).contains x && decide (eDeadline f + 1024 ≤ eStart e)

/-- Rule 9: a read of a quire SRAM region that another entry writes comes after it. -/
def State.rule9 (s : State) (es : List Entry) : Bool :=
  let ok (r w : Entry) : Bool :=
    decide (eDeadline w + 256 ≤ eStart r) || !(s.quireReads r).any fun x => (s.quireWrites w).any (rangesMeet x)
  pairsOk (fun a b => ok a b && ok b a) es

/-- The domains of a folio's power list (type 2), and whether the folio powers a domain: a relief nib goes with its
quire (R45). -/
def State.powerList (s : State) : List Domain := s.boot.sections.flatMap fun x => match x.body with | .power l => l | _ => []

def State.folioPowers (s : State) (d : Domain) : Bool :=
  s.powerList.contains d ||
    match d with
    | .nib n => decide (256 ≤ n.val) && s.powerList.contains (.qre (Fin.ofNat 16 (n.val - 256)))
    | _ => false

/-- Whether an address decodes, in a domain that the folio powers. -/
def State.reachable (s : State) (a : Nat) : Bool :=
  s.decodes a && (match domOf a with | some d => s.folioPowers d | none => true)

/-- Whether a quire, or a polder, is excluded by a ruling. -/
def exclQuire (r : Ruling) (x : Nat) : Bool := bitOf (rulExcl r) x
def exclPolder (r : Ruling) (p : Nat) : Bool := bitOf r.h1 (16 + p)

def exclAddr (r : Ruling) (a : Nat) : Bool :=
  match quireOfAddr a with
  | some x => exclQuire r x
  | none => decide (0x10000000 ≤ a) && decide (a < 0x20000000) && exclPolder r (polderOf a)

/-- Rule 10. -/
def State.rule10 (s : State) (r : Ruling) (e : Entry) : Bool :=
  match eType e with
  | 1 => s.folioPowers (.nib (Fin.ofNat 272 (eUnit e))) && !exclQuire r (eUnit e / 16)
  | 2 =>
    s.folioPowers (.pld (Fin.ofNat 4 (ePolder e))) && !exclPolder r (ePolder e) &&
      (srcBlocks e ++ dstBlocks e).all fun a => s.reachable a && s.reachable (a + 56) && !exclAddr r a
  | 5 => true
  | _ => s.folioPowers (.pld (Fin.ofNat 4 (ePolder e))) && !exclPolder r (ePolder e)

/-- Rule 11. -/
def rule11 (e : Entry) : Bool := eType e != 1 || decide (eCarryBase e + eCarryLen e ≤ 4096)

/-- The ranges that R167 and R168 give the fields of an entry. -/
def entryFields (e : Entry) : Bool :=
  match eType e with
  | 1 => decide (eCarryLen e ≤ 512)
  | 2 => decide (1 ≤ eLen e) && eSrc e % 8 == 0 && eDst e % 8 == 0
  | 3 => decide (1 ≤ eCount e) && decide (eCount e ≤ 16384)
  | 4 => decide (1 ≤ bits e.w4 9 0) && decide (bits e.w4 9 0 ≤ 512)
  | 5 => decide (1 ≤ eCount e) && decide (eFirst e + eCount e ≤ 16384)
  | _ => false

/-! ### Chains (R539, R548) -/

/-- The descriptors from an address to END, within a hop budget and by the checks of R541; none where they do not get
there. -/
def State.walkDescs (s : State) : Nat → Nat → Option (List Desc)
  | 0, _ => none
  | n + 1, a =>
    let w (i : Nat) : Word64 × Bool := s.mirrorWord (a + 8 * i)
    let d := descOf a (w 0).1 (w 1).1 (w 2).1 (w 3).1
    if (groupOf a).isNone || (w 0).2 || (w 1).2 || (w 2).2 || (w 3).2 || descBad d (w 0).1 (w 1).1 (w 2).1 then none
    else if d.fin then some [d]
    else (s.walkDescs n d.next).map (d :: ·)

/-- The chain of a channel as the folio has it. -/
def State.chainList (s : State) (c : Nat) : Option (List Desc) :=
  let a := 32 * ((s.reg (SLU_CH_HEAD c)).toNat / 32)
  s.walkDescs (descHops (s.mirrorWord (a + 16)).1) a

/-- Whether an entry of a ruling of the folio names a channel (R534). -/
def State.named (s : State) (c : Nat) : Bool := s.rul.rulings.any fun r => (rulEntries r).any fun e => eType e == 2 && eChan e == c

/-- The chain channels of a folio, with their chains. -/
def State.freeChains (s : State) : List (Nat × List Desc) :=
  ((List.range 64).filter fun c => s.on (SLU_CH_CFG c) SLU_CH_CFG_EN && !s.named c).map fun c => (c, (s.chainList c).getD [])

/-! ### The latency of writes (R502 to R504, R511, R513) -/

/-- A burst at a target on its way: the target, the master port there, the fixed delay d of the hop, the burst's time. -/
structure Hop where
  target : Nat
  port : Nat
  d : Nat
  t : Nat
  deriving DecidableEq, Repr

/-- Numbers of the targets of R503, and of the master ports within one target. -/
def upLink (p : Nat) : Nat := p
def downLink (p : Nat) : Nat := 10 + p
def slateBank (slot : Nat) : Nat := 20 + slot / 4096
def portUp (p : Nat) : Nat := 100 + p
def portDown : Nat := 16
def portQuire : Nat := 17
def portBru : Nat := 18
def portInkBlock (p : Nat) : Nat := 110 + p
def portBruBlock (p : Nat) : Nat := 120 + p
def portScribe : Nat := 130
def portMch : Nat := 131

/-- Hops within a polder, of a burst of eight beats; the delay of the quire port is within that of the bank behind it. -/
def localHops (p a port : Nat) : List Hop :=
  let o := a % 0x4000000
  let x : Nat → List Hop := fun q => [⟨1000 + 4 * p + q, port, 0, 8⟩]
  if o < 0x1000000 then [⟨2000 + 4 * p + o / 0x400000, port, 6, 8⟩]
  else if o < 0x1800000 then x (o / 0x200000 % 4) ++ [⟨3000 + 16 * p + (o - 0x1000000) / 0x80000, portQuire, 6, 8⟩]
  else if (nibOfAddr a).isSome then
    let q := match quireOfAddr a with | some x => x % 4 | none => 0
    x q ++ [⟨4000 + 4 * p + q, portQuire, 6, 8⟩]
  else if 0x3400000 ≤ o then [⟨5000 + p, port, 6, 8⟩]
  else [⟨6000 + p, port, 8, 8⟩]

def inPolder (p a : Nat) : Bool := decide (0x10000000 ≤ a) && decide (a < 0x20000000) && polderOf a == p

/-- The hops of a burst of eight beats from a sluice channel. -/
def sluHops (c a : Nat) : List Hop :=
  let p := c / 16
  if inPolder p a then localHops p a (c % 16)
  else
    ⟨upLink p, c % 16, 3, 2⟩ ::
      (if 0x08000000 ≤ a ∧ a < 0x08200000 then [⟨slateBank (a % 0x100000 / 64), portUp p, 4, 1⟩]
       else if 0x10000000 ≤ a ∧ a < 0x20000000 then ⟨downLink (polderOf a), portUp p, 3, 2⟩ :: localHops (polderOf a) a portDown
       else [⟨7000 + a / 0x1000, portUp p, 8, 8⟩])

/-- The hops of every access of a NIB entry to the regions it declares, of one quad each. -/
def State.nibHops (s : State) (e : Entry) : List Hop :=
  (s.quireReads e ++ s.quireWrites e).flatMap fun r =>
    ((List.range 4).filter fun k => rangesMeet r (0x11000000 + 0x4000000 * (eUnit e / 64) + 0x200000 * (eUnit e / 16 % 4) + 0x80000 * k, 0x80000)).map
      fun k => ⟨3000 + 16 * (eUnit e / 64) + 4 * (eUnit e / 16 % 4) + k, 20 + eUnit e % 16, 4, 2⟩

/-- The routes of an entry's writes, each a list of hops. -/
def State.writeRoutes (s : State) (e : Entry) : List (List Hop) :=
  let p := ePolder e
  let r : List (List Hop) :=
    match eType e with
    | 2 => (dstBlocks e).map (sluHops (eChan e))
    | 3 => (s.inkSlots e).map fun x => [⟨slateBank x, portInkBlock p, 4, 1⟩]
    | 4 =>
      ((s.bruSlots e).map fun x => [⟨slateBank x, portBruBlock p, 4, 1⟩]) ++
        (bruElems e).flatMap fun i =>
          let el := s.elem p i
          (if el.llen = 0 then [] else [localHops p (lineAddr p el 0) portBru]) ++
            (if el.taps = 0 then [] else [localHops p (ringAddr p el 0) portBru])
    | _ => []
  r.eraseDups

/-- Every hop at which an entry is a master in its interval: those of its writes and of its reads. -/
def State.entryHops (s : State) (e : Entry) : List Hop :=
  let p := ePolder e
  let reads : List Hop :=
    match eType e with
    | 1 => s.nibHops e
    | 2 => (srcBlocks e).flatMap (sluHops (eChan e))
    | 3 => (s.readSlots e).map fun x => ⟨slateBank x, portInkBlock p, 4, 1⟩
    | 4 => ((s.readSlots e).map fun x => ⟨slateBank x, portBruBlock p, 4, 1⟩) ++ [⟨5000 + p, portBru, 6, 8⟩]
    | _ => []
  (reads ++ (s.writeRoutes e).flatten).eraseDups

/-- The masters that are counted at every target they can reach: the scribe and the management chain, directly or
through a down-link, and the free-running chains. -/
def State.alwaysHops (s : State) (h : Hop) : List Hop :=
  let outside : List Hop :=
    if h.target < 10 then []
    else if h.target < 20 then [⟨h.target, portScribe, 3, 2⟩, ⟨h.target, portMch, 3, 2⟩]
    else if h.target < 30 then [⟨h.target, portScribe, 4, 1⟩, ⟨h.target, portMch, 4, 1⟩]
    else if 3000 ≤ h.target ∧ h.target < 5000 then [⟨h.target, portQuire, 6, 8⟩]
    else if h.target < 7000 then [⟨h.target, portDown, 8, 8⟩]
    else [⟨h.target, portScribe, 8, 8⟩, ⟨h.target, portMch, 8, 8⟩]
  outside ++ s.freeChains.flatMap fun x =>
    (x.2.flatMap fun d => ((List.range ((d.len + 63) / 64)).flatMap fun i => sluHops x.1 (d.src + 64 * i) ++ sluHops x.1 (d.dst + 64 * i))).filter
      fun g => g.target == h.target

/-- Σ t_m over the master ports other than the burst's own, each counted once. -/
def otherTime (h : Hop) (l : List Hop) : Nat :=
  let o := l.filter fun g => g.target == h.target && g.port != h.port
  ((o.map Hop.port).eraseDups.map fun p => (o.filter fun g => g.port == p).foldl (fun m g => Nat.max m g.t) 0).foldl (· + ·) 0

/-- T of a hop (R511), with 15 bursts of the port's own ahead. -/
def hopTime (h : Hop) (l : List Hop) : Nat := h.d + 16 * otherTime h l + 15 * h.t

/-- R513 for one entry. -/
def State.writesInTime (s : State) (es : List Entry) (e : Entry) : Bool :=
  let l := (es.filter (overlap e)).flatMap s.entryHops
  (s.writeRoutes e).all fun r => decide ((r.map fun h => hopTime h (l ++ s.alwaysHops h)).foldl (· + ·) 0 ≤ 448)

/-! ### Rulings (R165, R166, R171, R172) -/

/-- The fields of a header (R165, R166). -/
def headerFields (r : Ruling) : Bool :=
  decide (1 ≤ rulCount r) && decide (rulCount r ≤ 32768) && decide (rulCount r ≤ r.entries.length) && decide (rulIndex r ≤ 4) &&
    decide (rulPrep r ≤ 1200) &&
    (rulIndex r != 0 || (bits r.h1 19 0 == 0 && bits r.h2 23 0 == 0 && bits r.h3 11 0 == 0 && rulPrep r == 0))

/-- Whether a ruling is feasible (R171). -/
def State.feasible (s : State) (r : Ruling) : Bool :=
  let es := rulEntries r
  headerFields r && es.all entryFields && rule1 es && es.all rule2 && rule3 es && es.all (s.rule4 es) && es.all (rule5 es) &&
    es.all s.rule6 && s.rule7 es && es.all (s.rule8 es) && s.rule9 es && es.all (s.rule10 r) && es.all rule11 &&
    es.all (s.writesInTime es)

/-- R172: a nib that holds entries in the full ruling and in a reduced one has one image. -/
def State.imagesAgree (s : State) (full r : Ruling) : Bool :=
  (rulNibs r).all fun n => !(rulNibs full).contains n ||
    (sectionImages s.boot.sections).all fun i =>
      i.nib.val != n || (i.prog == (s.nibImage n).prog && i.data == (s.nibImage n).data)

/-- CHECK 6: one full ruling, up to four reduced ones of different indices, each feasible (R163, R165, R166, R171,
R172). -/
def State.check6 (s : State) : Bool :=
  let l := s.rul.rulings
  match l.find? fun r => rulIndex r == 0 with
  | some full => decide (l.length = ((l.map rulIndex).eraseDups).length) && l.all s.feasible && l.all (s.imagesAgree full)
  | none => false

/-- CHECK 5: the programs that NIB entries run. -/
def State.check5 (s : State) : Bool :=
  s.rul.rulings.all fun r => (rulEntries r).all fun e => eType e != 1 || !((s.walkEnv (rulEntries r) e).entry e).bad

end Sys2Proof.Machine
end

