-- ==== Sys2Proof/Machine/TabVal.lean ====
section
/-! DEFINITION. What the folio validator checks of the inkstone tables (CHECK 7 of R620: R197, R198) and of the brush
tables, the reservoir and history (CHECK 8: R228, R237, R239, R240, R246, R247, R249, R250, R252, R254). -/

namespace Sys2Proof.Machine

/-- A section's TYPE (R613). -/
def secType (x : FolioSection) : Nat := bits x.w0 15 0

/-- The address and value pairs of a section. -/
def secLoads (x : FolioSection) : List (Nat × Word) :=
  match x.body with
  | .regs l => l.map fun e => (e.1.toNat, e.2)
  | .words l => l.map fun e => (e.1.toNat, e.2)
  | _ => []

/-- The pairs of all sections of a type. -/
def State.typeLoads (s : State) (t : Nat) : List (Nat × Word) := (s.boot.sections.filter fun x => secType x == t).flatMap secLoads

/-- Numbers in rising order, each once. -/
def risen (l : List Nat) : List Nat := sortBy (fun x y => decide (x < y)) l.eraseDups

/-! ### Crosspoint rows -/

/-- The rows of a polder that the crosspoint section gives content (R197). -/
def State.populatedRows (s : State) (p : Nat) : List Nat :=
  risen (((s.typeLoads 6).filter fun w => isRowWord w.1 && polderOf w.1 == p).map fun w => w.1 / 16 % 16384)

/-- A list with runs of one value made one. -/
def collapse : List Nat → List Nat
  | x :: y :: l => if x = y then collapse (y :: l) else x :: collapse (y :: l)
  | l => l

def State.rowBus (s : State) (p r : Nat) : Nat := rowDst (s.peek (rowAddr p r)).w

/-- R197 of a polder: the populated rows of one DST follow each other. -/
def State.busesWhole (s : State) (p : Nat) : Bool :=
  let l := collapse ((s.populatedRows p).map (s.rowBus p))
  decide (l.eraseDups.length = l.length)

/-- R197 and R198 of a ruling: ranges within the table, over populated rows; no row and no bus in two entries. -/
def State.inkEntriesOk (s : State) (r : Ruling) : Bool :=
  let es := (rulEntries r).filter fun e => eType e == 3
  (es.all fun e => decide (eFirst e + eCount e ≤ 16384) &&
      (let l := s.populatedRows (ePolder e); (List.range (eCount e)).all fun i => l.contains (eFirst e + i))) &&
    pairsOk (fun a b => ePolder a != ePolder b ||
      ((decide (eFirst a + eCount a ≤ eFirst b) || decide (eFirst b + eCount b ≤ eFirst a)) &&
        !(s.inkSlots a).any fun x => (s.inkSlots b).contains x)) es

/-- CHECK 7. -/
def State.check7 (s : State) : Bool := (List.range 4).all s.busesWhole && s.rul.rulings.all s.inkEntriesOk

/-! ### Elements -/

/-- The elements of a polder that the folio populates. -/
def State.populatedElems (s : State) (p : Nat) : List Nat :=
  risen (((s.typeLoads 7).filter fun w => isElemWord w.1 && polderOf w.1 == p).map fun w => w.1 / 64 % 512)

/-- R239, R240, R254 of an element. -/
def State.elemOk (s : State) (el : Elem) : Bool :=
  (el.llen == 0 || decide (8 ≤ (el.llen - 1) * s.samples)) && decide (8 * el.coef + el.taps ≤ 1048576) &&
    (el.taps == 0 || decide (el.taps + s.samples - 1 ≤ 16 * el.hlen))

/-- R240 of two elements: their coefficient ranges are equal or apart. -/
def coefsApart (a b : Elem) : Bool :=
  a.taps == 0 || b.taps == 0 || (a.coef == b.coef && a.taps == b.taps) || !rangesMeet (8 * a.coef, a.taps) (8 * b.coef, b.taps)

def elemPairsOk (f : Elem → Elem → Bool) : List Elem → Bool
  | [] => true
  | e :: l => l.all (f e) && elemPairsOk f l

/-- A table without NaN and infinity (R237). -/
def State.interpOk (s : State) (p : Nat) : Bool := (List.range 256).all fun i => bits (s.reg (BRU_INTERP p i)) 30 23 != 255

/-- A region of the reservoir or of history SRAM, as first byte and bytes: an element's line, its ring. -/
def lineRegion (p : Nat) (el : Elem) : List (Nat × Nat) := if el.llen = 0 then [] else [(lineAddr p el 0, 64 * el.llen)]
def ringRegion (p : Nat) (el : Elem) : List (Nat × Nat) := if el.taps = 0 then [] else [(ringAddr p el 0, 64 * el.hlen)]

/-- Whether an element's line and ring end within their memory (R249, R252). -/
def regionsEnd (el : Elem) : Bool :=
  (el.llen == 0 || decide (64 * (el.lbase + el.llen) ≤ (if el.lmem then 0x1000000 else 0x400000))) &&
    (el.taps == 0 || decide (64 * (el.hbase + el.hlen) ≤ 0x400000))

/-- Whether a region lies within a reservoir or a history SRAM. -/
def inHistory (r : Nat × Nat) : Bool :=
  let o := r.1 % 0x4000000
  decide (0x10000000 ≤ r.1) && decide (r.1 < 0x20000000) &&
    (decide (o + r.2 ≤ 0x1000000) || (decide (0x3800000 ≤ o) && decide (o + r.2 ≤ 0x3C00000)))

def apart : List (Nat × Nat) → Bool
  | [] => true
  | r :: l => (l.all fun x => !rangesMeet r x) && apart l

/-- The regions that the folio lists (type 8). -/
def State.listedRegions (s : State) : List (Nat × Nat) := s.boot.sections.flatMap fun x => match x.body with | .regions l => l | _ => []

/-- The lines of all populated elements, and their rings. -/
def State.allLines (s : State) : List (Nat × Nat) := (List.range 4).flatMap fun p => (s.populatedElems p).flatMap fun e => lineRegion p (s.elem p e)
def State.allRings (s : State) : List (Nat × Nat) := (List.range 4).flatMap fun p => (s.populatedElems p).flatMap fun e => ringRegion p (s.elem p e)

/-- R249 and R252: lines, rings and listed regions lie apart within their memories; a listed region may be a line's or
a ring's own. -/
def State.regionsOk (s : State) : Bool :=
  let own := s.allLines ++ s.allRings
  apart own && apart s.listedRegions && s.listedRegions.all inHistory &&
    s.listedRegions.all fun r => own.all fun x => x == r || !rangesMeet x r

/-- R250: no SLU entry and no free-running chain writes a line. -/
def State.linesKept (s : State) : Bool :=
  let clear (r : Nat × Nat) : Bool := !s.allLines.any (rangesMeet r)
  (s.rul.rulings.all fun r => (rulEntries r).all fun e => eType e != 2 || clear (eDst e, 64 * eLen e)) &&
    s.freeChains.all fun c => c.2.all fun d => d.op == 2 || clear (d.dst, d.len)

/-- The tails of an entry in the validator's sweep: the products issued before it and after it, and whether each tail is
complete 512 ROOT cycles before the entry's START (R247). -/
def State.sweepsInTime (s : State) (wins : List (Nat × Nat)) (e : Entry) (n : Nat) : Nat × Bool :=
  (bruElems e).foldl (fun (x : Nat × Bool) i =>
    let m := (s.elem (ePolder e) i).mTail s.samples
    (x.1 + m, x.2 && (m == 0 || decide (sweptAt wins (x.1 + m) + 512 ≤ eStart e)))) (n, true)

/-- R228, R246 and R247 of a ruling on a polder. -/
def State.bruEntriesOk (s : State) (r : Ruling) (p : Nat) : Bool :=
  let es := (rulEntries r).filter fun e => eType e == 4 && ePolder e == p
  let wins := es.map fun e => (eStart e, s.headTime e)
  (es.all fun e => decide (bits e.w3 8 0 + bits e.w4 9 0 ≤ 512) && s.rule6 e) &&
    pairsOk (fun a b => !(bruElems a).any fun i => (bruElems b).contains i) es &&
    (es.foldl (fun (x : Nat × Bool) e => let y := s.sweepsInTime wins e x.1; (y.1, x.2 && y.2)) (0, true)).2

/-- CHECK 8. -/
def State.check8 (s : State) : Bool :=
  ((List.range 4).all fun p =>
    let l := (s.populatedElems p).map (s.elem p)
    l.all s.elemOk && l.all regionsEnd && elemPairsOk coefsApart l && s.interpOk p && s.rul.rulings.all fun r => s.bruEntriesOk r p) &&
    s.regionsOk && s.linesKept

end Sys2Proof.Machine
end

