-- ==== Sys2Proof/Machine/UnitVal.lean ====
section
/-! DEFINITION. What the folio validator checks of the serial ports and lanes (CHECK 9 of R620: R266, R297, R333) and of
the flows, tag sources, intake and relays (CHECK 10: R347, R349, R351, R352, R375, R376, R390, R391, R432, R642). -/

namespace Sys2Proof.Machine

/-! ### Serial ports and drive lanes -/

/-- The slate slots of a port's receive range, as first slot and number (R266). -/
def State.sapRxRange (s : State) (k : Nat) : Nat × Nat := (s.fld (SAP_RX_BASE k) ⟨13, 0⟩, s.fld (SAP_CTL k) SAP_CTL_SLOTS)

/-- The receive ranges of the ports that receive. -/
def State.sapRxRanges (s : State) : List (Nat × Nat) :=
  ((List.range 16).filter fun k => s.on (SAP_CTL k) SAP_CTL_RXEN).map s.sapRxRange

/-- The sum of SLOTS over the ports with an enable. -/
def State.sapSlotSum (s : State) (f : Fld) : Nat :=
  (((List.range 16).filter fun k => s.on (SAP_CTL k) f).map fun k => s.fld (SAP_CTL k) SAP_CTL_SLOTS).foldl (· + ·) 0

/-- The slate slots that the entries of a folio's rulings write. -/
def State.ruledSlots (s : State) : List Nat := s.rul.rulings.flatMap fun r => (rulEntries r).flatMap s.entrySlots

/-- Whether a slot lies in a range. -/
def inRange (r : Nat × Nat) (x : Nat) : Bool := decide (r.1 ≤ x) && decide (x < r.1 + r.2)

/-- R266. -/
def State.sapsOk (s : State) : Bool :=
  let l := s.sapRxRanges
  decide (s.sapSlotSum SAP_CTL_RXEN ≤ 256) && decide (s.sapSlotSum SAP_CTL_TXEN ≤ 256) &&
    (l.all fun r => decide (r.1 + r.2 ≤ 16384)) && apart l && !s.ruledSlots.any fun x => l.any fun r => inRange r x

/-- R297 and R333. -/
def State.lanesOk (s : State) : Bool :=
  ((List.range 16).all fun j => !s.on (LANE_CFG (2 * j)) LANE_CFG_BRIDGE || !s.on (LANE_CFG (2 * j + 1)) LANE_CFG_EN) &&
    (List.range 32).all fun k =>
      let aux (en src : Fld) : Bool := !s.on (LANE_CFG k) en || s.on (AUX_CFG (s.fld (LANE_CFG k) src)) AUX_CFG_EN
      aux LANE_CFG_TEN LANE_CFG_TSRC && aux LANE_CFG_REN LANE_CFG_RSRC

/-- CHECK 9. -/
def State.check9 (s : State) : Bool := s.sapsOk && s.lanesOk

/-! ### Flows -/

/-- The flow-table entries in use: transmit entries, receive entries. -/
def State.txEntries (s : State) : List Nat := (List.range 1024).filter fun t => s.ftNets t != 0
def State.rxEntries (s : State) : List Nat := ((List.range 1024).map (· + 1024)).filter fun f => s.ftNets f != 0

/-- The transmit flow that an enabled relay names (R391). -/
def State.relayFlow (s : State) (j : Nat) : Option Nat :=
  if s.on (TAG_RLY j) TAG_RLY_EN then some (bits (s.reg (TAG_RLY j)) 25 16) else none

def State.relayFlows (s : State) : List Nat := (List.range 16).filterMap s.relayFlow

/-- The slate slots that a receive entry claims; none for a state flow or a flow of tags only (R349, R376). -/
def State.rxRange (s : State) (f : Nat) : Option (Nat × Nat) :=
  if s.stateRx f || s.tagsOnly f then none else some (s.ftSlot f, s.ftCh f)

def State.rxRanges (s : State) : List (Nat × Nat) := s.rxEntries.filterMap s.rxRange

/-- Receive flows keep apart from each other, from the serial ports, from the entries' slots (R349). -/
def State.rxApart (s : State) : Bool :=
  let l := s.rxRanges
  apart l && !(l.any fun r => s.sapRxRanges.any (rangesMeet r)) && !s.ruledSlots.any fun x => l.any fun r => inRange r x

/-- Whether two receive entries share a match key (R356). -/
def State.sameKey (s : State) (f g : Nat) : Bool :=
  ((List.range 2).any fun w => s.flowOn w f && s.flowOn w g) && s.ftDst f == s.ftDst g && s.ftDport f == s.ftDport g &&
    s.ftTag f == s.ftTag g && (!s.ftTag f || s.ftVid f == s.ftVid g) && s.ft f 2 == s.ft g 2 && s.ftFlow f == s.ftFlow g

/-- No two numbers of a list stand in a relation, the earlier one first. -/
def noPair (f : Nat → Nat → Bool) : List Nat → Bool
  | [] => true
  | x :: l => !l.any (f x) && noPair f l

/-- NTAG as the validator takes it (R349). -/
def State.checkTags (s : State) (f : Nat) : Nat :=
  if f < 1024 then (if s.stateTx f || s.relayFlows.contains f then 16 else 0)
  else if s.stateRx f || (s.sourceOf f).isSome then 16 else 0

/-- The bytes of RTP samples in a packet of an interop entry (R363). -/
def State.rtpLoad (s : State) (f : Nat) : Nat := s.ftCh f * s.rtpP f * s.ftW f

/-- The bytes above Ethernet of an entry's packet (R349, R350, R363). -/
def State.flowBytes (s : State) (f : Nat) : Nat :=
  let body :=
    if s.ftKind f = 0 then
      24 + (if s.stateTx f || s.stateRx f then 0 else s.ftCh f * s.samples * s.ftW f) + 24 * s.checkTags f + 32 + (if s.ftAuth f then 16 else 0)
    else 12 + s.rtpLoad f
  body + 8 + (if s.ftIpv6 f then 40 else 20)

/-- The MTU of a network for an entry. -/
def State.mtu (s : State) (w f : Nat) : Nat := if s.ftKind f = 0 ∧ s.on (NW_CFG w) NW_CFG_JUMBO then 9000 else 1500

/-- What R349 and R363 ask of an entry by itself. -/
def State.flowOk (s : State) (f : Nat) : Bool :=
  ((List.range 2).all fun w => !s.flowOn w f || decide (s.flowBytes f ≤ s.mtu w f)) &&
    (s.ftKind f == 0 ||
      (s.fld STK_CFG STK_CFG_RATE != 2 && s.ftFmt f != 2 && decide (s.rtpLoad f ≤ 1440) && decide (s.ftCh f ≤ 64) &&
        (decide (f < 1024) || decide ((s.rtpP f + s.samples - 2) / s.samples + 1 ≤ s.ftJ f))))

/-- The wire bits of an entry's packet: its frame, the preamble and the gap (R352, R437). -/
def State.wireBits (s : State) (f : Nat) : Nat := 8 * (etherLen (s.ftTag f) (s.flowBytes f) + 20)

/-- The bits per stroke that a port may carry (R352), by its MODE. -/
def portLimit (mode : Nat) : Nat :=
  match mode with
  | 1 => 62500
  | 2 => 625000
  | 3 => 1562500
  | _ => 0

/-- R352 of a port. -/
def State.portLoadOk (s : State) (i : Nat) : Bool :=
  !s.on (PORT_CFG i) PORT_CFG_EN || s.fld (PORT_CFG i) PORT_CFG_MODE == 0 ||
    decide (((s.txEntries.filter fun t => s.flowOn (netOf i) t).map s.wireBits).foldl (· + ·) 0 ≤ portLimit (s.fld (PORT_CFG i) PORT_CFG_MODE))

/-- R391 and R349: a relay's flow and a state flow carry an ICV. -/
def State.tagFlowsOk (s : State) : Bool :=
  (s.relayFlows.all fun t => s.ftKind t == 0 && s.ftAuth t) && (List.range 1024).all fun t => !s.stateTx t || (s.ftKind t == 0 && s.ftAuth t)

/-- R375: no two sources name one flow. -/
def State.sourcesOk (s : State) : Bool :=
  noPair (fun i j => bits (s.reg (TAG_SRC i)) 25 16 == bits (s.reg (TAG_SRC j)) 25 16) ((List.range 32).filter fun i => s.on (TAG_SRC i) TAG_SRC_EN)

/-- The key records of a folio (R642). -/
def sectionKeys (l : List FolioSection) : List (BitVec 8 × BitVec 56 × BitVec 256) := l.flatMap fun x => match x.body with | .keys k => k | _ => []

/-- R351 and R642: transmit entries of one SRC_ID, FLOW and KEYID; entries without their key. -/
def State.keysOk (s : State) : Bool :=
  noPair (fun t u => s.ft t 2 == s.ft u 2 && s.ftFlow t == s.ftFlow u && s.ftKeyid t == s.ftKeyid u) (s.txEntries.filter fun t => s.ftKind t == 0) &&
    (s.txEntries ++ s.rxEntries).all fun f => s.ftKind f != 0 || !s.ftAuth f || (sectionKeys s.boot.sections).any fun k => k.1.toNat == s.ftKeyid f

/-- Whether a range meets the intake window (R389). -/
def meetsIntake (r : Nat × Nat) : Bool := rangesMeet r (0x2070C000, 0x1000)

/-- Whether a range lies in the SRAM of one quire. -/
def oneQuireSram (r : Nat × Nat) : Bool :=
  inQuireSram r.1 && inQuireSram (r.1 + r.2 - 1) && decide (r.1 / 0x200000 = (r.1 + r.2 - 1) / 0x200000)

/-- R390: what the entries of the rulings write to the intake window. -/
def State.intakeOk (s : State) : Bool :=
  s.rul.rulings.all fun r => (rulEntries r).all fun e =>
    eType e != 2 || !meetsIntake (eDst e, 64 * eLen e) || oneQuireSram (eSrc e, 64 * eLen e)

/-- R432: the state flows lie in the table. -/
def State.stateFlowsOk (s : State) : Bool :=
  !s.member ||
    (decide (s.fld MIR_STREAM MIR_STREAM_STX + s.fld MIR_STREAM MIR_STREAM_SPKT ≤ 1024) &&
      decide (s.fld MIR_STREAM MIR_STREAM_SRX + s.fld MIR_STREAM MIR_STREAM_SPKT ≤ 1024))

/-- CHECK 10. -/
def State.check10 (s : State) : Bool :=
  let used := s.txEntries ++ s.rxEntries
  s.rxApart && noPair s.sameKey (s.rxEntries.filter s.flowEnabled) && used.all s.flowOk && decide (used.countP (fun f => s.ftKind f != 0) ≤ 256) &&
    (List.range 4).all s.portLoadOk && s.tagFlowsOk && s.sourcesOk && s.keysOk && s.intakeOk && s.stateFlowsOk

end Sys2Proof.Machine
end

