-- ==== Sys2Proof/Machine/MapVal.lean ====
section
/-! DEFINITION. What the folio validator checks of the authority map (CHECK 11 of R620: R393), the mirror map (CHECK 12:
R412, R413) and the sluice channels and chains (CHECK 13: R534, R548, with R84). -/

namespace Sys2Proof.Machine

/-! ### The authority map (R393) -/

/-- The entries of the authority map. -/
def State.authEntries (s : State) : List AuthEntry := (List.range (s.fld AUTH_CFG ⟨12, 0⟩)).map s.authEntry

/-- The items of an entry, as first byte and bytes. -/
def AuthEntry.items (e : AuthEntry) : List (Nat × Nat) := (List.range e.count).map fun i => (e.base + i * e.stride, 4 * e.words)

/-- The words of an entry's items. -/
def AuthEntry.itemWords (e : AuthEntry) : List Nat := e.items.flatMap fun r => (List.range e.words).map fun j => r.1 + 4 * j

/-- The entries are in rising order, their items apart and whole. -/
def authSorted : List AuthEntry → Bool
  | [] => true
  | e :: l => (l.all fun x => decide (e.base < x.base) && !(e.items.any fun a => x.items.any (rangesMeet a))) && authSorted l

def AuthEntry.whole (e : AuthEntry) : Bool := decide (1 ≤ e.words) && (e.count == 1 || decide (4 * e.words ≤ e.stride))

/-- The coefficient words of an element in both banks (R230, R240). -/
def coefWords (p : Nat) (el : Elem) : List Nat := (List.range el.taps).flatMap fun i => [tapAddr p el 0 i, tapAddr p el 1 i]

/-- The registers and table words that the chapters name as authority-map items; TB_RATE only of TB3 (R497), and not
MF_KICK, which is the scribe's alone (R589). -/
def State.namedItems (s : State) : List Nat :=
  let regs := (allRows.flatMap rowAddrs).filter fun a =>
    stagedReg a && decide (a ≠ MF_KICK) && !(List.range 3).any fun i => decide (a = TB_RATE i)
  let rows := (List.range 4).flatMap fun p => (List.range 16384).map fun r => rowAddr p r + 8
  let elems := (List.range 4).flatMap fun p => (List.range 512).flatMap fun e => [elemAddr p e + 0x14, elemAddr p e + 0x18]
  let coefs := (List.range 4).flatMap fun p => (s.populatedElems p).flatMap fun e => coefWords p (s.elem p e)
  regs ++ rows ++ elems ++ coefs

/-- CHECK 11. -/
def State.check11 (s : State) : Bool :=
  let l := s.authEntries
  authSorted l && l.all AuthEntry.whole && (l.all fun e => e.itemWords.all s.decodes) && s.namedItems.all s.isItem &&
    l.all fun e => e.owner == 0 || !e.itemWords.any fun a => (List.range 3).any fun i => decide (a = TB_RATE i)

/-! ### The mirror map (R412, R413) -/

def State.mirEntries (s : State) : List MirEntry := (List.range (s.fld MIR_MAPN ⟨11, 0⟩)).map s.mirEntry

/-- CLASS and SETTLE of an entry (R410). -/
def State.mirClass (s : State) (i : Nat) : Nat := (s.peek (0x04068000 + 16 * i + 8)).w.toNat / 2 ^ 30 % 4
def State.mirSettle (s : State) (i : Nat) : Nat := (s.peek (0x04068000 + 16 * i + 8)).w.toNat / 2 ^ 32 % 2 ^ 16

/-- The items of an entry, as first byte and bytes. -/
def MirEntry.items (e : MirEntry) : List (Nat × Nat) := (List.range e.count).map fun i => (e.base + i * e.stride, 8 * e.words)

/-- All items of the map, in its order. -/
def State.mirItems (s : State) : List (Nat × Nat) := s.mirEntries.flatMap MirEntry.items

/-- Wtot of the map in scribe SRAM (R411), and its largest SETTLE (R413). -/
def State.mapWords (s : State) : Nat := (s.mirEntries.map MirEntry.size).foldl (· + ·) 0
def State.mapSettle (s : State) : Nat := ((List.range (s.fld MIR_MAPN ⟨11, 0⟩)).map s.mirSettle).foldl Nat.max 0

/-- Entry 0 is exactly the stager image (R412). -/
def State.imageFirst (s : State) : Bool :=
  match s.mirEntries with
  | e :: _ => e.base == 0x20710000 && e.count == 1 && e.words == 32768 && s.mirClass 0 == 0 && s.mirSettle 0 == 0
  | [] => false

/-- Whether a word lies in a memory whose items the mirror map itself holds (R412, R413). -/
def inMirrorMem (a : Nat) : Bool :=
  let o := foldPolder a
  isTable a || inQuireSram a || (match nibOfAddr a with | some (_, x) => decide (0x10000 ≤ x) | none => false) ||
    (decide (0x10000000 ≤ a) && decide (a < 0x20000000) &&
      (decide (o < 0x11000000) || (decide (0x13400000 ≤ o) && decide (o < 0x13800000)) || decide (0x13C00000 ≤ o)))

/-- The mirror words that an entry of a ruling needs in the map (R413). -/
def entryState (e : Entry) : List Nat :=
  match eType e with
  | 1 => (List.range (2 * eCarryLen e)).map fun i => nibWin (eUnit e) + 0x10000 + 16 * eCarryBase e + 8 * i
  | 3 => (List.range (eCount e)).map fun i => rowAddr (ePolder e) (eFirst e + i) + 8
  | 4 => (bruElems e).flatMap fun i => [elemAddr (ePolder e) i + 0x10, elemAddr (ePolder e) i + 0x18, elemAddr (ePolder e) i + 0x20]
  | _ => []

/-- What the free-running chains and the input units write, as first byte and bytes. -/
def State.strayWrites (s : State) : List (Nat × Nat) :=
  let slots := (s.sapRxRanges ++ s.rxRanges).flatMap fun r =>
    [(0x08000000 + 64 * r.1, 64 * r.2), (0x08100000 + 64 * r.1, 64 * r.2)]
  slots ++ s.freeChains.flatMap fun c => (c.2.filter fun d => d.op != 2).map fun d => (d.dst, d.len)

/-- CHECK 12: of a folio with MIR_CFG.EN = 1. -/
def State.check12 (s : State) : Bool :=
  let items := s.mirItems
  !s.member ||
    (s.imageFirst && apart items && (items.all fun r => (List.range (r.2 / 8)).all fun i => s.decodes (r.1 + 8 * i)) &&
      (s.rul.rulings.all fun r => (rulEntries r).all fun e => (entryState e).all s.inMirror) &&
      (s.authEntries.all fun e => e.itemWords.all fun a => !inMirrorMem a || s.inMirror (a / 8 * 8)) &&
      s.strayWrites.all fun r => !items.any (rangesMeet r))

/-! ### Channels and chains (R534, R548) -/

/-- A ruling channel has no chain and no PRIO (R534). -/
def State.channelOk (s : State) (c : Nat) : Bool := !s.named c || (s.reg (SLU_CH_HEAD c) == 0 && s.fld (SLU_CH_CFG c) SLU_CH_CFG_PRIO == 0)

/-- Whether a range meets the RAMs of a nib (R84). -/
def meetsNibRam (r : Nat × Nat) : Bool := (List.range ((r.2 + 7) / 8)).any fun i => (nibOfAddr (r.1 + 8 * i)).isSome && (groupOf (r.1 + 8 * i)).isSome

/-- The addresses and targets of a descriptor (R548). -/
def State.descOk (s : State) (d : Desc) : Bool :=
  let src := (d.src, d.len)
  let dst := (d.dst, d.len)
  let sound (r : Nat × Nat) : Bool := ((List.range (r.2 / 8)).all fun i => s.decodes (r.1 + 8 * i)) && !meetsNibRam r
  (d.op == 1 || sound src) && sound dst && (d.op == 2 || !meetsIntake dst)

/-- CHECK 13: the walk of every chain reaches END, and its descriptors are sound. -/
def State.check13 (s : State) : Bool :=
  ((List.range 64).all s.channelOk) &&
    (List.range 64).all fun c => !s.on (SLU_CH_CFG c) SLU_CH_CFG_EN || s.named c ||
      match s.chainList c with
      | some l => l.all s.descOk
      | none => false

end Sys2Proof.Machine
end

