-- ==== Sys2Proof/Machine/FolioVal.lean ====
section
/-! DEFINITION. What the folio validator checks of the header and the section table (CHECK 1 of R620: R612, R613, R615,
R616, with R412 and R642), of addresses (CHECK 2: R526, R527), of register loads (CHECK 3: R9 and the register maps) and
of the power list (CHECK 4: R44); and the run of all checks in order. -/

namespace Sys2Proof.Machine

/-! ### The header and the section table -/

def secEnc (x : FolioSection) : Bool := bitOf x.w0 17
def secMember (x : FolioSection) : Bool := bitOf x.w0 16

/-- STORED of a section of PLAIN bytes (R613). -/
def storedSize (enc : Bool) (plain : Nat) : Nat := if enc then plain + 16 * ((plain + 4095) / 4096) else plain

/-- The registers that a member section may address (R616). -/
def memberReg (a : Nat) : Bool :=
  decide (a = MIR_CFG) || decide (a = TAG_CFG) || decide (a = PTP_PRIO 0) || decide (a = PTP_PRIO 1) ||
    (decide (0x20000200 ≤ a) && decide (a < 0x20000400))

/-- What R613, R615, R616, R642 and R412 ask of a section by itself, in a folio with a header. -/
def sectionOk (h : FolioHeader) (x : FolioSection) : Bool :=
  let t := secType x
  let off := x.offset.toNat
  let mirrored := bitOf h.flags 1
  decide (1 ≤ t) && decide (t ≤ 15) && (secEnc x || t == 1 || t == 15) && (secMember x == decide (t = 15)) && (mirrored || !secMember x) &&
    off % 4096 == 0 && decide (0x1000 ≤ off) && x.stored.toNat == storedSize (secEnc x) x.plain.toNat &&
    decide (off + x.stored.toNat + 96 ≤ h.length.toNat) &&
    (t != 15 || (secLoads x).all fun w => memberReg w.1) &&
    (mirrored || (t != 1 && t != 15) || (secLoads x).all fun w => w.1 != MIR_CFG || !MIR_CFG_EN.on w.2) &&
    (match x.body with | .keys l => l.all fun k => k.2.1 == 0 | _ => true)

/-- The keys that a section records. -/
def secKeyids (x : FolioSection) : List (BitVec 8) := match x.body with | .keys l => l.map fun k => k.1 | _ => []

/-- Whether two sections of a folio cannot stand together: their bytes meet, their IVs share bits 95 to 32, their type
comes once, they record one key (R613, R615, R642). -/
def sectionsClash (x y : FolioSection) : Bool :=
  rangesMeet (x.offset.toNat, x.stored.toNat) (y.offset.toNat, y.stored.toNat) || x.iv.toNat / 2 ^ 32 == y.iv.toNat / 2 ^ 32 ||
    (secType x == secType y && [1, 2, 9, 12].contains (secType x)) || (secKeyids x).any fun k => (secKeyids y).contains k

/-- The index of the first section that a test selects. -/
def firstIdx (f : FolioSection → Bool) (l : List FolioSection) : Option Nat := (l.zipIdx.find? fun x => f x.1).map Prod.snd

/-- CHECK 1: the failing section, or 0xFF. -/
def check1 (h : FolioHeader) (l : List FolioSection) : Option Nat :=
  let n := h.sections.toNat % 128
  if n = 0 ∨ 64 < n ∨ l.length ≠ n ∨ (l.head?.map fun x => x.offset.toNat) ≠ some 0x1000 then some 0xFF
  else
    match l.zipIdx.find? fun x => !sectionOk h x.1 || (l.take x.2).any fun y => sectionsClash y x.1 with
    | some x => some x.2
    | none => if (l.flatMap secKeyids).eraseDups.length = (l.flatMap secKeyids).length then none else firstIdx (fun x => secType x == 14) l

/-! ### Addresses -/

/-- The addresses that a section names. -/
def sectionAddrs (x : FolioSection) : List Nat :=
  match x.body with
  | .nibs l => l.flatMap fun i => (i.reads ++ i.writes).flatMap fun r => [r.1, r.1 + r.2 - 1]
  | .rulings l => (l.flatMap rulEntries).flatMap fun e => if eType e = 2 then [eSrc e, eDst e] else []
  | .regions l => l.flatMap fun r => [r.1, r.1 + r.2 - 1]
  | _ => (secLoads x).map Prod.fst

/-- CHECK 2 of a section. -/
def State.addrsOk (s : State) (x : FolioSection) : Bool := (sectionAddrs x).all s.decodes

/-! ### Register loads -/

/-- The registers that a folio loads, as first address and end; those of the polders by their place in PLD0. -/
def loadBlocks : List (Nat × Nat) := [
  (0x13000004, 0x1300000C), (0x13100100, 0x13100140), (0x13301000, 0x13301400), (NET_ID, NET_ID + 4), (NET_FLOW_EN 0, NET_FLOW_EN 64),
  (0x20000200, 0x20000400), (0x20008000, 0x20028000), (REF_SEL, REF_IN_CFG + 4), (TB_GOV, TB_GOV + 4),
  (STK_ALIGN_LIM, STK_STEER + 4), (MEM_PATROL, MEM_PATROL + 4), (MF_CFG, MF_ISL + 4), (FAB_TIDE 0, FAB_GATE 0 + 4), (RUL_ROT_CTL, RUL_ROT_CTL + 4),
  (MIR_CFG, MIR_QUAL + 4), (MIR_MAPN, MIR_MAPN + 4), (TAG_CFG, AUTH_CFG + 4), (TAG_SRC 0, TAG_RLY 15 + 4),
  (FB_CTL, FB_VLIM + 4), (FB_PERIOD, FB_PMBUS + 4)] ++
  (List.range 16).map (fun c => (SLU_CH_CFG c, SLU_CH_TIDE c + 4)) ++
  (List.range 4).map (fun i => (PORT_CFG i, PORT_FIR i + 4)) ++ (List.range 4).map (fun i => (TB_SLEW i, TB_SLEW i + 4)) ++
  (List.range 2).map (fun w => (PTP_CFG w, PTP_LOCK w + 4)) ++ (List.range 16).map (fun k => (PUL_CFG k, PUL_WIDTH k + 4)) ++
  (List.range 8).map (fun k => (CAP_CFG k, CAP_CFG k + 4)) ++ (List.range 16).map (fun k => (SAP_CTL k, SAP_TX_MASK k + 4)) ++
  (List.range 32).map (fun k => (LANE_CFG k, LANE_LS_TH k + 4)) ++ (List.range 8).map (fun j => (AUX_CFG j, AUX_OFS j + 4)) ++
  (List.range 16).map (fun w => (COLW_CFG w, COLW_CFG w + 4))

/-- Whether a register is one that a folio loads. -/
def loadable (a : Nat) : Bool := decide (a % 4 = 0) && (inBlocks loadBlocks (foldPolder a) || (inNibRegs a && decide (a % 0x40 = 0x28)))

/-- The range of LOGSYNC by profile, as signed 4-bit codes (R477). -/
def logSyncOk (w : Word) : Bool :=
  let v := (BitVec.ofNat 4 (PTP_CFG_LOGSYNC.get w)).toInt
  match PTP_CFG_PROFILE.get w with
  | 0 => decide (-4 ≤ v) && decide (v ≤ 1)
  | 1 => decide (-7 ≤ v) && decide (v ≤ -1)
  | 2 => decide (-7 ≤ v) && decide (v ≤ 0)
  | _ => false

/-- The ranges that the register maps give fields that a folio loads, where no chapter says what becomes of a value
outside. -/
def loadRanges (a : Nat) : List (Fld × Nat × Nat) :=
  let o := foldPolder a
  if 0x13000000 ≤ o ∧ o < 0x13000100 ∨ a = FAB_TIDE 0 ∨ a = FAB_GATE 0 then [(⟨15, 0⟩, 1, 65535)]
  else if 0x13040100 ≤ o ∧ o < 0x13040500 then
    (match o % 0x40 with
     | 0x00 => [(SLU_CH_CFG_PRIO, 0, 6), (SLU_CH_CFG_TRIG, 0, 2), (SLU_CH_CFG_TRIG_CYC, 0, 102399)]
     | 0x0C => [(SLU_CH_TIDE_LIMIT, 1, 65535)]
     | _ => [])
  else if 0x20000400 ≤ a ∧ a < 0x20000800 ∧ a % 0x100 = 0 then [(PORT_CFG_MODE, 0, 3), (PORT_CFG_FEC, 0, 2)]
  else if 0x20008000 ≤ a ∧ a < 0x20028000 then
    (match a % 0x40 with
     | 0x00 => [(⟨31, 30⟩, 0, 2)]
     | 0x04 => [(⟨31, 30⟩, 0, 2), (⟨28, 27⟩, 0, 2)]
     | _ => [])
  else if 0x20102000 ≤ a ∧ a < 0x20102200 then
    (match a % 0x100 with
     | 0x00 => [(PTP_CFG_PROFILE, 0, 2), (PTP_CFG_ANNTO, 2, 10)]
     | 0x10 => [(PTP_SERVO_STEPTH, 1, 65535)]
     | 0x14 => [(PTP_LOCK_LOCKTH, 1, 65535), (PTP_LOCK_LOCKN, 1, 255)]
     | _ => [])
  else if 0x20104000 ≤ a ∧ a < 0x20104400 ∧ a % 0x40 = 0 then [(PUL_CFG_BASE, 0, 4)]
  else if 0x20105000 ≤ a ∧ a < 0x20105400 ∧ a % 0x80 = 0 then [(CAP_CFG_EDGE, 1, 3)]
  else if 0x20200100 ≤ a ∧ a < 0x20201100 ∧ a % 0x100 = 0 then [(SAP_CTL_FMT, 0, 2), (SAP_CTL_WLEN, 0, 2), (SAP_CTL_WIN, 1, 4)]
  else if 0x20300100 ≤ a ∧ a < 0x20302100 ∧ a % 0x200 = 0 then [(LANE_CFG_BRIDGE, 0, 0)]
  else if a = REF_QUAL then [(REF_QUAL_SOFT, 1, 250), (REF_QUAL_DQT, 1, 255), (REF_QUAL_RQT, 2, 255), (REF_QUAL_DISP, 1, 255)]
  else if a = REF_LOOP then [(REF_LOOP_LOCKTH, 16, 65535), (REF_LOOP_TBW, 1, 40)]
  else if a = REF_HOLD then [(REF_HOLD_GUARD, 0, 8), (REF_HOLD_AVG, 10, 60)]
  else if a = RUL_ROT_CTL then [(RUL_ROT_CTL_PERIOD, 1, 65535)]
  else if a = MIR_STREAM then [(MIR_STREAM_SPKT, 1, 64)]
  else if a = MIR_TIME then [(MIR_TIME_PROMOTE, 1, 255), (MIR_TIME_LISTEN, 1, 4095), (MIR_TIME_ORPHAN, 1, 4095)]
  else if a = MIR_QUAL then [(MIR_QUAL_QUAL, 1, 65535)]
  else if a = MIR_MAPN then [(⟨11, 0⟩, 0, 2048)]
  else if a = TAG_HORIZON then [(⟨19, 0⟩, 1, 1048575)]
  else if a = TAG_HOLD then [(⟨13, 0⟩, 1, 12000)]
  else if a = AUTH_CFG then [(⟨12, 0⟩, 0, 4096)]
  else if a = MEM_PATROL then [(MEM_PATROL_PERIOD, 1, 65535)]
  else if a = MF_ISL then [(MF_ISL_REALIGN_T, 1, 65535), (MF_ISL_ENTER, 1, 65535)]
  else if a = FB_VLIM then [(FB_VLIM_VMAX, 700, 850), (FB_VLIM_VMIN, 700, 850)]
  else if a = FB_PERIOD then [(FB_PERIOD_PERIOD, 10, 3600)]
  else []

/-- Whether a register may be loaded with a word: reserved fields 0, every other field in its range. -/
def loadOk (a : Nat) (w : Word) : Bool :=
  loadable a && (w &&& ~~~regMask a) == 0 && ((loadRanges a).all fun x => decide (x.2.1 ≤ x.1.get w) && decide (x.1.get w ≤ x.2.2)) &&
    !(decide (0x20102000 ≤ a) && decide (a < 0x20102200) && decide (a % 0x100 = 0) && !logSyncOk w)

/-- CHECK 3 of a section: a register load names registers alone; the words of another section that fall on registers are
held to the same. -/
def loadsOk (x : FolioSection) : Bool :=
  (secLoads x).all fun w => if secType x = 1 ∨ secType x = 15 ∨ inRegs w.1 then loadOk w.1 w.2 else true

/-! ### The power list -/

/-- CHECK 4 of a section: every listed domain's container is listed (R44). -/
def State.powerOk (s : State) (x : FolioSection) : Bool :=
  match x.body with
  | .power l => l.all fun d => match outer d with | some o => s.powerList.contains o | none => true
  | _ => true

/-! ### The checks in order (R620, R621) -/

/-- The first section of a list of types; 0xFF when there is none. -/
def State.sectionIx (s : State) (ts : List Nat) : Nat := (firstIdx (fun x => ts.contains (secType x)) s.boot.sections).getD 0xFF

/-- A check over tables as a whole: the failure with the section of its subject. -/
def State.tableCheck (s : State) (code : Nat) (ok : Bool) (ts : List Nat) : Option (Nat × Nat) := if ok then none else some (code, s.sectionIx ts)

/-- The first failing CHECK with its SECTION. -/
def State.validate (s : State) (h : FolioHeader) : Option (Nat × Nat) :=
  let l := s.boot.sections
  ((check1 h l).map fun i => (1, i)) <|>
  ((firstIdx (fun x => !s.addrsOk x) l).map fun i => (2, i)) <|>
  ((firstIdx (fun x => !loadsOk x) l).map fun i => (3, i)) <|>
  ((firstIdx (fun x => !s.powerOk x) l).map fun i => (4, i)) <|>
  s.tableCheck 5 s.check5 [3] <|>
  s.tableCheck 6 s.check6 [5] <|>
  s.tableCheck 7 s.check7 [6] <|>
  s.tableCheck 8 s.check8 [7, 8] <|>
  s.tableCheck 9 s.check9 [1] <|>
  s.tableCheck 10 s.check10 [9, 10] <|>
  s.tableCheck 11 s.check11 [12] <|>
  s.tableCheck 12 s.check12 [13] <|>
  s.tableCheck 13 s.check13 [11]

end Sys2Proof.Machine
end

