-- ==== Sys2Proof/Machine/LaneExec.lean ====
section
/-! DEFINITION. The drive lanes and their levees (spec/09_drive_lanes.md). -/

namespace Sys2Proof.Machine


/-! ### Pairs, states, relay (R297, R308 to R311) -/

/-- Whether lane `k`'s pair is bridged. -/
def State.bridged (s : State) (k : Nat) : Bool := s.on (LANE_CFG (k / 2 * 2)) LANE_CFG_BRIDGE

/-- The lane that holds a lane's levee: the even lane of a bridged pair (R297). -/
def State.leveeOf (s : State) (k : Nat) : Nat := if s.bridged k then k / 2 * 2 else k

/-- Whether a lane with a levee of its own is powered and enabled. -/
def State.laneOn (s : State) (k : Nat) : Bool := s.isOpen 5 && s.on (LANE_CFG k) LANE_CFG_EN

def laneSafe : Nat := 1
def laneArming : Nat := 2
def laneRun : Nat := 3
def laneRetry : Nat := 4
def laneLatched : Nat := 5

def State.laneState (s : State) (k : Nat) : Nat := s.fld (LANE_STAT k) LANE_STAT_STATE

/-- CAUSE of a lane in SAFE: the highest-ranked of those present (R325). -/
def causeCode (l : List SafeCause) : Nat :=
  if l.contains .therm then 3 else if l.contains .sense then 5 else if l.contains .short then 2
  else if l.contains .start then 1 else 0

/-- The lanes of lane `k`'s levee: itself, or both lanes of its bridged pair (R297). -/
def State.laneMembers (s : State) (k : Nat) : List Nat := if s.bridged k then [k / 2 * 2, k / 2 * 2 + 1] else [k]

/-- A calibration under way is abandoned when its lane leaves SAFE, LATCHED or DISABLED; LANE_IOFS stays and the
request stays pending (R327). -/
def State.calAbandon (k : Nat) (s : State) : State :=
  each (s.laneMembers k) (fun k s =>
    if (s.lane k).calibrating then
      (s.setLane k { s.lane k with calibrating := false }).setFld (LANE_STAT k) LANE_STAT_CALPEND 1
    else s) s

/-- The lanes with a levee that take temperature or rail from an auxiliary input. -/
def State.auxUsers (s : State) (j : Nat) : List Nat :=
  (List.range 32).filter fun k => s.leveeOf k == k &&
    ((s.on (LANE_CFG k) LANE_CFG_TEN && s.fld (LANE_CFG k) LANE_CFG_TSRC == j) ||
      (s.on (LANE_CFG k) LANE_CFG_REN && s.fld (LANE_CFG k) LANE_CFG_RSRC == j))

/-- The levees a bitstream belongs to. -/
def State.senseUsers (s : State) (x : Sense) : List Nat :=
  match x with
  | .current k => [s.leveeOf k]
  | .voltage k => [s.leveeOf k]
  | .aux j => s.auxUsers j

/-- Whether every bitstream a lane uses has transitions. -/
def State.senseGood (s : State) (k : Nat) : Bool := s.senseBad.all fun x => !(s.senseUsers x).contains k

/-- A lane goes to SAFE with one more cause: gates 0; the relay stays as it is unless SAFE is entered from
DISABLED, where it is open (R308). LATCHED outranks SAFE (R325). -/
def State.laneToSafe (k : Nat) (c : SafeCause) (s : State) : State :=
  let st := s.laneState k
  if st = laneLatched then s
  else
    let x := s.lane k
    let l := if x.causes.contains c then x.causes else x.causes ++ [c]
    let rly := decide (st ≠ laneDisabled) && s.on (LANE_STAT k) LANE_STAT_RLY
    let s := s.setLane k { x with drive := .off, causes := l, window := none }
    s.setLaneState k laneSafe (causeCode l) rly

/-- A lane goes to ARMING: gates 0, relay closed, TRY kept unless the clear resets it (R309). A bitstream that has
failed and not recovered holds it in SAFE (R307). -/
def State.laneArm (k : Nat) (s : State) : State :=
  let s := s.calAbandon k
  let s := s.setLane k { s.lane k with drive := .off, opening := false, causes := [], retryDue := false, dcOver := 0 }
  let s := s.setLaneState k laneArming 0 true
  if s.senseGood k then s else s.laneToSafe k .sense

/-- A lane goes to LATCHED: gates 0, then the relay opens DT cycles later (R310, R315, R317). Of two causes of the
latch DC ranks above an exhausted short (R325). The time above DC_TH starts anew. -/
def State.laneLatch (k cause : Nat) (s : State) : State :=
  let c := if s.laneState k = laneLatched ∧ s.fld (LANE_STAT k) LANE_STAT_CAUSE = 4 then 4 else cause
  let x := s.lane k
  let x := { x with drive := .off, causes := [], window := none, retryDue := false, dcOver := 0, dcNew := x.dcNew || cause == 4 }
  let s := s.setLane k { x with opening := x.opening || s.on (LANE_STAT k) LANE_STAT_RLY }
  (s.setLaneState k laneLatched c false).mark (EVT_LANE_LATCH k)

/-- Carrier periods in a number of milliseconds (768 kHz). -/
def periodsOf (ms : Nat) : Nat := 768 * ms

/-- The retry ramp starts at −START dB (R314). -/
def State.startRamp (k : Nat) (s : State) : State :=
  let n := periodsOf (s.fld (LANE_RAMP k) LANE_RAMP_RAMP)
  s.setLane k { s.lane k with rampLeft := n, rampLen := n }

/-- The ramp gain in dB of attenuation: linear in the periods left (R314). -/
def State.rampDb (s : State) (k : Nat) : Rat :=
  let x := s.lane k
  if x.rampLen = 0 then 0 else (s.fld (LANE_RAMP k) LANE_RAMP_START : Rat) * x.rampLeft / x.rampLen

/-- A short retry: TRY counts and the ramp starts (R314). -/
def State.laneRetryNow (k : Nat) (s : State) : State :=
  let s := s.calAbandon k
  let s := s.setFld (LANE_STAT k) LANE_STAT_TRY (s.fld (LANE_STAT k) LANE_STAT_TRY + 1)
  let s := s.setLane k { s.lane k with causes := [], retryDue := false }
  (s.setLaneState k laneRetry 0 true).startRamp k

/-- A cause leaves a lane in SAFE: the exit rule that applies to every cause still present (R325). -/
def State.laneUncause (k : Nat) (c : SafeCause) (s : State) : State :=
  let x := s.lane k
  if s.laneState k = laneSafe ∧ x.causes.contains c = true then
    let l := x.causes.filter (· != c)
    let s := s.setLane k { x with causes := l }
    if l.isEmpty then s.laneArm k
    else if l = [SafeCause.short] ∧ x.retryDue = true then s.laneRetryNow k
    else s.setFld (LANE_STAT k) LANE_STAT_CAUSE (causeCode l)
  else s

/-! ### Levee actions -/

/-- A short is declared (R313, R315). -/
def State.laneShort (k : Nat) (s : State) : State :=
  let s := (s.bump (CTR_LANE_SHORT_CNT k)).mark (EVT_LANE_SHORT k)
  if s.fld (LANE_STAT k) LANE_STAT_TRY = s.fld (LANE_RETRY k) LANE_RETRY_TRIES then s.laneLatch k 2
  else s.laneToSafe k .short

/-- Whether a lane's gates modulate. -/
def State.laneRuns (s : State) (k : Nat) : Bool := s.laneState k == laneRun || s.laneState k == laneRetry

/-! ### Sense filters (R305, R306) -/

/-- n + 2 choose 2. -/
def tri (n : Nat) : Int := (n + 1) * (n + 2) / 2

/-- Weight `n` of the sinc³ filter of decimation `r`: the ways to write `n` as a sum of three numbers below `r`. -/
def sincWeight (r n : Nat) : Int :=
  tri n - (if r ≤ n then 3 * tri (n - r) else 0) + (if 2 * r ≤ n then 3 * tri (n - 2 * r) else 0)

/-- The weighted sum of a bitstream, newest bit first from weight `n` on: bit 1 counts +1, bit 0 counts −1. -/
def sincSum (r : Nat) : Nat → List Bool → Int
  | _, [] => 0
  | n, b :: l => (if b then sincWeight r n else -sincWeight r n) + sincSum r (n + 1) l

/-- How many bits the filter spans. -/
def sincSpan (r : Nat) : Nat := 3 * r - 2

/-- The sinc³ filter by `r` as a Q1.31 fraction of full scale (R305, R306), from a bitstream newest bit first; bits
from before the stream began count 0. -/
def sinc3 (r : Nat) (bits : List Bool) : Word :=
  wrap 32 (sat 32 (sincSum r 0 (bits.take (sincSpan r)) * 2 ^ 31 / (r : Int) ^ 3))

/-- The bits of a command's operand, newest first: bit 0 is the oldest. -/
def newestBits {n : Nat} (w : BitVec n) : List Bool := (List.range n).map fun i => w.getLsbD (n - 1 - i)

/-- ILIM_TRIP: a fast-path value above ILIM limits the carrier period from `cycle` on; the third consecutive limited
period is a short (R312, R313). The value is that of the last ten bits. In a bridged pair a trip on either lane
limits both; the odd lane's current is the even lane's inverted. A trip in a period in which another cause has
stopped the gates sets its event and counts towards a short (R325). -/
def execIlimTrip (k : Fin 32) (isd : BitVec 10) (cycle : Fin 1600) (s : State) : Host.Outcome State Fault Refusal :=
  let e := s.leveeOf k
  let x := s.lane e
  let value := (sinc3 4 (newestBits isd)).toInt
  let d := match x.drive with
    | .off => 0
    | .pwm d => d
    | .limited d _ _ => d
  .next (if s.laneOn e && x.ran && decide (2 ^ 19 * s.fld (LANE_ILIM e) LANE_ILIM_ILIM < value.natAbs) && !x.tripped then
    let s := s.mark (EVT_LANE_ILIM e)
    let s :=
      if s.laneRuns e then
        (s.bump (CTR_LANE_ILIM_CNT e)).setLane e { x with drive := .limited d (decide (value < 0) != decide (e ≠ k.val)) cycle.val }
      else s
    let s := s.setLane e { s.lane e with tripped := true, limited := x.limited + 1 }
    if 3 ≤ x.limited + 1 then s.laneShort e else s
  else s)

/-! ### Pins (R294, R296, R302, R310 to R312) -/

/-- Dead time: 0 acts as 1, above 61 as 61 (R296). -/
def State.deadTime (s : State) (k : Nat) : Nat :=
  let d := s.fld (LANE_DT k) LANE_DT_DT
  if d = 0 then 1 else if 61 < d then 61 else d

/-- Whether LANEk_HI is 1 at cycle `c` of a period with duty code `d` (R302). -/
def pwmHi (d dt c : Nat) : Bool := decide (800 - d / 2 + dt ≤ c ∧ c < 800 + (d + 1) / 2)

/-- Whether LANEk_LO is 1 there; where the period before ended with LANEk_HI at 1, only after the dead time (R296). -/
def pwmLo (late : Bool) (d dt c : Nat) : Bool :=
  (decide (c < 800 - d / 2) && !(late && decide (c < dt))) || decide (800 + (d + 1) / 2 + dt ≤ c ∧ c < 1600)

/-- LANEk_HI and LANEk_LO at cycle `c` of lane `k`'s carrier period in hand. The odd lane of a bridged pair takes the
even lane's code inverted (R297, R302). Limited, the gate that drives the current goes to 0 at the trip's cycle; the
other, where it is not 1 already, follows DT cycles later and stays 1 (R312). -/
def State.laneGates (s : State) (k c : Nat) : Bool × Bool :=
  let x := s.lane (s.leveeOf k)
  let odd := decide (s.leveeOf k ≠ k)
  let dt := s.deadTime k
  let code := fun d => if odd then 1600 - d else d
  let late := x.ended == some (!odd)
  if s.isOpen 5 && decide (s.mode ≠ modeDark) && decide (s.mode ≠ modeLoad) then
    match x.drive with
    | .off => (false, false)
    | .pwm d => (pwmHi (code d) dt c, pwmLo late (code d) dt c)
    | .limited d hi cycle =>
      let h := fun c => pwmHi (code d) dt c
      let l := fun c => pwmLo late (code d) dt c
      if c < cycle then (h c, l c)
      else if hi != odd then (decide (cycle + dt ≤ c) || h (cycle - 1), false)
      else (false, decide (cycle + dt ≤ c) || l (cycle - 1))
  else (false, false)

/-- LANEk_RLY `c` cycles after the last action on the relay: an opening relay follows DT cycles after the gates
(R310, R311). -/
def State.laneRelay (s : State) (k c : Nat) : Bool :=
  let e := s.leveeOf k
  s.isOpen 5 && decide (s.mode ≠ modeDark) && decide (s.mode ≠ modeLoad) &&
    (s.on (LANE_STAT e) LANE_STAT_RLY || ((s.lane e).opening && decide (c < s.deadTime e)))

/-- RETRY_WAIT_EXPIRY: LANE_RETRY.WAIT has passed in SAFE with cause SHORT (R314, R320). -/
def execRetryWaitExpiry (k : Fin 32) (s : State) : Host.Outcome State Fault Refusal :=
  let e := s.leveeOf k
  .next (if s.laneState e = laneSafe ∧ (s.lane e).causes.contains .short = true then
    if (s.lane e).causes = [SafeCause.short] then s.laneRetryNow e
    else s.setLane e { s.lane e with retryDue := true }
  else s)

/-- TRY_RESET: 10 s of RUN at 0 dB ramp gain without a short (R315). -/
def execTryReset (k : Fin 32) (s : State) : Host.Outcome State Fault Refusal :=
  let e := s.leveeOf k
  .next (if s.laneState e = laneRun ∧ (s.lane e).rampLeft = 0 then s.setFld (LANE_STAT e) LANE_STAT_TRY 0 else s)

/-- The clear of a latched lane; one that applies in the same boundary as a new DC latch leaves it LATCHED (R316,
R325). -/
def State.laneClear (k : Nat) (s : State) : State :=
  let e := s.leveeOf k
  if s.laneState e = laneLatched ∧ (s.lane e).dcNew = false then (s.laneArm e).setFld (LANE_STAT e) LANE_STAT_TRY 0 else s

/-- LANE_CLR. -/
def execLaneClr (k : Fin 32) (s : State) : Host.Outcome State Fault Refusal := .next (s.laneClear k)

/-- DC_LATCH: the filtered voltage has stayed above DC_TH for DC_T (R317). A DISABLED lane stays so (R308), and a lane
that DC has latched is latched. -/
def execDcLatch (k : Fin 32) (s : State) : Host.Outcome State Fault Refusal :=
  let e := s.leveeOf k
  let need := periodsOf (10 * s.fld (LANE_DC e) LANE_DC_DC_T)
  let st := s.laneState e
  .next (if s.laneOn e && decide (need ≤ (s.lane e).dcOver) && decide (st ≠ laneDisabled) &&
      !(decide (st = laneLatched) && decide (s.fld (LANE_STAT e) LANE_STAT_CAUSE = 4)) then
    (s.mark (EVT_LANE_DC e)).laneLatch e 4
  else s)

/-! ### Sense inputs (R306, R307, R318 to R320) -/

/-- SENSE_FAIL: no transition for 64 sense clocks (R307). -/
def execSenseFail (x : Sense) (s : State) : Host.Outcome State Fault Refusal :=
  .next (if s.isOpen 5 then
    let s := s.withSenseBad (if s.senseBad.contains x then s.senseBad else s.senseBad ++ [x])
    let s := match x with
      | .aux j => s.setRegBit AUX_STAT j.val true
      | _ => s
    each (s.senseUsers x) (fun k s =>
      if s.laneOn k && decide (s.laneState k ≠ laneDisabled) then (s.mark (EVT_LANE_SENSE k)).laneToSafe k .sense else s) s
  else s)

/-- SENSE_RECOVER: transitions for a whole stroke (R307, R333). -/
def execSenseRecover (x : Sense) (s : State) : Host.Outcome State Fault Refusal :=
  let users := s.senseUsers x
  let s := s.withSenseBad (s.senseBad.filter (· != x))
  let s := match x with
    | .aux j => s.setRegBit AUX_STAT j.val false
    | _ => s
  .next (each users (fun k s => if s.senseGood k then s.laneUncause k .sense else s) s)

/-- AUX_VAL as signed Q16.16: OFS + GAIN·d, d the filter output as a Q1.31 fraction (R306). -/
def auxValue (gain ofs d : Word) : Word := wrap 32 (ofs.toInt + gain.toInt * d.toInt / 2 ^ 31)

/-- The held temperature (R318). -/
def heldTemp (th : Option Int) (t hys : Int) : Int :=
  match th with
  | none => t
  | some h => if h < t then t else if t < h - hys then t + hys else h

/-- One degree in Q16.16. -/
def degree (n : Nat) : Int := 65536 * n

/-- The fold-back reduction r in dB for a held temperature (R319). -/
def foldTarget (th tfb fbmax : Int) : Rat := ((min (65536 * fbmax) (max 0 (th - tfb)) : Int) : Rat) / 65536

/-- The thermal work of one lane for a stroke (R318 to R320). -/
def State.laneThermal (k : Nat) (s : State) : State :=
  let j := s.fld (LANE_CFG k) LANE_CFG_TSRC
  if s.laneOn k && s.on (LANE_CFG k) LANE_CFG_TEN && !bitOf (s.reg AUX_STAT) j then
    let t := (s.reg (AUX_VAL j)).toInt
    let hys := degree (s.fld (LANE_THERM k) LANE_THERM_HYS)
    let tsd := degree (s.fld (LANE_THERM k) LANE_THERM_TSD)
    let th := heldTemp (s.lane k).th t hys
    let s := s.setLane k { s.lane k with th := some th }
    if tsd ≤ t then
      if s.laneState k = laneDisabled then s
      else (s.mark (EVT_LANE_THERM k)).laneToSafe k .therm
    else if t < tsd - hys then s.laneUncause k .therm
    else s
  else s

/-- LANE_STAT.LEVEE: ramp, fold-back and g, in 1/64 dB (R326). -/
def State.laneLevee (k : Nat) (s : State) : State :=
  let x := s.lane k
  let v := (64 * (s.rampDb k + x.fold)).floor.toNat + Config.gainToDb64 x.sag
  s.setFld (LANE_STAT k) LANE_STAT_LEVEE (Nat.min v 65535)

/-- LEVEE_STROKE_UPDATE: once per stroke, with the bits each auxiliary input has given since the last update, oldest
first (R306, R318, R326). -/
def execLeveeStrokeUpdate (aux : List (List Bool)) (s : State) : Host.Outcome State Fault Refusal :=
  .next (if s.isOpen 5 then
    let s := each (List.range 8) (fun j s =>
      let bits := ((aux.getD j []).reverse ++ SMap.get (fun _ => []) s.auxBits j).take (sincSpan 2048)
      let s := s.withAuxBits (SMap.set (fun _ => []) s.auxBits j bits)
      if s.on (AUX_CFG j) AUX_CFG_EN && !bitOf (s.reg AUX_STAT) j then
        s.setReg (AUX_VAL j) (auxValue (s.reg (AUX_GAIN j)) (s.reg (AUX_OFS j)) (sinc3 2048 bits))
      else s) s
    each (List.range 32) (fun k s => if s.leveeOf k = k then (s.laneThermal k).laneLevee k else s) s
  else s)

/-! ### Slate and carrier (R298 to R304, R321 to R323, R328, R329) -/

/-- One lane's settled read: samples in Q1.31, poison and STALE as R328 says. -/
def State.laneFetch (k : Nat) (s : State) : State :=
  if s.laneOn k && s.leveeOf k == k then
    let (b, s) := s.readBlock (s.readCopy false) (s.fld (LANE_CFG k) LANE_CFG_SRC) false
    let s := if b.stale then (s.bump (CTR_LANE_STALE_CNT k)).mark (EVT_LANE_STALE k) else s
    let n := (b.words.filter (·.2)).length
    let s := if n = 0 then s else (s.bumpBy (CTR_LANE_POISON_CNT k) n).mark (EVT_LANE_POISON k)
    let zero := b.stale && s.on (LANE_CFG k) LANE_CFG_STALEZ
    let f32 := s.on (LANE_CFG k) LANE_CFG_SFMT
    let vals := b.words.map fun w => if zero || w.2 then (0 : Word) else if f32 then (f32ToQ31 w.1).w else w.1
    let h := (s.lane k).hist ++ vals
    s.setLane k { s.lane k with hist := h.drop (h.length - 64) }
  else s

/-- LANE_SLOT_READ: every enabled lane, in lane order, during cycles 3,072 to 3,199 (R298). -/
def execLaneSlotRead (s : State) : Host.Outcome State Fault Refusal :=
  .next (each (List.range 32) (fun k s => s.laneFetch k) (s.atRoot 3072))

/-- One step of the dither LFSR (R301). -/
def ditherStep (x : Word) : Word := if bitOf x 0 then (x >>> 1) ^^^ 0x80200003 else x >>> 1

/-- A fraction from a Q1.31 word. -/
def fracOf (w : Word) : Rat := (w.toInt : Rat) / 2 ^ 31

/-- The rail-sag limiter (R321): the new g, the clamped value, whether the clamp acted. -/
def sagLimit (frac atk rel : Nat) (v nom y g : Rat) : Rat × Rat × Bool :=
  let c := min 1 (if nom = 0 then Config.overZero v else (frac : Rat) / 100 * v / nom)
  let ay := if y < 0 then -y else y
  let t := if y = 0 then 1 else min 1 (c / ay)
  let a : Rat := if t < g then atk else rel
  let g' := g + (t - g) * (1 - Config.exp (-(1302 / 1000000 : Rat) / a))
  let o := y * g'
  let o' := if o < -c then -c else if c < o then c else o
  (g', o', decide (o' ≠ o))

/-- The duty code before limiting: the ideal duty with dither and the shaper's feedback, rounded (R301). -/
def dutyCode (u : Rat) (dither : Nat) (errs : List Rat) : Int :=
  (800 + 800 * u - Config.shaper errs + ((2 * (dither : Rat) - 7) / 16) + 1 / 2).floor

/-- The turns of the pilot `t` carrier periods into a window (R323). -/
def State.pilotTurns (s : State) (k t : Nat) : Rat := (s.fld (LANE_LS k) LANE_LS_FREQ : Rat) * t / 768000

/-- The pilot of a running load-sense window (R323). -/
def State.pilot (s : State) (k : Nat) : Rat :=
  match (s.lane k).window with
  | none => 0
  | some w => Config.dbToGain (-(s.fld (LANE_LS k) LANE_LS_PILOT : Rat)) * Config.sine (s.pilotTurns k w.t)

/-- One carrier period of a window: current and voltage as fractions, correlated with sine and cosine (R323). -/
def State.correlate (s : State) (k : Nat) (cur vol : Rat) (w : LoadWin) : LoadWin :=
  let sn := Config.sine (s.pilotTurns k w.t)
  let cs := Config.sine (s.pilotTurns k w.t + 1 / 4)
  { t := w.t + 1, iSin := w.iSin + cur * sn, iCos := w.iCos + cur * cs, vSin := w.vSin + vol * sn, vCos := w.vCos + vol * cs }

/-- One update of DC detection's low-pass: 0.5 Hz, a time constant of 318.3 ms, once per carrier period (R317). -/
def dcFilter (y x : Rat) : Rat := y + (x - y) * (1 - Config.exp (-(1 / 768 : Rat) / (3183 / 10)))

/-- One carrier period of a lane with its levee: `pairV` is its output voltage as a fraction of full scale (R299,
R300, R301, R313, R314, R317, R319, R321, R322). -/
def State.carrier (k : Nat) (i : Nat) (pairV : Rat) (s : State) : State :=
  let x := s.lane k
  let seed := s.reg (LANE_SEED k)
  let lf := x.lfsr.getD (if seed = 0 then 1 else seed)
  let nom : Rat := (s.fld (LANE_RAIL_NOM k) ⟨15, 0⟩ : Rat) / 10
  let vfs : Rat := (s.fld (LANE_SCALE k) LANE_SCALE_VFS : Rat) / 10
  let dc := dcFilter x.dc (pairV * vfs)
  let th : Rat := (s.fld (LANE_DC k) LANE_DC_DC_TH : Rat) / 100
  let n := if (if dc < 0 then -dc else dc) > th then x.dcOver + 1 else 0
  let run := s.laneRuns k
  let limited := if x.tripped && run then x.limited else 0
  let ended := match x.drive with
    | .limited _ hi _ => some hi
    | _ => none
  -- levee gains
  let left := if run then x.rampLeft - 1 else x.rampLeft
  let r := match x.th with
    | some h => if s.on (LANE_CFG k) LANE_CFG_TEN then foldTarget h (degree (s.fld (LANE_THERM k) LANE_THERM_TFB)) (s.fld (LANE_THERM k) LANE_THERM_FBMAX) else 0
    | none => 0
  let stepDb : Rat := 1 / 256
  let fold := if x.fold < r then min r (x.fold + stepDb) else max r (x.fold - stepDb)
  let mute : Rat := if s.muted then 0 else 1
  let sig := if 64 ≤ i then 0 else Config.laneInterp x.hist s.samples i
  let y := sig * (Config.dbToGain (-(s.rampDb k)) * Config.dbToGain (-fold) * mute) + s.pilot k
  let ren := s.on (LANE_CFG k) LANE_CFG_REN
  let rail : Rat := ((s.reg (AUX_VAL (s.fld (LANE_CFG k) LANE_CFG_RSRC))).toInt : Rat) / 65536
  let (g, o, clamped) :=
    if ren then sagLimit (s.fld (LANE_SAG k) LANE_SAG_FRAC) (s.fld (LANE_SAG k) LANE_SAG_ATK) (s.fld (LANE_SAG k) LANE_SAG_REL) rail nom y x.sag
    else (x.sag, y, false)
  -- loop, shaper, duty
  let kk : Rat := (s.fld (LANE_LOOP k) LANE_LOOP_K : Rat) / 65536
  let sense := if nom = 0 then Config.overZero (pairV * vfs) else pairV * vfs / nom
  let acc := if kk = 0 then 0 else x.acc + kk * (x.step4 - sense)
  let u := o + acc
  let dt := s.deadTime k
  let d := dutyCode u (lf.toNat % 8) x.errs
  let d' := clampI (dt + 16) (1584 - dt) d
  let err : Rat := (d' : Rat) - (800 + 800 * u)
  let drive : Drive := if run then .pwm d'.toNat else .off
  let sensed := s.on (LANE_LS k) LANE_LS_LSEN && s.laneState k == laneRun
  let window := if sensed then x.window.map (s.correlate k (fracOf x.slowI) pairV) else none
  let x := { x with lfsr := some (ditherStep lf), dc := dc, dcOver := n, limited := limited, tripped := false, window := window }
  let x := { x with rampLeft := left, fold := fold, sag := g, acc := acc, step4 := o, drive := drive }
  let x := { x with ended := ended, opening := false, ran := run, dcNew := false, sq := x.sq + sig * sig, sqN := x.sqN + 1 }
  let s := s.setLane k { x with errs := (err :: x.errs).take 5 }
  let s := if clamped || decide (d' ≠ d) then s.bump (CTR_LANE_CLIP_CNT k) else s
  let s := if 0 < r then s.mark (EVT_LANE_FOLD k) else s
  let s := if g < 1 then s.mark (EVT_LANE_SAG k) else s
  if s.laneState k = laneRetry ∧ left = 0 then s.setFld (LANE_STAT k) LANE_STAT_STATE laneRun else s

/-- The slow paths of one lane take the bits of the period that ends: voltage and current, the current less LANE_IOFS
(R305). The odd lane of a bridged pair has its voltage bits from the even lane's command. A calibration adds the current as the filter gives it (R327). -/
def State.senseLane (k : Nat) (isd vsd : BitVec 32) (s : State) : State :=
  let x := s.lane k
  let is := (newestBits isd ++ x.isd).take (sincSpan 32)
  let vs := if s.leveeOf k = k then (newestBits vsd ++ x.vsd).take (sincSpan 32) else x.vsd
  let cur := (sinc3 32 is).toInt
  let x := { x with isd := is, vsd := vs, slowI := wrap 32 (sat 32 (cur - (s.reg (LANE_IOFS k)).toInt)), slowV := sinc3 32 vs }
  s.setLane k (if x.calibrating then { x with calSum := x.calSum + cur, calN := x.calN + 1 } else x)

/-- CARRIER_PERIOD: carrier period `i` of the stroke starts, with the 32 bits that each sense bitstream gave during the
period before; `pair` is the voltage bitstream of the odd lane, read where `k` is the even lane of a bridged pair
(R297, R299, R305). Periods from 64 on are those an alignment stroke adds (R303). -/
def execCarrierPeriod (k : Fin 32) (i : Fin 112) (isd vsd pair : BitVec 32) (s : State) : Host.Outcome State Fault Refusal :=
  .next (if s.isOpen 5 then
    let s := s.atRoot (1600 * i.val + 50 * s.fld (LANE_DT k) LANE_DT_PHASE)
    let s := s.senseLane k isd vsd
    if s.on (LANE_CFG k) LANE_CFG_EN && s.leveeOf k == k.val then
      let own := fracOf (s.lane k).slowV
      if s.bridged k then
        let vs := (newestBits pair ++ (s.lane (k + 1)).vsd).take (sincSpan 32)
        (s.setLane (k + 1) { s.lane (k + 1) with vsd := vs, slowV := sinc3 32 vs }).carrier k i.val (own - fracOf (sinc3 32 vs))
      else s.carrier k i.val own
    else s
  else s)

/-! ### Relay, load sense, calibration -/

/-- RELAY_SETTLE_EXPIRY: the settle time of ARMING has passed; RUN with the ramp (R309). -/
def execRelaySettleExpiry (k : Fin 32) (s : State) : Host.Outcome State Fault Refusal :=
  let e := s.leveeOf k
  .next (if s.laneState e = laneArming then (s.setLaneState e laneRun 0 true).startRamp e else s)

/-- The load class of an impedance in 0.01 Ω (R324). -/
def loadClass (z openTh shortTh : Nat) : Nat :=
  if 10 * openTh < z then 1 else if 200 ≤ z ∧ z ≤ 1600 then 2 else if z < 10 * shortTh then 3 else 4

/-- The impedance a window has measured, in 0.01 Ω: Z = |V|·VFS/(|I|·IFS), VFS in 0.1 V and IFS in 0.01 A, rounded
down; a current of zero reads as open (R323). -/
def loadZ (w : LoadWin) (vfs ifs : Nat) : Nat :=
  let v := (w.vSin * w.vSin + w.vCos * w.vCos) * ((1000 * vfs : Nat) * (1000 * vfs : Nat) : Rat)
  let i := (w.iSin * w.iSin + w.iCos * w.iCos) * ((ifs : Rat) * ifs)
  if i = 0 then 65535 else (v / i).floor.toNat.sqrt

/-- Whether the program level of a window, the RMS of `n` values whose squares add to `sq`, is at or below −`level` dB
of full scale (R322): (sq/n)^10 against 10^−level. -/
def quietLevel (sq : Rat) (n level : Nat) : Bool := decide ((sq / n) ^ 10 * 10 ^ level ≤ 1)

/-- LOAD_SENSE_WINDOW_END: a 1 s window ends. A window that ran reports; the next runs only at or below −LEVEL, in RUN,
with LSEN (R322 to R324). -/
def execLoadSenseWindowEnd (k : Fin 32) (s : State) : Host.Outcome State Fault Refusal :=
  let e := s.leveeOf k
  let s :=
    match (s.lane e).window with
    | some w =>
      let z := loadZ w (s.fld (LANE_SCALE e) LANE_SCALE_VFS) (s.fld (LANE_SCALE e) LANE_SCALE_IFS)
      let c := loadClass z (s.fld (LANE_LS_TH e) LANE_LS_TH_OPEN) (s.fld (LANE_LS_TH e) LANE_LS_TH_SHORT)
      let old := s.fld (LANE_STAT e) LANE_STAT_LOAD
      let s := s.setReg (LANE_LOAD_Z e) (BitVec.ofNat 32 (if 65534 < z then 0xFFFF else z))
      let s := s.setFld (LANE_STAT e) LANE_STAT_LOAD c
      if c = old then s else s.mark (EVT_LANE_LOAD e)
    | none => s
  let x := s.lane e
  let want := s.laneOn e && s.on (LANE_LS e) LANE_LS_LSEN && s.laneState e == laneRun
  let quiet := quietLevel x.sq x.sqN (s.fld (LANE_LS e) LANE_LS_LEVEL)
  let s := s.setLane e { x with window := if want && quiet then some {} else none, sq := 0, sqN := 0 }
  .next (if want then s.setFld (LANE_STAT e) LANE_STAT_LSSKIP (b2n (!quiet)) else s)

/-- A calibration request applies (R327); a refused one is BUSY and stays pending (R600). -/
def State.calRequest (k : Nat) (s : State) : State :=
  let st := s.laneState (s.leveeOf k)
  let still := st == laneSafe || st == laneLatched || st == laneDisabled
  if still || !s.live then
    (s.setLane k { s.lane k with calibrating := true, calSum := 0, calN := 0 }).setFld (LANE_STAT k) LANE_STAT_CALPEND 0
  else (s.mark EVT_MF_BUSY).setFld (LANE_STAT k) LANE_STAT_CALPEND 1

/-- ICAL. -/
def execIcal (k : Fin 32) (s : State) : Host.Outcome State Fault Refusal := .next (if s.isOpen 5 then s.calRequest k else s)

/-- CALIBRATION_DONE: the average over 1,200 strokes, 76,800 carrier periods, becomes LANE_IOFS, rounded down (R327). -/
def execCalibrationDone (k : Fin 32) (s : State) : Host.Outcome State Fault Refusal :=
  let x := s.lane k
  .next (if x.calibrating && decide (76800 ≤ x.calN) then
    (s.setLane k { x with calibrating := false }).setReg (LANE_IOFS k) (wrap 32 (sat 32 (x.calSum / x.calN)))
  else s)

/-! ### Modes -/

/-- A folio has loaded: each lane with EN = 1 enters SAFE with cause START, the relay open; D_OUT is reported
(R304, R309). -/
def State.lanesLoaded (s : State) : State :=
  each (List.range 32) (fun k s =>
    let s := s.setReg (LANE_OFS k) (BitVec.ofNat 32 (4096 + 4 * s.samplePeriod))
    let x := s.lane k
    let s := s.setLane k { isd := x.isd, vsd := x.vsd }
    if s.laneOn k && s.leveeOf k == k then
      let s := (s.setLaneState k laneDisabled 0 false).laneToSafe k .start
      if s.senseGood k then s else s.laneToSafe k .sense
    else s) s

/-- The first boundary of POISED: lanes in SAFE with cause START enter ARMING (R309). -/
def State.lanesArming (s : State) : State :=
  each (List.range 32) (fun k s => s.laneUncause k .start) s

end Sys2Proof.Machine
end

