-- ==== Sys2Proof/Machine/PtpExec.lean ====
section
/-! DEFINITION. The two PTP instances and their servo (spec/14_time_bases.md, R477 to R484). -/

namespace Sys2Proof.Machine

/-- Port states of IEEE 1588-2019. -/
def ptpListening : Nat := 4
def ptpMaster : Nat := 6
def ptpSlave : Nat := 9

def State.ptpState (s : State) (w : Nat) : Nat := s.fld (PTP_STAT w) PTP_STAT_PORTSTATE

/-- Whether an instance runs (R484). -/
def State.ptpRuns (s : State) (w : Nat) : Bool :=
  s.on (PTP_CFG w) PTP_CFG_EN && !(s.mode == modeDark || s.mode == modeSealed) && (s.dom (s.activePort w)).on

/-- A PTP time in units of 2^-32 ns. -/
def ptpUnits (t : PtpTime) : Int := ((t.sec.toNat * secUnits + t.ns.toNat * nsUnits : Nat) : Int)

/-- A base's value as a PTP time. -/
def unitsPtp (v : Nat) : PtpTime := ⟨BitVec.ofNat 48 (tbSec v), BitVec.ofNat 32 (tbNs v)⟩

/-- The base's value at a received or a sent stamp (R480). -/
def State.rxTime (s : State) (w : Nat) (c : BitVec 64) : Int :=
  ((s.tbAt w (c - BitVec.ofNat 64 (s.fld (PTP_LAT w) PTP_LAT_RXLAT)) : Nat) : Int)
def State.txTime (s : State) (w : Nat) (c : BitVec 64) : Nat := s.tbAt w (c + BitVec.ofNat 64 (s.fld (PTP_LAT w) PTP_LAT_TXLAT))

/-- The profiles of R477. -/
def profileAvb : Nat := 2

/-- Whether an instance measures the delay peer to peer (R477). -/
def State.ptpP2p (s : State) (w : Nat) : Bool :=
  let p := s.fld (PTP_CFG w) PTP_CFG_PROFILE
  decide (p = profileAvb) || (decide (p = 1) && s.on (PTP_CFG w) PTP_CFG_P2P)

/-- The transport of an instance's profile. -/
def State.ptpTransport (s : State) (w : Nat) : PtpTransport :=
  if s.fld (PTP_CFG w) PTP_CFG_PROFILE = profileAvb then .layer2 else if s.on (PTP_CFG w) PTP_CFG_IPV6 then .udp6 else .udp4

/-- A frame with a PTP message arrives: whether the instance takes it, on the port that is active. A message of another
domain or transport is dropped and counted (R478). -/
def State.ptpIn (w : Nat) (x : Wire) (s : State) : Bool × State :=
  let i := if x.standby then w + 2 else w
  let (ok, s) := s.takesFrame i x.frame false
  if ok then
    if s.activePort w ≠ i ∨ s.ptpRuns w = false then (false, s.bump (CTR_PORT_RX_OTHER i))
    else if x.domain.toNat ≠ s.fld (PTP_CFG w) PTP_CFG_DOMAIN ∨ x.transport ≠ s.ptpTransport w then (false, s.bump (CTR_PTP_RX_IGN w))
    else (true, s)
  else (false, s)

/-- Whether a message comes from the parent. -/
def State.ptpParent (s : State) (w : Nat) (x : Wire) : Bool := ((s.ptp w).parent.map fun p => p.1) == some x.sender

/-! ### Lock (R482) -/

/-- LOCK as PTP_STAT and the base's TB_STAT show it. -/
def State.setLock (w : Nat) (b : Bool) (s : State) : State :=
  let was := s.on (PTP_STAT w) PTP_STAT_LOCK
  let s := (s.setFld (PTP_STAT w) PTP_STAT_LOCK (b2n b)).setFld (TB_STAT w) TB_STAT_LOCK (b2n b)
  if was = b then s else if b then s.mark (EVT_TB_LOCK w) else s.mark (EVT_TB_UNLOCK w)

/-- Enter a port state; LOCK exists only in SLAVE state. -/
def State.ptpEnter (w x : Nat) (s : State) : State :=
  let s := s.setFld (PTP_STAT w) PTP_STAT_PORTSTATE x
  if x = ptpSlave then s else s.setLock w false

/-- One more offset judged against LOCKTH. -/
def State.judgeLock (w : Nat) (o : Int) (s : State) : State :=
  let th : Int := (s.fld (PTP_LOCK w) PTP_LOCK_LOCKTH : Int) * (nsUnits : Int)
  let a : Int := if o < 0 then -o else o
  let x := s.ptp w
  let x := { x with good := if a ≤ th then x.good + 1 else 0, bad := if 4 * th < a then x.bad + 1 else 0 }
  let s := s.setPtp w x
  if 4 ≤ x.bad then s.setLock w false
  else if s.ptpState w = ptpSlave ∧ s.fld (PTP_LOCK w) PTP_LOCK_LOCKN ≤ x.good then s.setLock w true
  else s

/-! ### The servo (R481) -/

/-- The Sync interval in triads. -/
def State.syncTriads (s : State) (w : Nat) : Int :=
  let l : Int := (BitVec.ofNat 4 (s.fld (PTP_CFG w) PTP_CFG_LOGSYNC)).toInt
  if l < 0 then 409600000 / 2 ^ l.natAbs else 409600000 * 2 ^ l.natAbs

/-- Set P of a PTP base. -/
def State.setPend (w : Nat) (p : Int) (s : State) : State :=
  let s := s.tbSync w
  s.setTb w { s.tb w with p := clampI (-pendLimit) pendLimit p }

/-- The servo takes one offset. -/
def State.servo (w : Nat) (o : Int) (s : State) : State :=
  let a : Int := if o < 0 then -o else o
  if (s.fld (PTP_SERVO w) PTP_SERVO_STEPTH : Int) * 1000 * (nsUnits : Int) < a then
    if s.mayStep w then
      let s := s.tbStep w s.tim.sysCnt (tbMove (s.tbNow w) (-o)) (s.tbPend w)
      s.setPtp w { s.ptp w with discard := true }
    else s.setPend w (-o)
  else
    let d := truncDiv o (s.syncTriads w) / 2 ^ s.fld (PTP_SERVO w) PTP_SERVO_KI
    (s.tbSetRate w (s.tbRate w - d)).setPend w (-(o / 2 ^ s.fld (PTP_SERVO w) PTP_SERVO_KP))

/-- A complete Sync: what the delay mechanism needs of it, the offset from master, the registers that show it, the
lock, the servo. -/
def State.ptpMeasure (w : Nat) (t1 : PtpTime) (corr : Int) (rx : BitVec 64) (s : State) : State :=
  let sent := ptpUnits t1 + 2 ^ 16 * corr
  let s := s.setPtp w { s.ptp w with sync := some (sent, s.rxTime w rx) }
  let x := s.ptp w
  if s.ptpState w ≠ ptpSlave ∨ x.delayOk = false then s
  else if x.discard then s.setPtp w { x with discard := false }
  else
    let asym : Int := (s.reg (PTP_ASYM w)).toInt * (nsUnits : Int)
    let o := s.rxTime w rx - sent - x.delay - asym
    let s := s.setReg (PTP_OFFSET w) (BitVec.ofInt 32 (sat 32 (o / (nsUnits : Int))))
    (s.judgeLock w o).servo w o

/-- PTP_SYNC (R478, R480 to R483). -/
def execPtpSync (w : Fin 2) (m : PtpSync) (s : State) : Host.Outcome State Fault Refusal :=
  let (ok, s) := s.ptpIn w m.wire
  .next (if ok ∧ s.ptpState w = ptpSlave ∧ s.ptpParent w m.wire = true then
    let s := s.bump (CTR_PTP_RX_SYNC w)
    if m.twoStep then s.setPtp w { s.ptp w with waiting := some m }
    else (s.setPtp w { s.ptp w with waiting := none }).ptpMeasure w m.origin m.corr m.rx
  else s)

/-- PTP_FOLLOW_UP: the Sync that waited is complete. -/
def execPtpFollowUp (w : Fin 2) (m : PtpFollowUp) (s : State) : Host.Outcome State Fault Refusal :=
  let (ok, s) := s.ptpIn w m.wire
  .next (if ok && s.ptpParent w m.wire then
    match (s.ptp w).waiting with
    | some y =>
      if y.seq = m.seq then (s.setPtp w { s.ptp w with waiting := none }).ptpMeasure w m.origin (y.corr + m.corr) y.rx else s
    | none => s
  else s)

/-- The clock identity of an instance: its MAC with 0xFF, 0xFE after the third byte. -/
def State.clockId (s : State) (w : Nat) : BitVec 64 :=
  let m := s.nwMac w
  m.extractLsb' 24 24 ++ 0xFFFE#16 ++ m.extractLsb' 0 24

/-- Its one port. -/
def State.portId (s : State) (w : Nat) : BitVec 80 := s.clockId w ++ 1#16

/-- The mean path delay takes a new value (R480, R483). -/
def State.setDelay (w : Nat) (d : Int) (s : State) : State :=
  let s := s.setPtp w { s.ptp w with delayOk := true, delay := d }
  let s := s.setReg (PTP_DELAY w) (BitVec.ofInt 32 (clampI 0 (2 ^ 32 - 1) (d / (nsUnits : Int))))
  if s.fld (PTP_CFG w) PTP_CFG_PROFILE = profileAvb then s.setFld (PTP_STAT w) PTP_STAT_ASCAPABLE 1 else s

/-- The instance sends a message. -/
def State.ptpSend (w : Nat) (k : PtpKind) (q : BitVec 16) (t : Option PtpTime) (port : BitVec 80) (s : State) : State :=
  if s.portLive (s.activePort w) && !s.isSealing then (s.sendCtl w (.ptp k q t port)).bump (CTR_PTP_TX w) else s

/-- PTP_DELAY_MESSAGE: a request is answered, by a master or by the peer; a response to a request of this instance's
gives the mean path delay, end to end from the last Sync, or from peer to peer (R477, R478, R480, R483). -/
def execPtpDelayMessage (w : Fin 2) (m : PtpDelay) (s : State) : Host.Outcome State Fault Refusal :=
  let (ok, s) := s.ptpIn w m.wire
  let x := s.ptp w
  let mine := m.port == s.portId w
  .next (if ok then
    match m.body with
    | .req rx =>
      if s.ptpP2p w = false ∧ s.ptpState w = ptpMaster then s.ptpSend w .delayResp m.seq (some (unitsPtp (s.rxTime w rx).toNat)) m.port else s
    | .resp receive =>
      match x.sync, x.req with
      | some (t1, t2), some (q, t3) =>
        if s.ptpP2p w = false ∧ mine = true ∧ q = m.seq ∧ s.ptpParent w m.wire = true then
          (s.setPtp w { x with req := none }).setDelay w (((t2 - t1) + (ptpUnits receive - t3) - 2 ^ 16 * m.corr) / 2)
        else s
      | _, _ => s
    | .pdelayReq rx =>
      if s.ptpP2p w then
        let s := s.ptpSend w .pdelayResp m.seq (some (unitsPtp (s.rxTime w rx).toNat)) m.port
        s.ptpSend w .pdelayRespFollowUp m.seq (some (unitsPtp (s.txTime w s.tim.sysCnt))) m.port
      else s
    | .pdelayResp twoStep receipt rx =>
      match x.req with
      | some (q, t1) =>
        if s.ptpP2p w = true ∧ mine = true ∧ q = m.seq then
          if twoStep then s.setPtp w { x with peer := some (q, ptpUnits receipt - 2 ^ 16 * m.corr, s.rxTime w rx) }
          else (s.setPtp w { x with req := none }).setDelay w ((s.rxTime w rx - t1 - 2 ^ 16 * m.corr) / 2)
        else s
      | none => s
    | .pdelayRespFollowUp origin =>
      match x.peer, x.req with
      | some (q, t2, t4), some (q', t1) =>
        if s.ptpP2p w = true ∧ mine = true ∧ q = m.seq ∧ q' = m.seq then
          (s.setPtp w { x with req := none, peer := none }).setDelay w (((t4 - t1) - (ptpUnits origin - t2) - 2 ^ 16 * m.corr) / 2)
        else s
      | _, _ => s
  else s)

/-! ### Grandmaster and port state (R479, R482) -/

/-- Name the grandmaster; a change clears LOCK and raises EVT_TB_GM. -/
def State.setGm (w : Nat) (g : BitVec 64) (s : State) : State :=
  if joinWords 64 (s.reg (PTP_GM_HI w)) (s.reg (PTP_GM_LO w)) = g then s
  else (((s.setReg (PTP_GM_LO w) (loWord g)).setReg (PTP_GM_HI w) (hiWord g)).mark (EVT_TB_GM w)).setLock w false

/-- The instance is master, or, as a slave-only clock, listens. -/
def State.ptpAlone (w : Nat) (s : State) : State :=
  let s := s.setPtp w { s.ptp w with parent := none, waiting := none, sync := none }
  if s.on (PTP_CFG w) PTP_CFG_MASTER then (s.ptpEnter w ptpMaster).setGm w (s.clockId w) else s.ptpEnter w ptpListening

/-- PTP_ANNOUNCE (R479, R482): the best clock announced becomes the parent. -/
def execPtpAnnounce (w : Fin 2) (m : PtpAnnounce) (s : State) : Host.Outcome State Fault Refusal :=
  let (ok, s) := s.ptpIn w m.wire
  .next (if ok then
    let worse := s.on (PTP_CFG w) PTP_CFG_MASTER && decide ((Config.ptpOwnDataset (s.reg (PTP_PRIO w)) (s.clockId w)).toNat < m.dataset.toNat)
    let (take, mine) := match (s.ptp w).parent with
      | none => (true, false)
      | some p => (decide (p.1 = m.wire.sender) || decide (m.dataset.toNat < p.2.toNat), decide (p.1 = m.wire.sender))
    if worse then (if (s.ptp w).parent.isNone || mine then s.ptpAlone w else s)
    else if take then
      let s := (s.setPtp w { s.ptp w with parent := some (m.wire.sender, m.dataset) }).setGm w m.gm
      let s := s.setReg (PTP_STAT w) ((s.reg (PTP_STAT w) &&& 0xFFFF0000) ||| m.utc.setWidth 32)
      s.ptpEnter w ptpSlave
    else s
  else s)

/-- ANNOUNCE_RECEIPT_TIMEOUT (R479). -/
def execAnnounceReceiptTimeout (w : Fin 2) (s : State) : Host.Outcome State Fault Refusal :=
  .next (if s.ptpRuns w then (s.bump (CTR_PTP_ANN_TO w)).ptpAlone w else s)

/-- SYNC_TIMEOUT: four Sync intervals have brought no valid offset (R482). -/
def execSyncTimeout (w : Fin 2) (s : State) : Host.Outcome State Fault Refusal := .next (s.setLock w false)

/-! ### Messages sent (R478) -/

def ptpKindIx (k : PtpKind) : Nat :=
  match k with
  | .sync => 0
  | .followUp => 1
  | .announce => 2
  | .delayReq => 3
  | .pdelayReq => 4
  | .delayResp => 5
  | .pdelayResp => 6
  | .pdelayRespFollowUp => 7

/-- Whether the instance sends a kind of message in its port state when an interval runs out. -/
def State.ptpSends (s : State) (w : Nat) (k : PtpKind) : Bool :=
  match k with
  | .sync | .followUp | .announce => decide (s.ptpState w = ptpMaster)
  | .delayReq => !s.ptpP2p w && decide (s.ptpState w = ptpSlave)
  | .pdelayReq => s.ptpP2p w
  | .delayResp | .pdelayResp | .pdelayRespFollowUp => false

/-- PTP_MESSAGE_DUE: a message leaves on the active port. A Sync is two-step; its Follow_Up carries its stamp. A delay
request leaves its own stamp behind. -/
def execPtpMessageDue (w : Fin 2) (k : PtpKind) (s : State) : Host.Outcome State Fault Refusal :=
  .next (if s.ptpRuns w && s.ptpSends w k && s.portLive (s.activePort w) && !s.isSealing then
    let x := s.ptp w
    let q := if k = .followUp then x.lastSync else SMap.get (fun _ => 0) x.seqs (ptpKindIx k)
    let x := if k = .followUp then x else { x with seqs := SMap.set (fun _ => 0) x.seqs (ptpKindIx k) (q + 1) }
    let now := s.txTime w s.tim.sysCnt
    let x := if k = .sync then { x with lastSync := q, stamp := some (unitsPtp now) } else x
    let x := if k = .delayReq ∨ k = .pdelayReq then { x with req := some (q, (now : Int)), peer := none } else x
    (s.setPtp w x).ptpSend w k q (if k = .followUp then x.stamp else none) (s.portId w)
  else s)

end Sys2Proof.Machine
end

