-- ==== Sys2Proof/Machine/Modes.lean ====
section
/-! DEFINITION. Operating modes and their transitions, the health check, self-tests, and the return of the units to
reset at an entry to LOAD (spec/18_faults_and_modes.md, R701). -/

namespace Sys2Proof.Machine

/-! ### The health check (R588 to R591) -/

/-- The scribe core pair disagrees (R588). -/
def execLockstepMismatch (s : State) : Host.Outcome State Fault Refusal :=
  .next (if s.mf.scribeHeld then s else s.grave EVT_MF_LOCKSTEP)

/-- A write of MF_KICK: only the scribe's counts (R589). -/
def State.kick (port : Port) (s : State) : State :=
  if port = .chip 0 ∧ s.mf.scribeHeld = false then
    ((s.setReg MF_HEALTH 0).withMf { s.mf with kicked := true })
  else s

def execMfKick (port : Port) (s : State) : Host.Outcome State Fault Refusal := .next (s.kick port)

/-- Whether the health check passes (R589). -/
def State.healthy (s : State) : Bool :=
  s.mf.kicked && decide ((s.reg MF_HEALTH).toNat ≤ 24) && !s.on MF_FAULT MF_FAULT_HUNG && !s.on MF_GRAVE MF_GRAVE_VALID &&
    s.mode != modeDark && s.mode != modeSealed

/-- ALIVE inverts (R590). -/
def execAliveToggle (s : State) : Host.Outcome State Fault Refusal :=
  .next (if s.healthy then s.withMf { s.mf with alive := !s.mf.alive } else s)

/-- The check fails by a missing kick (R591). -/
def execHealthFail (s : State) : Host.Outcome State Fault Refusal :=
  .next (if s.mf.kicked ∧ 24 ≤ (s.reg MF_HEALTH).toNat ∧ s.mf.scribeHeld = false then s.setFld MF_FAULT MF_FAULT_HUNG 1 else s)

/-! ### Requests (R595, R602 to R604) -/

/-- MF_CTL.RUN applied (R594). -/
def State.run (s : State) : State := if s.mode = modePoised then s.withMf { s.mf with run := true } else s

/-- MF_CTL.POISE applied (R595, transition 10). -/
def State.poise (s : State) : State := if s.live then s.decideMode 10 else s

/-- MF_CTL.RELOAD applied (R595, transition 12). -/
def State.reload (s : State) : State :=
  if s.mode = modePoised ∨ (s.mode = modeService ∧ s.mf.blotted = false) then s.decideMode 12 else s

def execRun (s : State) : Host.Outcome State Fault Refusal := .next s.run
def execPoise (s : State) : Host.Outcome State Fault Refusal := .next s.poise
def execReload (s : State) : Host.Outcome State Fault Refusal := .next s.reload

def testRunning : Nat := 1
def testPassed : Nat := 2
def testFailed : Nat := 3
def testNoRelief : Nat := 4
def testBusy : Nat := 5

def State.setTestState (v : Nat) (s : State) : State := s.setFld MF_TEST_STAT MF_TEST_STAT_STATE v

/-- The registers that an accepted test clears (R606). -/
def State.testAccept (s : State) : State := ((s.setReg MF_TEST_STAT 0).setReg MF_TEST_RES 0).setReg MF_TEST_ADDR 0xFFFFFFFF

def State.addTest (t : TestRun) (s : State) : State := s.withMf { s.mf with tests := s.mf.tests ++ [t] }

/-- A request of one nib test (R602). -/
def State.testNib (i : Nat) (s : State) : State :=
  if h : i < 272 then
    if s.rulingRuns = false then s
    else
      let n : Fin 272 := ⟨i, h⟩
      let x := nibQuire n
      let ok := (s.testAccept.setFld MF_TEST_STAT MF_TEST_STAT_NIB i).setTestState testRunning
      let refused := (s.setFld MF_TEST_STAT MF_TEST_STAT_NIB i).setTestState testNoRelief
      if i < 256 then
        if s.nibEntries i = [] then ok.addTest (.inPlace n)
        else if s.reliefFree x then ok.beginMove x (Fin.ofNat 16 i) true false
        else refused
      else if s.reliefFree x then ok.addTest (.inPlace n)
      else refused
  else s

/-- A full self-test starts (R604). -/
def State.startFull (s : State) : State := (s.testAccept.setTestState testRunning).addTest .full

/-- A request of a full self-test (R600, R604). -/
def State.testFull (s : State) : State :=
  if s.mode = modeService ∧ s.mf.blotted = false then (if s.mf.tests.contains .full then s else s.startFull)
  else if s.mode = modePoised then (s.testAccept.setFld MF_TEST_STAT MF_TEST_STAT_FULLPEND 1).decideMode 11
  else if s.live then
    ((s.setFld MF_TEST_STAT MF_TEST_STAT_FULLPEND 1).setTestState testBusy).mark EVT_MF_BUSY
  else s

/-- CANCEL clears FULLPEND (R601). -/
def State.testCancel (s : State) : State :=
  let s := s.setFld MF_TEST_STAT MF_TEST_STAT_FULLPEND 0
  if s.fld MF_TEST_STAT MF_TEST_STAT_STATE = testBusy then s.setTestState 0 else s

def execTestNib (idx : BitVec 9) (s : State) : Host.Outcome State Fault Refusal := .next (s.testNib idx.toNat)
def execTestFull (s : State) : Host.Outcome State Fault Refusal := .next s.testFull
def execTestCancel (s : State) : Host.Outcome State Fault Refusal := .next s.testCancel

/-! ### The ends of tests -/

/-- The result of a test in the registers, where the test running is the one that MF_TEST asked for. -/
def State.testResult (n : Nat) (r : TestResult) (s : State) : State :=
  if s.fld MF_TEST_STAT MF_TEST_STAT_STATE = testRunning ∧ s.fld MF_TEST_STAT MF_TEST_STAT_NIB = n then
    if r.step = 0 then s.setTestState testPassed
    else
      let s := s.setReg MF_TEST_RES (BitVec.ofNat 32 (2 ^ 28 * r.step.toNat + n))
      (s.setReg MF_TEST_ADDR r.addr).setTestState testFailed
  else s

/-- Test patterns, which the spec does not give, in `n` words from an address (R603, R604). -/
def fillFree (a : Nat) : Nat → State → State
  | 0, s => s
  | n + 1, s =>
    let (x, s) := s.freshWord
    let (y, s) := s.freshWord
    fillFree (a + wordLen a) n ((s.setRawWord a (BitVec.ofNat 64 (2 ^ 32 * y.toNat + x.toNat))).setMark a {})

/-- The RAMs of a nib hold what its test left in them (R603). -/
def State.nibPatterns (n : Fin 272) (s : State) : State :=
  let b := nibWin n.val
  if s.isOpen (domKey (.nib n)) then fillFree (b + 0x10000) 16384 (fillFree b 8192 s) else s

/-- A nib that failed stays out (R185): its entries stay on the relief nib, rotation in its quire stops. -/
def State.rotationFail (x : Fin 16) (n : Nat) (s : State) : State :=
  let s := s.setRegBit (RUL_RELIEF x.val) (n % 16) true
  let s := if s.runsOn n ≠ n then s.setFld (RUL_RELIEF x.val) RUL_RELIEF_PERM 1 else s
  ((s.mark EVT_RUL_ROT_FAIL).withRul { s.rul with rotFail := s.rul.rotFail ++ [x.val] })

/-- The step that judges a nib's gauges (R603 step 3); a nib that fails it is due for retirement (R663). -/
def stepGauges : BitVec 4 := 4

def State.testEnded (t : TestRun) (r : TestResult) (s : State) : State :=
  let s := s.dropTests (· == t)
  match t with
  | .inPlace n =>
    let s := (s.testResult n.val r).nibPatterns n
    let s :=
      if r.step = 0 then s
      else if n.val < 256 then s.rotationFail (nibQuire n) n.val
      else s.loseRelief (nibQuire n)
    if r.step = stepGauges then s.retireDue n else s
  | .rotation x n =>
    let s := (s.testResult n.val r).nibPatterns ⟨n.val, by omega⟩
    if r.step = 0 then
      s.setMove x.val (some { home := Fin.ofNat 16 n.val, rotation := true, back := true })
    else
      let s := s.rotationFail x n.val
      if r.step = stepGauges then s.retireDue ⟨n.val, by omega⟩ else s
  | .full => s

/-- NIB_TEST_COMPLETE (R603): the test in progress on the nib named ends. -/
def execNibTestComplete (r : TestResult) (s : State) : Host.Outcome State Fault Refusal :=
  let named : TestRun → Bool := fun t =>
    match t with
    | .inPlace n => n.val == r.nib.toNat
    | .rotation _ n => n.val == r.nib.toNat
    | .full => false
  .next (match s.mf.tests.find? named with
    | some t => if s.scribeActs then s.testEnded t r else s
    | none => s)

/-- The tested memories hold test patterns: every SRAM of every powered domain except scribe SRAM (R604). -/
def State.testPatterns (s : State) : State :=
  each (List.range 21) (fun g s =>
    each (groupRanges g) (fun r s =>
      if r.1 = 0x04000000 ∨ s.powered r.1 = false then s else fillFree r.1 ((r.2 - r.1) / wordLen r.1) s) s) s

/-- FULL_SELFTEST_COMPLETE (R604). -/
def execFullSelftestComplete (r : TestResult) (s : State) : Host.Outcome State Fault Refusal :=
  .next (if s.mf.tests.contains .full then
      let s := (s.dropTests (· == .full)).testPatterns
      if r.step = 0 then s.setTestState testPassed
      else
        let nib := if r.step.toNat ≤ 4 then r.nib.toNat else 0
        let s := s.setReg MF_TEST_RES (BitVec.ofNat 32 (2 ^ 28 * r.step.toNat + nib))
        let s := ((s.setReg MF_TEST_ADDR r.addr).setTestState testFailed).mark EVT_MF_SELFTEST
        if h : r.step = stepGauges ∧ nib < 272 then s.retireDue ⟨nib, h.2⟩ else s
    else s)

/-! ### Units that return to reset at an entry to LOAD (R701) -/

/-- The register banks that return to their reset values: the network unit with its flow table and NET_RXM, the
ruling, the mirror unit, the tag stager, the chip fabric, the stroke timer's items, and what a folio loads in the
units that otherwise keep their state. -/
def loadResets : List (Nat × Nat) := [
  (0x20000000, 0x20000180), (0x20000200, 0x20000800), (0x20008000, 0x20028000), (0x20040000, 0x20054000),
  (0x20060000, 0x20064000), (RUL_ACTIVE, RUL_ACTIVE + 0x80), (0x20706000, 0x20706100), (0x20708000, 0x20708800),
  (0x20702000, 0x20702100), (STK_CFG, STK_CFG + 4), (STK_ALIGN_LIM, STK_STEER + 4), (STK_EVT_STATUS, STK_EVT_ENABLE + 4),
  (MF_CFG, MF_ISL + 4), (FB_CTL, FB_VLIM + 4), (FB_PERIOD, FB_PMBUS + 4), (MEM_PATROL, MEM_PATROL + 4)]

def State.resetBanks (l : List (Nat × Nat)) (s : State) : State := each l (fun r s => s.resetRegs r.1 r.2) s

/-- Every switched domain off (R621, R701), and no domain held down any longer (R45). -/
def State.allOff (s : State) : State :=
  let s := each ((List.finRange 4).map Domain.net ++ [.sap, .lane] ++ (List.finRange 4).map Domain.pld) State.powerDown s
  s.withDoms []

/-- Deferred requests are discarded (R601). -/
def State.dropDeferred (s : State) : State :=
  let s := each (List.range 21) (fun g s => s.setGroup g { s.group g with armLater := false }) s
  let s := s.setFld MF_TEST_STAT MF_TEST_STAT_FULLPEND 0
  s.withMf { s.mf with tests := [] }

/-- What a folio loaded goes: every switched domain off, its registers at reset, the stores of the units empty, key
SRAM zero (R621, R641, R701). -/
def State.folioClear (s : State) : State :=
  let s := (s.allOff.resetBanks loadResets).pulsesOff
  let s := (((s.withRul {}).withStager {}).withMir {}).withNet {}
  let s := s.withFab { ports := SMap.clear 3 80 s.fab.ports, coffs := [] }
  let s := s.withSec { s.sec with keys := [] }
  s.setReg SEC_KEYS 0

/-- What an entry to LOAD returns to reset (R701). -/
def State.loadEntry (s : State) : State :=
  let s := s.folioClear
  let s := s.withMf { s.mf with queue := [], run := false }
  let s := (s.setFld MF_FAULT MF_FAULT_DEGRADE 0).dropDeferred
  let s := s.withFb { s.fb with due := [], retired := [] }
  s.setReg FB_RETIRED 0

/-! ### Transitions (R592 to R596) -/

/-- The mode that a transition leads to. -/
def modeTo (t : Nat) : Nat :=
  match t with
  | 1 => modeLoad
  | 2 => modePoised
  | 3 => modeLead
  | 4 => modeShadow
  | 5 => modeShadow
  | 6 => modeLead
  | 7 => modeIsland
  | 8 => modeLead
  | 9 => modeShadow
  | 10 => modePoised
  | 11 => modeService
  | 12 => modeLoad
  | 13 => modeService
  | 14 => modeSealed
  | _ => modeDark

/-- Whether a transition decided still holds at the boundary (R595, R591): a scribe that is hung, or held, drives
no change of mode. -/
def State.mayMove (s : State) (t : Nat) : Bool :=
  let m := s.mode
  let scribe := s.scribeActs
  match t with
  | 1 => m == modeDark && scribe
  | 2 => m == modeLoad && scribe
  | 3 => m == modePoised && scribe && s.mayRun
  | 4 => m == modePoised && scribe && s.mayRun
  | 5 => m == modeLead && scribe
  | 6 => m == modeShadow && scribe
  | 7 => (m == modeLead || m == modeShadow) && scribe
  | 8 => m == modeIsland && scribe && s.mayReturn
  | 9 => m == modeIsland && scribe && s.mayReturn
  | 10 => s.live && scribe
  | 11 => m == modePoised && scribe && s.on MF_TEST_STAT MF_TEST_STAT_FULLPEND
  | 12 => (m == modePoised || (m == modeService && !s.mf.blotted)) && scribe
  | 13 => m != modeSealed && (m != modeDark || !s.mf.scribeHeld)
  | 14 => m != modeSealed
  | _ => false

/-- The order of R596; transitions 1 and 2 meet no other. -/
def modeOrder : List Nat := [14, 13, 12, 11, 10, 7, 5, 6, 3, 4, 8, 9, 1, 2]

/-- The mode registers of a transition (R595, R605). -/
def State.noteMode (t : Nat) (s : State) : State :=
  let s := s.setReg MF_MODE (BitVec.ofNat 32 (2 ^ 28 * (modeTo t) + 2 ^ 24 * s.mode + 2 ^ 16 * t))
  let s := (s.setReg MF_MODE_STK_LO (loWord s.tim.strk)).setReg MF_MODE_STK_HI (hiWord s.tim.strk)
  (s.bump ⟨MF_MODE_CNT, MF_CNT_SAT, 0⟩).mark EVT_MF_MODE

/-- Governance returns to PRIMARY when it reports lock (R487). -/
def State.governPrimary (s : State) : State :=
  let p := s.fld TB_GOV TB_GOV_PRIMARY
  if s.on (TB_STAT p) TB_STAT_LOCK ∧ s.fld STK_STAT STK_STAT_GOV ≠ p then s.setFld STK_STAT STK_STAT_GOV p else s

/-- Deferred requests act at the first boundary of POISED or SERVICE, in the order of R601. -/
def State.deferredAct (s : State) : State :=
  let s := each (List.range 32) (fun k s => if s.on (LANE_STAT k) LANE_STAT_CALPEND then s.calRequest k else s) s
  let s := s.armDeferred
  if s.on MF_TEST_STAT MF_TEST_STAT_FULLPEND then
    if s.mode = modePoised then s.decideMode 11 else s.startFull
  else s

/-- Entry to a mode with an alignment (R57). -/
def State.enterAligned (s : State) : State := s.governPrimary.alignDue.deferredAct

/-- The stager discards what it holds (R388). -/
def State.stagerDiscard (s : State) : State :=
  let s := s.bumpBy CTR_TAG_DISCARD s.stager.staged.length
  s.withStager { s.stager with staged := [], hist := [], seqs := [], intake := [] }

/-- The stager's relay queues go with it (R391). -/
def State.relaysDiscard (s : State) : State :=
  s.withNet { s.net with tx := s.net.tx.map fun (e : Nat × TxFlow) => (e.1, { e.2 with relay := [] }) }

/-- The stream frames not yet sent are dropped: none leaves in a mode that sends none (R593). -/
def State.streamsStop (s : State) : State :=
  s.withNet { s.net with ports := s.net.ports.map fun (e : Nat × NetPort) => (e.1, { e.2 with queued := [] }) }

/-- An alignment ends outside POISED and SERVICE (R57); a lengthened stroke keeps its length. -/
def State.alignDrop (s : State) : State :=
  s.withTim { s.tim with align := if s.tim.align = .pull then .idle else s.tim.align, due := false }

/-- What leaving the modes in which the ruling runs stops. -/
def State.leaveRunning (s : State) : State := s.sluStopAll.stagerDiscard.relaysDiscard.streamsStop

/-- The start of LOAD: the boot begins at step 1 of R607. -/
def State.bootStart (s : State) : State :=
  let s := s.setFld (FAB_CTL 0) FAB_CTL_REMAP 0
  let s := s.setFld BOOT_STAT BOOT_STAT_STATE 1
  s.withBoot { s.boot with step := .flashInit, failed := [], retries := [], header := none, digest := 0, signer := 0, sections := [], entry := s.tim.strk }

/-- A transition takes effect (R595). -/
def State.enterMode (t : Nat) (s : State) : State :=
  let from_ := s.mode
  let s := s.noteMode t
  let m := s.mode
  let s := if m = modePoised ∨ m = modeService then s else s.alignDrop
  let s := if s.live ∨ m = modePoised then s else s.leaveRunning
  if m = modePoised then
    let s := s.withMf { s.mf with run := false }
    let s := if from_ = modeLoad then (((s.setActive 0 0).setActive 1 1).lanesArming).setReg BOOT_LOADT (loWord (s.tim.strk - s.boot.entry)) else s
    s.enterAligned
  else if m = modeService then
    let s := s.withMf { s.mf with blotted := decide (t = 13) }
    s.enterAligned
  else if m = modeLoad then s.loadEntry.bootStart
  else if m = modeIsland then s.withMf { s.mf with islTimer := 0 }
  else if m = modeSealed then s.sealNow
  else s

/-- Phase 1: at most one of the transitions decided takes effect, and the rest are discarded (R596). Says whether
one did. -/
def State.modePhase1 (s : State) : Bool × State :=
  let l := s.mf.decided
  let s := s.withMf { s.mf with decided := [] }
  match modeOrder.find? fun t => l.contains t && s.mayMove t with
  | some t => (true, s.enterMode t)
  | none => (false, s)

/-- Phase 0: the counts and decisions of R595, R598 and R606 that a boundary makes. -/
def State.modePhase0 (s : State) : State :=
  let s := if (s.reg MF_HEALTH).toNat < 0xFFFF then s.setReg MF_HEALTH (s.reg MF_HEALTH + 1) else s
  let locked := s.on (TB_STAT 0) TB_STAT_LOCK || s.on (TB_STAT 1) TB_STAT_LOCK
  let c := (s.reg MF_ISL_CNT).toNat
  let s := s.setReg MF_ISL_CNT (if locked then 0 else BitVec.ofNat 32 (Nat.min 0xFFFF (c + 1)))
  let s := if (s.mode = modeLead ∨ s.mode = modeShadow) ∧ Nat.max 1 (s.fld MF_ISL MF_ISL_ENTER) ≤ (s.reg MF_ISL_CNT).toNat then s.decideMode 7 else s
  let waits := s.mode == modeIsland && s.on MF_CFG MF_CFG_ISLREALIGN && s.govLock && !s.aligned
  let s := s.withMf { s.mf with islTimer := if waits then s.mf.islTimer + 1 else 0 }
  let s := if 1200 * Nat.max 1 (s.fld MF_ISL MF_ISL_REALIGN_T) ≤ s.mf.islTimer then s.decideMode 10 else s
  if s.member then s
  else if s.mode = modePoised ∧ s.mayRun then s.decideMode 3
  else if s.mode = modeIsland ∧ s.mayReturn then s.decideMode 8
  else s

end Sys2Proof.Machine
end

