-- ==== Sys2Proof/Machine/Freeboard.lean ====
section
/-! DEFINITION. Gauges, adaptive voltage, the life model and the ledger's times (spec/21_freeboard_and_spares.md). -/

namespace Sys2Proof.Machine

/-! ### Gauges (R656 to R658) -/

/-- A canary's freeboard in whole ps: k · T_ref/128, T_ref in 0.1 ps (R657). -/
def canaryFb (tref k : Nat) : Nat := Nat.min 64 k * tref / 1280

/-- The nib of canary `c` of a quire gauge: 0 to 15 the active nibs, 16 the relief nib. -/
def gaugeNib (g c : Nat) : Nat := let x := 4 * (g / 8) + g % 8; if c < 16 then 16 * x + c else 256 + x

/-- Whether a gauge is read: its domain is powered and not cofferdammed. -/
def State.gaugeOn (s : State) (g : Nat) : Bool :=
  let p := s.dom (6 + g / 8)
  let q := s.dom (10 + 4 * (g / 8) + g % 8)
  p.on && !p.dead && (decide (4 ≤ g % 8) || (q.on && !q.dead))

/-- Whether the canary of a nib is read: its domain is powered, and it is not retired. -/
def State.nibRead (s : State) (n : Nat) : Bool := (s.dom (26 + n)).on && !(s.dom (26 + n)).dead && !s.fb.retired.contains n

/-- The freeboards that count in a gauge: of the nibs read, and of the last canary. -/
def State.gaugeCounts (s : State) (r : GaugeRead) : List Nat :=
  let fbs := r.canaries.map fun k => canaryFb r.tref.toNat k.toNat
  if r.gauge.val % 8 < 4 then
    (fbs.zipIdx.filter fun (x : Nat × Nat) => decide (17 ≤ x.2) || s.nibRead (gaugeNib r.gauge.val x.2)).map Prod.fst
  else fbs

/-- DRIFT in 0.001 % (R657, R674). -/
def drift (tref tstress : Nat) : BitVec 16 :=
  if tref = 0 then 0 else BitVec.ofInt 16 (((tstress : Int) - tref) * 100000 / tref)

/-- One gauge's registers after a read (R674). -/
def State.gaugeStore (r : GaugeRead) (s : State) : State :=
  let g := r.gauge.val
  let l := s.gaugeCounts r
  let fb := l.foldl Nat.min 0xFFFF
  let s := s.setReg (GA_STAT g) (BitVec.ofNat 32 (2 ^ 31 * (b2n (!l.isEmpty)) + fb))
  let s := (s.setReg (GA_TJ g) (r.tj.setWidth 32)).setReg (GA_TREF g) (r.tref.setWidth 32)
  let s := s.setReg (GA_DRIFT g) ((drift r.tref.toNat r.tstress.toNat).setWidth 32)
  let s := s.setReg (GA_STK g) (loWord s.tim.strk)
  if g % 8 < 4 then
    let xbar := canaryFb r.tref.toNat (r.canaries.getD 17 64).toNat
    let s := s.setReg (GA_XBAR g) (BitVec.ofNat 32 (xbar % 65536))
    each (List.range 17) (fun c s =>
      let fb := canaryFb r.tref.toNat (r.canaries.getD c 64).toNat
      s.setReg (NIB_FB (g / 8) (17 * (g % 8) + c)) (if s.nibRead (gaugeNib g c) then BitVec.ofNat 32 (2 ^ 16 + fb % 65536) else 0)) s
  else s

/-- The gauges that report VALID. -/
def State.validGauges (s : State) : List Nat := (List.range 32).filter fun g => s.gaugeOn g && s.on (GA_STAT g) GA_STAT_VALID

/-- FMIN, its gauge and FB_TJ after a read (R660, R673). -/
def State.fbMin (s : State) : State :=
  let l := s.validGauges
  let best := l.foldl (fun (b : Option Nat) g =>
    match b with
    | none => some g
    | some h => if s.fld (GA_STAT g) GA_STAT_FB < s.fld (GA_STAT h) GA_STAT_FB then some g else b) none
  match best with
  | none => s
  | some g =>
    let s := (s.setFld FB_STAT FB_STAT_FMIN (s.fld (GA_STAT g) GA_STAT_FB)).setFld FB_STAT FB_STAT_GAUGE g
    let tj := l.foldl (fun (m : BitVec 16) g => let t := BitVec.ofNat 16 (s.reg (GA_TJ g)).toNat; if m.toInt < t.toInt then t else m) 0x8000
    s.setReg FB_TJ (tj.setWidth 32)

/-- The gauges of a read set or of a re-read: those read, and VALID = 0 in those skipped. -/
def State.gaugesStore (l : List GaugeRead) (s : State) : State :=
  let s := each l (fun r s => if s.gaugeOn r.gauge.val then s.gaugeStore r else s) s
  let s := each (List.range 32) (fun g s =>
    if s.gaugeOn g || (s.dom (6 + g / 8)).on = false then s
    else
      let s := s.setFld (GA_STAT g) GA_STAT_VALID 0
      if g % 8 < 4 then each (List.range 17) (fun c s => s.setFld (NIB_FB (g / 8) (17 * (g % 8) + c)) NIB_FB_VALID 0) s else s) s
  s.fbMin

/-! ### Retirement (R663) -/

def fbOff : Nat := 0
def fbTracking : Nat := 1
def fbAtMax : Nat := 2
def fbFault : Nat := 3

def State.fbState (s : State) : Nat := s.fld FB_STAT FB_STAT_STATE
def State.setFbState (v : Nat) (s : State) : State := s.setFld FB_STAT FB_STAT_STATE v
def State.vdd (s : State) : Nat := s.fld FB_VDD FB_VDD_REQ
def State.vmax (s : State) : Nat := s.fld FB_VLIM FB_VLIM_VMAX
def State.vmin (s : State) : Nat := s.fld FB_VLIM FB_VLIM_VMIN
def State.fmin (s : State) : Nat := s.fld FB_STAT FB_STAT_FMIN
def State.fbTarget (s : State) : Nat := s.fld FB_MARGIN FB_MARGIN_TARGET

/-- The register of a nib's canary. -/
def nibFbReg (n : Nat) : Nat :=
  let x := if n < 256 then n / 16 else n - 256
  NIB_FB (x / 4) (17 * (x % 4) + (if n < 256 then n % 16 else 16))

/-- Nibs below FLOOR are due, once no voltage is left (R663). -/
def State.retireCheck (s : State) : State :=
  if s.vdd = s.vmax ∨ s.fbState = fbFault then
    each (List.finRange 272) (fun n s =>
      let w := s.reg (nibFbReg n.val)
      if NIB_FB_VALID.on w ∧ w.toNat % 65536 < s.fld FB_MARGIN FB_MARGIN_FLOOR ∧ s.nibRead n.val then s.retireDue n else s) s
  else s

/-! ### Adaptive voltage (R660, R661) -/

/-- Ask the regulator for a voltage; what comes of it is confirmed after 1 ms. -/
def State.fbRequest (v : Nat) (k : VStep) (s : State) : State :=
  let s := s.setFld FB_VDD FB_VDD_REQ v
  s.withFb { s.fb with step := some k }

/-- The loop of R660 from its test: another raising step, or its end and the retirements that follow. -/
def State.fbLoop (s : State) : State :=
  if s.fmin < s.fbTarget ∧ s.vdd < s.vmax ∧ s.fb.steps < 8 then
    let s := (s.bump CTR_FB_STEP_CNT).mark EVT_FB_STEP
    let s := s.fbRequest (Nat.min s.vmax (s.vdd + 5)) .raise
    s.withFb { s.fb with steps := s.fb.steps + 1 }
  else
    let s := s.withFb { s.fb with good := 0, step := none }
    let s := s.setFbState (if s.vmax ≤ s.vdd then fbAtMax else fbTracking)
    let s := if s.fmin < s.fbTarget ∧ s.vdd = s.vmax then s.mark EVT_FB_CEIL else s
    s.retireCheck

/-- The adaptation after a read set (R660). -/
def State.fbAdapt (s : State) : State :=
  let s := s.withFb { s.fb with steps := 0, step := none }
  if s.fmin < s.fbTarget then s.fbLoop
  else
    let s := s.setFbState (if s.vmax ≤ s.vdd then fbAtMax else fbTracking)
    let s :=
      if s.fbTarget + s.fld FB_MARGIN FB_MARGIN_HYST ≤ s.fmin then
        let s := s.withFb { s.fb with good := s.fb.good + 1 }
        if s.on FB_CTL FB_CTL_LOWER ∧ 10 ≤ s.fb.good ∧ s.vmin < s.vdd then
          let s := (s.bump CTR_FB_DOWN_CNT).fbRequest (Nat.max s.vmin (s.vdd - 5)) .lower
          s.withFb { s.fb with good := 0 }
        else s
      else s.withFb { s.fb with good := 0 }
    s.retireCheck

/-! ### Life (R671) -/

/-- ROOT cycles per second. -/
def rootHz : Nat := 1228800000

/-- ΔL of a read set: Δt in seconds, T in kelvin, V in volts. -/
def lifeStep (dt t v : Rat) : Rat := dt * Config.exp (8124 * (20 / 7163 - 1 / t)) * Config.exp (12 * (v - 3 / 4))

/-- FB_LIFE accumulates; the part below one second is kept (R671). -/
def State.addLife (s : State) : State :=
  let dt : Rat :=
    match s.fb.last with
    | some c => (((s.tim.sysCnt - c).toNat : Nat) : Rat) / (rootHz : Rat)
    | none => 0
  let tj : Int := (BitVec.ofNat 16 (s.reg FB_TJ).toNat).toInt
  let t : Rat := (tj : Rat) / 8 + 5463 / 20
  let x : Rat := s.fb.frac + lifeStep dt t ((s.vdd : Rat) / 1000)
  let whole := x.floor.toNat
  let n := Nat.min (s.life.toNat + whole) (2 ^ 64 - 1)
  let s := (s.setReg FB_LIFE_LO (BitVec.ofNat 32 n)).setReg FB_LIFE_HI (BitVec.ofNat 32 (n / 2 ^ 32))
  s.withFb { s.fb with frac := x - (x.floor : Rat), last := some s.tim.sysCnt }

/-! ### The ledger in LOAD (R668, R670) -/

/-- What the ledger restores before pass 2 (R670): VDD, FB_LIFE, the spare rows of PD_CHIP, the retired nibs, BOOTS. -/
def State.ledgerRestore (s : State) : State :=
  let last := s.fb.ledger.getLast?
  let v := match last with | some r => r.vdd.toNat | none => 750
  let l := match last with | some r => r.life | none => s.life
  let s := s.fbRequest v .restore
  let s := if last.isSome then (s.setReg FB_LIFE_LO (loWord l)).setReg FB_LIFE_HI (hiWord l) else s
  let b := match last with | some r => r.boots | none => 0
  let s := if s.fb.newBoot then s.withFb { s.fb with boots := b + 1, newBoot := false } else s
  let s := s.setReg FB_BOOTS s.fb.boots
  let out := (List.range 272).filter fun n => s.ledgerNib n
  let s := each (s.fb.ledger.filter fun r => r.kind == ledgerRow && decide (r.loc.toNat / 2 ^ 16 < 5)) (fun r s =>
    let x := r.loc.toNat / 2 ^ 16
    let row := r.loc.toNat % 2 ^ 16
    if (s.group 0).rows.contains (spareRow x row) then s else s.mapRow x row) s
  let s := s.withFb { s.fb with retired := out, due := [] }
  s.countRetired

/-- At the end of LOAD the ledger goes to each slot that has room and lacks it (R668, R670). -/
def State.ledgerCopy (loaded : Fin 2) (here there : Bool) (s : State) : State :=
  let s := s.withFb { s.fb with slots := (if here then [loaded] else []) ++ if there then [1 - loaded] else [] }
  let s := if s.fb.ledger = [] then s.ledgerAppend ledgerHeader 0 else s
  s.ledgerView

/-! ### The commands -/

/-- READ_SET_START (R658). -/
def execReadSetStart (s : State) : Host.Outcome State Fault Refusal :=
  .next (if s.scribeActs ∧ s.mode ≠ modeDark ∧ s.mode ≠ modeSealed then s.withFb { s.fb with reading := true } else s)

/-- READ_SET_DONE (R658, R660, R661, R671). -/
def execReadSetDone (gauges : List GaugeRead) (s : State) : Host.Outcome State Fault Refusal :=
  .next (if s.fb.reading ∧ s.scribeActs then
      let s := s.withFb { s.fb with reading := false }
      let s := (s.gaugesStore gauges).addLife
      if s.on FB_CTL FB_CTL_EN = false then s.setFbState fbOff
      else if s.validGauges = [] then s
      else if s.fbState = fbFault then s.fbRequest s.vdd .retry
      else s.fbAdapt
    else s)

/-- VOLTAGE_STEP_CONFIRM (R660, R661): 1 ms after a request, READ_VOUT and the gauges read again. -/
def execVoltageStepConfirm (ack : Bool) (readback : BitVec 16) (gauges : List GaugeRead) (s : State) : Host.Outcome State Fault Refusal :=
  .next (match s.fb.step with
    | none => s
    | some k =>
      if s.scribeActs = false then s
      else
        let s := s.withFb { s.fb with step := none }
        let s := if ack then s.setFld FB_VDD FB_VDD_READ readback.toNat else s
        let d := if s.vdd ≤ readback.toNat then readback.toNat - s.vdd else s.vdd - readback.toNat
        if ack ∧ d ≤ 10 then
          let s := if k = .restore then s else s.ledgerAppend ledgerSnap 0
          match k with
          | .raise => (s.gaugesStore gauges).fbLoop
          | .lower => s.gaugesStore gauges
          | .restore => s
          | .retry => ((s.setFbState fbTracking).gaugesStore gauges).fbAdapt
        else ((s.setFbState fbFault).mark EVT_FB_PMBUS).retireCheck)

/-- LEDGER_SNAPSHOT (R669). -/
def execLedgerSnapshot (s : State) : Host.Outcome State Fault Refusal :=
  .next (if s.scribeActs then s.ledgerAppend ledgerSnap 0 else s)

end Sys2Proof.Machine
end

