-- ==== Sys2Proof/Machine/Boot.lean ====
section
/-! DEFINITION. Boot, the external flash, the loading of a folio and the reads of its image
(spec/19_boot_and_chain.md R607 to R626). -/

namespace Sys2Proof.Machine

def bootFlashInit : Nat := 1
def bootLoaded : Nat := 4
def bootFailed : Nat := 5

def State.setBootState (v : Nat) (s : State) : State := s.setFld BOOT_STAT BOOT_STAT_STATE v
def State.setStep (b : BootStep) (s : State) : State := s.withBoot { s.boot with step := b }

/-- BOOT_ERR and the event of a slot. -/
def errReg (x : Fin 2) : Nat := if x = 0 then BOOT_ERR_A else BOOT_ERR_B
def slotEvt (x : Fin 2) : Evt := if x = 0 then EVT_BOOT_SLOT_A else EVT_BOOT_SLOT_B

/-- F of R610: the smaller of the flash density and 256 MiB. -/
def State.flashSize (s : State) : Nat := Nat.min (2 ^ s.fld BOOT_FLASH BOOT_FLASH_LOG2SIZE) (2 ^ 28)

/-- The slot in which a flash address lies; `none` at F and above. -/
def State.slotOf (s : State) (a : Nat) : Option (Fin 2) :=
  if a < s.flashSize / 2 then some 0 else if a < s.flashSize then some 1 else none

/-! ### The contents of the flash -/

/-- Whether a flash address lies in the ledger of its slot (R668). -/
def State.inLedger (s : State) (a : Nat) : Bool := decide (a < s.flashSize) && decide (s.flashSize / 2 ≤ a % (s.flashSize / 2) + 131072)

/-- CRC-32 of IEEE 802.3. -/
def crc32 (l : List Byte) : Word :=
  let step : Word → Word := fun c => if c.getLsbD 0 then (c >>> 1) ^^^ 0xEDB88320 else c >>> 1
  ~~~ l.foldl (fun c b => (List.range 8).foldl (fun c _ => step c) (c ^^^ b.setWidth 32)) 0xFFFFFFFF

/-- The eight words of a ledger record (R668). -/
def ledgerWords (r : LedgerRec) : List Word :=
  let l := [BitVec.ofNat 32 (r.kind % 256), r.loc, loWord r.life, hiWord r.life, r.vdd.setWidth 32, r.seq, r.boots]
  l ++ [crc32 (l.flatMap fun w => leList 4 w.toNat)]

/-- A word of the flash that the ledger fills: a record or an erased place of the active sector, the other sector once
it has been erased. -/
def State.ledgerWord (s : State) (a : Nat) : Option Word :=
  match s.slotOf a with
  | none => none
  | some x =>
    if s.fb.slots.contains x && s.inLedger a then
      let o := a % (s.flashSize / 2) + 131072 - s.flashSize / 2
      if o / 65536 = s.fb.turns % 2 then
        match s.fb.ledger[o % 65536 / 32]? with
        | some r => (ledgerWords r)[o % 32 / 4]?
        | none => some 0xFFFFFFFF
      else if s.fb.turns = 0 then none
      else some 0xFFFFFFFF
    else none

/-- One word of the flash, little-endian, at a multiple of 4. -/
def State.flashWord (s : State) (a : Nat) : Word :=
  match s.ledgerWord a with
  | some w => w
  | none =>
  match SMap.get (fun _ => none) s.boot.flash (a / 256) with
  | some l => l.getD (a % 256 / 4) 0
  | none =>
    let b : Nat → Nat := fun i => (Config.flashByte s.boot.opened (a + i)).toNat
    BitVec.ofNat 32 (b 0 + 256 * b 1 + 65536 * b 2 + 16777216 * b 3)

/-- The 64 words of a page. -/
def State.flashPage (s : State) (p : Nat) : List Word := (List.range 64).map fun i => s.flashWord (256 * p + 4 * i)

def State.setPage (p : Nat) (l : List Word) (s : State) : State :=
  s.withBoot { s.boot with flash := SMap.set (fun _ => none) s.boot.flash p (some l) }

/-- A page whose contents the spec leaves open. -/
def State.pageFree (p : Nat) (s : State) : State :=
  let l := (List.range 64).map fun i => Config.freeWord (s.free + i)
  ((s.setPage p l).withFree (s.free + 64))

/-! ### Slots (R610, R621) -/

/-- The first slot to load (R610). -/
def State.firstSlot (s : State) : Fin 2 :=
  match (s.reg BOOT_NEXT).toNat % 4 with
  | 1 => 0
  | 2 => 1
  | _ => if s.on BOOT_STAT BOOT_STAT_SWAP then 1 else 0

/-- A slot's load begins. -/
def State.beginSlot (x : Fin 2) (s : State) : State := (s.setBootState (2 + x.val)).setStep (.pass1 x)

/-- The failure of a slot and its record (R621). -/
def State.slotError (x : Fin 2) (code sec check : Nat) (s : State) : State :=
  (s.setReg (errReg x) (BitVec.ofNat 32 (2 ^ 24 * code + 2 ^ 16 * sec + 2 ^ 8 * check))).mark (slotEvt x)

/-- A slot fails: its record, the clean-up, and the other slot, or FAILED (R621, R622). -/
def State.slotFail (x : Fin 2) (code sec check : Nat) (s : State) : State :=
  let s := s.slotError x code sec check
  let s := (s.folioClear.tbsSync.resetBanks loadBlocks).zeroMem 0x04020000 0x04080000
  let s := s.withBoot { s.boot with failed := x :: s.boot.failed, header := none, digest := 0, signer := 0, sections := [] }
  if s.boot.failed.contains (1 - x) then (s.setBootState bootFailed).setStep .failed else s.beginSlot (1 - x)

/-! ### Steps of the boot (R607) -/

/-- FLASH_INIT_DONE (R609, R610). A flash that does not answer fails both slots. -/
def State.flashInit (i : FlashInfo) (s : State) : State :=
  if i.responds = false then
    let x := s.firstSlot
    (s.slotFail x 1 0xFF 0).slotFail (1 - x) 1 0xFF 0
  else
    let div := if i.mode = 0 then 1 else if i.mode = 1 then 2 else 16
    let s := s.setFld BOOT_STAT BOOT_STAT_OCTAL (b2n (i.mode == 0))
    let s := s.setReg BOOT_FLASH (BitVec.ofNat 32 (2 ^ 16 * i.jedec.toNat + 2 ^ 8 * i.log2size.toNat + div % 16))
    let s := if i.mode = 0 then s else s.mark EVT_BOOT_FLASH
    s.beginSlot s.firstSlot

/-- The two copies of the OTP are compared (R640). -/
def State.otpCheck (s : State) : State := if s.sec.otpA = s.sec.otpB then s else s.grave EVT_SEC_KEY

/-- The OTP slot that accepts a signer: programmed, not revoked, with the hash of the key (R617, R639). -/
def State.signerSlot (s : State) (h : FolioHeader) : Option (Fin 4) :=
  let d := Config.sha384 (beBytes 96 h.signer.toNat)
  let o := s.sec.otpA
  (List.finRange 4).find? fun i => bitOf o.programmed i.val && !bitOf o.revoked i.val && decide (o.signers.getD i.val 0 = d)

/-- The CODE with which a slot fails pass 1: its fields, FWMIN, the signer, the signature, and then WRAPKEY's tag
(R612, R617, R618, R621). -/
def State.headerCode (s : State) (h : FolioHeader) (digest : BitVec 384) (signature : BitVec 768) : Option Nat :=
  let fl := h.flags.toNat
  let n := h.length.toNat
  let flagsOk := fl / 256 == 0 && fl / 16 % 4 == 0 && fl % 2 == 0 && fl / 64 % 4 != 3 && fl / 4 % 4 != 3
  let lenOk := decide (96 ≤ n) && (n - 96) % 4096 == 0 && decide (n ≤ 100663296) && decide (n ≤ s.flashSize / 2)
  if h.magic ≠ 0x4C4F4647 ∨ h.fmtver.toNat / 2 ^ 16 ≠ 1 ∨ lenOk = false ∨ flagsOk = false then some 2
  else if (s.reg BOOT_FWREV).toNat % 2 ^ 16 < h.fwmin.toNat % 2 ^ 16 then some 3
  else if s.signerSlot h = none then some 4
  else if Config.ecdsaVerify h.signer digest signature = false then some 5
  else if folioKey h s.sec.otpA.root = none then some 4
  else none

/-- PASS1_DONE (R618): the folio key goes to key SRAM (R641), the ledger is restored (R670). -/
def State.pass1 (x : Fin 2) (h : FolioHeader) (digest : BitVec 384) (signature : BitVec 768) (s : State) : State :=
  let s := s.otpCheck
  match s.headerCode h digest signature with
  | some c => s.slotFail x c 0xFF 0
  | none =>
    let key := (folioKey h s.sec.otpA.root).getD 0
    let s := s.withSec { s.sec with keys := SMap.set (fun _ => 0) s.sec.keys 256 key }
    let s := s.withBoot { s.boot with header := some h, digest := digest, signer := (s.signerSlot h).getD 0 }
    s.ledgerRestore.setStep (.pass2 x)

/-! ### The folio's sections (R615, R619) -/

/-- The active nibs of a quire that the ledger records as retired and that hold entries of the active ruling. -/
def State.retiredHomes (s : State) (x : Nat) : List Nat :=
  (List.range 16).filter fun k => s.ledgerNib (16 * x + k) && !(s.nibEntries (16 * x + k)).isEmpty

/-- The nib for which an image of a nib is meant: the relief nib of the one retired nib that it can carry (R670). -/
def State.imageNib (s : State) (n : Nat) : Nat :=
  if n < 256 ∧ s.ledgerNib (256 + n / 16) = false ∧ s.retiredHomes (n / 16) = [n % 16] then 256 + n / 16 else n

def State.imageAddr (s : State) (a : Nat) : Nat :=
  match nibOfAddr a with
  | some (n, o) => nibWin (s.imageNib n) + o
  | none => a

/-- The registers of the reference unit that a folio loads at the end of LOAD (R466). -/
def isRefLoad (a : Nat) : Bool := decide (REF_SEL ≤ a) && decide (a < REF_IN_CFG + 4)

/-- The address and value pairs of a section, as they go to their destinations: what lies in a domain without power
receives nothing (R47). -/
def State.landing (s : State) (x : FolioSection) : List (Nat × Word) :=
  ((secLoads x).map fun w => (s.imageAddr (w.1 / 4 * 4), w.2)).filter fun w => (s.closedGate w.1).isNone

/-- A section's plaintext goes to its destination (R615); the reference unit's registers wait for the end of LOAD. -/
def State.loadSection (x : FolioSection) (s : State) : State :=
  match x.body with
  | .nibs l => each l (fun i s => let n := s.imageNib i.nib.val; if s.isOpen (26 + n) then s.loadNib n i else s) s
  | .keys l =>
    let s := each l (fun k s => (s.withSec { s.sec with keys := SMap.set (fun _ => 0) s.sec.keys k.1.toNat k.2.2 })) s
    s.setReg SEC_KEYS (s.reg SEC_KEYS + BitVec.ofNat 32 l.length)
  | _ => s.imageWords ((s.landing x).filter fun w => !isRefLoad w.1)

/-- The rulings of a folio's sections. -/
def sectionRulings (l : List FolioSection) : List Ruling := l.flatMap fun x => match x.body with | .rulings r => r | _ => []

/-- RATE of the header in the stroke timer, with the samples per stroke (R51, R612). -/
def State.setRate (h : FolioHeader) (s : State) : State :=
  let rate := h.flags.toNat / 64 % 4
  s.setReg STK_CFG (BitVec.ofNat 32 (256 * rate + (if rate = 0 then 4 else if rate = 1 then 8 else 16)))

/-- The listed domains are powered, their gates open when they are zeroed (R45, R46), and the sections go to their
destinations in the table's order (R615, R619). -/
def State.loadSections (h : FolioHeader) (l : List FolioSection) (s : State) : State :=
  let s := (s.setRate h).tbsSync
  let s := s.withBoot { s.boot with sections := l }
  let s := each allDomains State.openGate (each s.powerList State.powerUp s)
  let s := s.withRul { s.rul with rulings := sectionRulings l }
  each l State.loadSection s

/-- PASS2_DONE (R619): the sections as the flash gave them, the signature digest computed again, the section at whose
writing an error came that cannot be corrected. -/
def State.pass2 (x : Fin 2) (l : List StoredSection) (digest : BitVec 384) (fault : Option (BitVec 8)) (s : State) : State :=
  match s.boot.header with
  | none => s
  | some h =>
    let key := SMap.get (fun _ => 0) s.sec.keys 256
    let broken : Nat → Bool := fun i => match fault with | some f => decide (f.toNat < i) | none => false
    match readSections key l, fault with
    | .inl i, some f => if broken i then s.slotFail x 10 f.toNat 0 else s.slotFail x 6 i 0
    | .inl i, none => s.slotFail x 6 i 0
    | .inr _, some f => s.slotFail x 10 f.toNat 0
    | .inr m, none =>
      if digest ≠ s.boot.digest then s.slotFail x 7 0xFF 0
      else if Config.sha384 (commonPart key l) ≠ h.cdigest then s.slotFail x 8 0xFF 0
      else (s.loadSections h m).setStep (.validate x)

/-! ### The end of LOAD (R607, R620, R670) -/

/-- The nibs of a quire that the ledger records as retired: out of rotation, down, their entries on the relief nib,
or the quire in X when it cannot carry them (R670). -/
def State.retiredAtLoad (x : Fin 16) (s : State) : State :=
  let s := each (quireNibs x) (fun n s =>
    if s.ledgerNib n.val then
      let s := s.setDead (.nib n)
      if n.val < 256 then s.setRegBit (RUL_RELIEF x.val) (n.val % 16) true else s.setRelState x.val relLost
    else s) s
  match s.retiredHomes x.val with
  | [] => s
  | [h] =>
    if s.ledgerNib (256 + x.val) then s.joinX x.val
    else ((s.setFld (RUL_RELIEF x.val) RUL_RELIEF_HOME h).setFld (RUL_RELIEF x.val) RUL_RELIEF_PERM 1).setRelState x.val relCarrying
  | _ => s.joinX x.val

/-- The ruling that runs first: ruling 0, or the reduced ruling that leaves out what the ledger has lost (R163,
R670). -/
def State.firstRuling (s : State) : State :=
  let s := each (List.finRange 16) State.retiredAtLoad (s.activateRuling 0)
  if s.reg RUL_LOST = 0 then s
  else
    match s.covering (reg16 (s.reg RUL_LOST) ||| s.activeExcl) with
    | some i => (s.activateRuling i).mark EVT_RUL_REDUCED
    | none => s.noCover

/-- Instances that a folio enables and that have no port state yet listen. -/
def State.ptpsListen (s : State) : State :=
  each (List.range 2) (fun w s =>
    if s.on (PTP_CFG w) PTP_CFG_EN ∧ s.ptpState w = 0 then s.setFld (PTP_STAT w) PTP_STAT_PORTSTATE ptpListening else s) s

/-- The registers of the reference unit take what the folio loads at the end of LOAD (R466). -/
def State.refLoads (s : State) : State := s.imageWords ((s.boot.sections.flatMap secLoads).filter fun w => isRefLoad w.1)

/-- The channels that a ruling names are ruling channels, at priority 7 (R534). -/
def State.rulingChannels (s : State) : State :=
  each (List.range 64) (fun c s =>
    if s.named c then (s.setFld (SLU_CH_CFG c) SLU_CH_CFG_RUL 1).setFld (SLU_CH_CFG c) SLU_CH_CFG_PRIO 7
    else s.setFld (SLU_CH_CFG c) SLU_CH_CFG_RUL 0) s

/-- What registers report of the loaded tables: populated rows and elements, Wtot and the largest SETTLE (R225, R262,
R411, R413). -/
def State.tableCounts (s : State) : State :=
  let s := each (List.range 4) (fun p s =>
    if s.isOpen (6 + p) then
      (s.setFld (INK_CFG p) INK_CFG_ROWS (s.populatedRows p).length).setFld (BRU_CFG p) BRU_CFG_ELEMS (s.populatedElems p).length
    else s) s
  (s.setReg MIR_WORDS (BitVec.ofNat 32 s.mapWords)).setFld MIR_QUAL MIR_QUAL_SETTLE s.mapSettle

/-- Whether a slot has room for the ledger: its folio, where it holds one, ends below the last two sectors (R668). -/
def State.slotRoom (s : State) (x : Fin 2) : Bool :=
  let half := s.flashSize / 2
  let b := half * x.val
  decide (s.flashWord b ≠ 0x4C4F4647) || decide ((s.flashWord (b + 8)).toNat + 131072 ≤ half)

/-- The slot has loaded (R607 steps 4 and 5). -/
def State.loaded (x : Fin 2) (h : FolioHeader) (s : State) : State :=
  let s := (s.setBootState bootLoaded).setFld BOOT_STAT BOOT_STAT_SLOT x.val
  let s := (s.setReg BOOT_FID (BitVec.ofNat 32 (folioId h))).setReg BOOT_SERIAL h.serial
  let s := (s.setFld MF_CFG MF_CFG_ROLE (h.flags.toNat / 4 % 4)).setFld SEC_SIGNER SEC_SIGNER_USED (2 ^ s.boot.signer.val)
  let s := s.refLoads.rulingChannels.tableCounts
  let s := s.firstRuling.refsRestart.ptpsListen.lanesLoaded
  let s := s.ledgerCopy x (decide (h.length.toNat + 131072 ≤ s.flashSize / 2)) (s.slotRoom (1 - x))
  let s := ((s.setFld (FAB_CTL 0) FAB_CTL_REMAP 1).mark EVT_BOOT_DONE).decideMode 2
  s.setStep (.loaded x)

/-- VALIDATION_DONE (R620): the first check that fails, with the index of its section. -/
def State.validated (x : Fin 2) (s : State) : State :=
  match s.boot.header with
  | none => s
  | some h =>
    match s.validate h with
    | some (c, i) => s.slotFail x 9 i c
    | none => s.loaded x h

/-- Whether the scribe's boot can go on: LOAD, the scribe at work. -/
def State.booting (s : State) : Bool := s.mode == modeLoad && s.scribeActs

def execFlashInitDone (info : FlashInfo) (s : State) : Host.Outcome State Fault Refusal :=
  .next (if s.booting ∧ s.boot.step = .flashInit then s.flashInit info else s)

def execPass1Done (slot : Fin 2) (header : FolioHeader) (digest : BitVec 384) (signature : BitVec 768) (s : State) : Host.Outcome State Fault Refusal :=
  .next (if s.booting ∧ s.boot.step = .pass1 slot then s.pass1 slot header digest signature else s)

def execPass2Done (slot : Fin 2) (sections : List StoredSection) (digest : BitVec 384) (fault : Option (BitVec 8)) (s : State) : Host.Outcome State Fault Refusal :=
  .next (if s.booting ∧ s.boot.step = .pass2 slot then s.pass2 slot sections digest fault else s)

def execValidationDone (s : State) : Host.Outcome State Fault Refusal :=
  .next (if s.booting then
      match s.boot.step with
      | .validate x => s.validated x
      | _ => s
    else s)

/-- A flash read timed out waiting for DQS and is retried (R609). -/
def execFlashDqsTimeout (s : State) : Host.Outcome State Fault Refusal :=
  .next (if s.scribeActs ∧ s.mode ≠ modeDark then s.mark EVT_BOOT_FLASH else s)

/-! ### Flash programming (R626) -/

def flIdle : Nat := 0
def flBusy : Nat := 1
def flDone : Nat := 2
def flRefused : Nat := 3
def flError : Nat := 4

def State.flState (s : State) : Nat := s.fld BOOT_FL_STAT BOOT_FL_STAT_STATE
def State.setFlState (v : Nat) (s : State) : State := s.setFld BOOT_FL_STAT BOOT_FL_STAT_STATE v

/-- Whether ERASE and PROGRAM are refused at an address. -/
def State.flRefuses (s : State) (a : Nat) : Bool :=
  (match s.boot.step with
   | .loaded x => s.slotOf a == some x
   | _ => false) ||
    s.mode == modeDark || (s.mode == modeLoad && s.boot.step != .failed) || s.mode == modeSealed ||
    (s.mode == modeService && s.mf.blotted)

/-- The ledger of the slot in which an address lies is lost. -/
def State.ledgerLose (a : Nat) (s : State) : State :=
  if s.inLedger a then
    let l := s.fb.slots.filter fun x => s.slotOf a != some x
    if l = s.fb.slots then s
    else ((s.withFb { s.fb with slots := l, ledger := if l = [] then [] else s.fb.ledger, turns := if l = [] then 0 else s.fb.turns })).ledgerView
  else s

/-- ERASE: the 64 KiB sector that holds BOOT_FL_ADDR. -/
def State.flErase (s : State) : State :=
  let a := (s.reg BOOT_FL_ADDR).toNat
  if s.flState = flBusy then s.mark EVT_BOOT_FLASH
  else if s.flRefuses a then s.setFlState flRefused
  else
    let s := (s.setFlState flBusy).ledgerLose a
    s.withBoot { s.boot with op := some (.erase (65536 * (a / 65536))) }

/-- PROGRAM: the 256 bytes of BOOT_FL_BUF. -/
def State.flProgram (s : State) : State :=
  let a := (s.reg BOOT_FL_ADDR).toNat
  if s.flState = flBusy then s.mark EVT_BOOT_FLASH
  else if s.flRefuses a ∨ a % 256 ≠ 0 then s.setFlState flRefused
  else
    let s := (s.setFlState flBusy).ledgerLose a
    s.withBoot { s.boot with op := some (.program a ((List.range 64).map fun i => s.reg (BOOT_FL_BUF i))) }

/-- RETRY: in LOAD with STATE = FAILED only (R626, R701). -/
def State.flRetry (s : State) : State :=
  if s.flState = flBusy then s.mark EVT_BOOT_FLASH
  else if s.mode = modeLoad ∧ s.boot.step = .failed then
    let s := (s.setReg BOOT_ERR_A 0).setReg BOOT_ERR_B 0
    s.loadEntry.bootStart
  else s

/-- The device has finished: DONE with the contents it leaves, or ERROR with contents that the spec leaves open. -/
def State.flComplete (ok : Bool) (s : State) : State :=
  match s.boot.op with
  | none => s
  | some op =>
    let s := s.withBoot { s.boot with op := none }
    let pages := match op with | .erase a => (List.range 256).map (a / 256 + ·) | .program a _ => [a / 256]
    if ok then
      let s := s.setFlState flDone
      match op with
      | .erase _ => each pages (fun p s => s.setPage p (List.replicate 64 0xFFFFFFFF)) s
      | .program a l => s.setPage (a / 256) (List.zipWith (fun x y => x &&& y) (s.flashPage (a / 256)) l)
    else each pages State.pageFree (s.setFlState flError)

def execFlashErase (s : State) : Host.Outcome State Fault Refusal := .next s.flErase
def execFlashProgram (s : State) : Host.Outcome State Fault Refusal := .next s.flProgram
def execFlashRetry (s : State) : Host.Outcome State Fault Refusal := .next s.flRetry
def execFlashOpComplete (ok : Bool) (s : State) : Host.Outcome State Fault Refusal := .next (s.flComplete ok)

/-! ### Reads of the folio image at run time (R624, R625) -/

/-- The slot whose folio is loaded. -/
def State.loadedSlot (s : State) : Option (Fin 2) :=
  match s.boot.step with
  | .loaded x => some x
  | _ => none

/-- What an image read is for is done with what the read brings. -/
def State.imageDone (act : ImageAction) (s : State) : State :=
  let s := s.withBoot { s.boot with retries := s.boot.retries.filter (· != act) }
  match act with
  | .relief q => s.prepare q
  | .reduced => s.prepareReduced
  | .inkRow p row => s.rewriteRow p.val row.val
  | .element p e => s.rewriteElem p.val e.val
  | .map a => s.rewriteMap a
  | .nibReload n => if s.isOpen (domKey (.nib n)) then s.loadNib n.val (s.nibImage n.val) else s

/-- A second failure abandons the action (R625). -/
def State.imageAbandon (act : ImageAction) (sec : BitVec 8) (x : Fin 2) (s : State) : State :=
  let s := s.withBoot { s.boot with retries := s.boot.retries.filter (· != act) }
  let s := (s.mark EVT_BOOT_FLASH).setReg (errReg x) (BitVec.ofNat 32 (11 * 2 ^ 24 + 2 ^ 16 * sec.toNat))
  match act with
  | .relief q =>
    match s.move q.val with
    | some m =>
      if m.back then (if s.relState q.val = relLost then s.noCover else s)
      else
        let s := (s.setMove q.val none).setRelState q.val 0
        if m.rotation then s.noReliefNext q m.next else s.noCover
    | none => s
  | .reduced => s.noCover
  | .nibReload n => if n.val < 256 then s.rotationFail (nibQuire n) n.val else s.loseRelief (nibQuire n)
  | _ => s

def execImageReadDone (act : ImageAction) (s : State) : Host.Outcome State Fault Refusal :=
  .next (if s.scribeActs ∧ s.loadedSlot.isSome then s.imageDone act else s)

def execImageReadRetry (act : ImageAction) (folioSection : BitVec 8) (s : State) : Host.Outcome State Fault Refusal :=
  .next (match s.loadedSlot with
    | none => s
    | some x =>
      if s.scribeActs = false then s
      else if s.boot.retries.contains act then s.imageAbandon act folioSection x
      else (s.withBoot { s.boot with retries := s.boot.retries ++ [act] }))

end Sys2Proof.Machine
end

