-- ==== Sys2Proof/Machine/Idle.lean ====
section
/-! DEFINITION. What passes when no command waits: one ROOT cycle of the stroke (R51). -/

namespace Sys2Proof.Machine

/-- The length of the stroke in hand: the alignment stroke is lengthened (R48, R57). -/
def State.strokeLen (s : State) : Nat :=
  match s.tim.align with
  | .coarse j _ => 102400 + 25600 * j.val
  | _ => 102400

/-- One ROOT cycle passes while ROOT runs, up to the last cycle of the stroke: the boundary itself is a command. -/
def State.idle (s : State) : State :=
  if s.mf.root = true ∧ s.phase + 1 < s.strokeLen then s.withTim { s.tim with sysCnt := s.tim.sysCnt + 1 } else s

end Sys2Proof.Machine
end

