-- ==== Sys2Proof/Machine/Sec.lean ====
section
/-! DEFINITION. The security unit: test port, breach, lid sense, blot (spec/20_security.md R639 to R655). -/

namespace Sys2Proof.Machine

def blotRunning : Nat := 1
def blotComplete : Nat := 2
def causeBreach : Nat := 1
def causeLid : Nat := 2

/-! ### What the registers show of the OTP (R654, R655) -/

/-- SEC_STAT with the OTP's bits. -/
def State.secStat (s : State) : Word :=
  let o := s.sec.otpA
  let w := SEC_STAT_OTPLOCK.put (s.reg SEC_STAT) (b2n o.locked)
  SEC_STAT_LIDPOL.put (SEC_STAT_LIDEN.put w (b2n o.lidEn)) (b2n o.lidPol)

/-- SEC_SIGNER with the OTP's bits. -/
def State.secSigner (s : State) : Word :=
  SEC_SIGNER_REVOKED.put (SEC_SIGNER_PROGRAMMED.put (s.reg SEC_SIGNER) s.sec.otpA.programmed.toNat) s.sec.otpA.revoked.toNat

/-- Word `k` of a 384-bit digest, its first bytes first. -/
def digestWord (d : BitVec 384) (k : Nat) : Word := BitVec.ofNat 32 (d.toNat / 2 ^ (32 * (11 - k)))

/-- A register of the security unit as a read sees it. -/
def State.secView (s : State) (a : Nat) : Word :=
  if a = SEC_STAT then s.secStat
  else if a = SEC_SIGNER then s.secSigner
  else if a = SEC_CHIP_ID_LO then loWord s.sec.otpA.chipId
  else if a = SEC_CHIP_ID_HI then hiWord s.sec.otpA.chipId
  else if SEC_SIGNER_HASH 0 ≤ a ∧ a < SEC_SVC_HASH 0 then
    digestWord (s.sec.otpA.signers.getD ((a % 0x1000 - 0x100) / 48) 0) ((a % 0x1000 - 0x100) % 48 / 4)
  else if SEC_SVC_HASH 0 ≤ a ∧ a < SEC_SVC_HASH 0 + 48 then digestWord s.sec.otpA.svc ((a % 0x1000 - 0x1C0) / 4)
  else s.reg a

/-! ### The blot (R649 to R653) -/

/-- Key SRAM goes to zero. -/
def State.keysZero (s : State) : State :=
  ((s.withSec { s.sec with keys := [] })).setReg SEC_KEYS 0

/-- A blot starts (R649, R650). -/
def State.blot (cause : Nat) (s : State) : State :=
  let s := ((s.setFld SEC_STAT SEC_STAT_BLOT blotRunning).setFld SEC_STAT SEC_STAT_CAUSE cause).setFld SEC_STAT SEC_STAT_BUSY 0
  let s := s.withSec { s.sec with blot := some s.tim.sysCnt, verifying := none, chal := none }
  let s := s.withMf { s.mf with scribeHeld := true }
  let s := (s.setFld (FAB_CTL 0) FAB_CTL_REMAP 0).lanesOff.streamsStop
  let s := each allDomains State.closeGate s
  let s := (s.keysZero.zeroMem 0x04000000 0x04080000).zeroMem 0x08000000 0x08200000
  let s := s.withSlate []
  if s.mode = modeDark then s else s.decideMode 13

/-- LID_EVENT (R648, R652, R653). -/
def State.lid (s : State) : State :=
  let s := s.otpCheck.setFld SEC_STAT SEC_STAT_LIDLVL (b2n s.sec.otpA.lidPol)
  if s.sec.otpA.lidEn = false then s
  else
    let s := s.mark EVT_SEC_LID
    if s.mode = modeSealed then s.keysZero
    else if s.blotOn then s
    else s.blot causeLid

/-- Whether the read-back of key SRAM, scribe SRAM and the slate finds anything that is not zero (R649). -/
def State.blotLeft (s : State) : Bool :=
  !s.sec.keys.isEmpty || s.mem.any fun (e : Nat × Byte) =>
    (decide (0x04000000 ≤ e.1) && decide (e.1 < 0x04080000)) || (decide (0x08000000 ≤ e.1) && decide (e.1 < 0x08200000))

/-- The blot's read-back has ended (R649): the domains are down, the scribe is released unless the engine is sealed,
a breach is granted (R650). -/
def State.blotEnd (s : State) : State :=
  let s := if s.blotLeft then s.grave EVT_SEC_KEY else s
  let s := each ((List.finRange 4).map Domain.net ++ [.sap, .lane] ++ (List.finRange 4).map Domain.pld) State.powerDown s
  let s := (s.setFld SEC_STAT SEC_STAT_BLOT blotComplete).mark EVT_SEC_BLOT
  let (x, s) := s.freshWord
  let s := s.setReg SEC_BLOT_T (BitVec.ofNat 32 (x.toNat % 65536))
  let s := s.withSec { s.sec with blot := none }
  let s := if s.fld SEC_STAT SEC_STAT_CAUSE = causeBreach then s.setFld SEC_STAT SEC_STAT_GRANTED 1 else s
  if s.isSealing ∨ s.mf.root = false then s
  else
    let s := s.withMf { s.mf with scribeHeld := false }
    if s.mode = modeDark then s.decideMode 13 else s

def execLidEvent (s : State) : Host.Outcome State Fault Refusal := .next (if s.mf.power then s.lid else s)

def execBlotDone (s : State) : Host.Outcome State Fault Refusal :=
  .next (if s.fld SEC_STAT SEC_STAT_BLOT = blotRunning then s.blotEnd else s)

/-! ### The test port (R644 to R647) -/

def State.setTap (ir : TapIr) (dr : List Bool) (s : State) : State := s.withSec { s.sec with tap := ⟨ir, dr⟩ }

/-- The bits of a word, the least significant first. -/
def lsbFirst (w : Word) : List Bool := (List.range 32).map fun i => w.getLsbD i

/-- `n` bits of a number, the most significant first. -/
def msbFirst (n v : Nat) : List Bool := (List.range n).map fun i => v.testBit (n - 1 - i)

def State.granted (s : State) : Bool := s.on SEC_STAT SEC_STAT_GRANTED

/-- The identity register (R644). -/
def idWord : Word :=
  BitVec.ofNat 32 (2 ^ 28 * Config.siliconRev.toNat + 0x2048 * 2 ^ 12 + Config.jep106.toNat * 2 + 1)

def execIdcode (s : State) : Host.Outcome State Fault Refusal := .next (s.setTap .idcode (lsbFirst idWord))

/-- SAMPLE/PRELOAD observes the pins and drives nothing. -/
def execSamplePreload (s : State) : Host.Outcome State Fault Refusal :=
  .next ((s.setTap .sample (Config.boundaryScan s.free)).withFree (s.free + 1))

/-- The codes of R644 that are not BYPASS. -/
def tapCodes : List (BitVec 8) := [0x01, 0x02, 0x10, 0x11, 0x12]

/-- BYPASS, and every code that acts as BYPASS. -/
def execBypass (code : BitVec 8) (s : State) : Host.Outcome State Fault Refusal :=
  .next (if tapCodes.contains code then s else s.setTap .bypass [false])

/-- The challenge, its first bit the one shifted out first (R645). -/
def State.challenge (s : State) (nonce : BitVec 256) : BitVec 384 :=
  s.sec.otpA.chipId ++ nonce ++ BitVec.ofNat 16 s.sec.attempts ++ BitVec.ofNat 16 (s.reg BOOT_FWREV).toNat ++ (0 : Word)

def execBrChal (nonce : BitVec 256) (s : State) : Host.Outcome State Fault Refusal :=
  let s := s.otpCheck
  let c := s.challenge nonce
  let s := s.setTap .chal (msbFirst 384 c.toNat)
  .next (s.withSec { s.sec with chal := some c })

/-- A response fails (R646). -/
def State.brFail (s : State) : State :=
  let s := s.bump CTR_SEC_BR_CNT
  let s := s.withSec { s.sec with attempts := s.sec.attempts + 1, verifying := none }
  let n := Nat.min 3 s.sec.attempts
  let s := (s.setFld SEC_STAT SEC_STAT_FAILS n).setFld SEC_STAT SEC_STAT_BUSY 0
  if n = 3 then s.setFld SEC_STAT SEC_STAT_LOCKED 1 else s

/-- A response is submitted (R645, R646, R652). -/
def State.response (shifted : List Word) (s : State) : State :=
  let s := s.setTap .resp s.sec.tap.dr
  if s.blotOn then s.grave EVT_SEC_REBREACH
  else if s.mode = modeDark ∨ s.mode = modeSealed ∨ s.sec.verifying.isSome then s.setFld SEC_STAT SEC_STAT_BUSY 1
  else if s.on SEC_STAT SEC_STAT_LOCKED then s.brFail
  else
    match s.sec.chal with
    | none => s.brFail
    | some c => ((s.withSec { s.sec with chal := none, verifying := some (shifted, c) })).setFld SEC_STAT SEC_STAT_BUSY 1

def execBrResp (shifted : List Word) (s : State) : Host.Outcome State Fault Refusal := .next (s.response shifted)

def execBrStat (s : State) : Host.Outcome State Fault Refusal := .next (s.setTap .stat (lsbFirst s.secStat))

/-- Words `lo` to `hi` of a response, the first the most significant, as a number. -/
def respNum (l : List Word) (lo hi : Nat) : Nat := ((l.take hi).drop lo).foldl (fun acc w => 2 ^ 32 * acc + w.toNat) 0

/-- Whether a response answers a challenge: 1,536 bits, a public key with the service key hash, its signature over the
SHA-384 digest of the challenge's 48 bytes (R645). -/
def State.answers (s : State) (l : List Word) (c : BitVec 384) : Bool :=
  let key := respNum l 0 24
  decide (l.length = 48) && decide (Config.sha384 (beBytes 96 key) = s.sec.otpA.svc) &&
    Config.ecdsaVerify (BitVec.ofNat 768 key) (Config.sha384 (beBytes 48 c.toNat)) (BitVec.ofNat 768 (respNum l 24 48))

/-- The scribe has verified a response (R645, R646). -/
def execBreachResponseVerified (s : State) : Host.Outcome State Fault Refusal :=
  .next (match s.sec.verifying with
    | none => s
    | some (l, c) =>
      if s.scribeActs = false then s
      else
        let s := s.otpCheck
        if s.answers l c then (s.mark EVT_SEC_BREACH).blot causeBreach else s.brFail)

/-- EXTEST drives the pins from the boundary register once a breach is granted; until then its code acts as BYPASS. -/
def execExtest (s : State) : Host.Outcome State Fault Refusal :=
  .next (if s.granted then ((s.setTap .extest (Config.boundaryScan s.free)).withFree (s.free + 1)) else s.setTap .bypass [false])

/-- The signer revoke instruction blows a revoke bit in both copies of the OTP (R640, R646). -/
def execSignerRevoke (i : Fin 4) (s : State) : Host.Outcome State Fault Refusal :=
  .next (if s.granted then
      let blow : Otp → Otp := fun o => { o with revoked := setBit o.revoked i.val true }
      let s := s.setTap .revoke s.sec.tap.dr
      s.withSec { s.sec with otpA := blow s.sec.otpA, otpB := blow s.sec.otpB }
    else s.setTap .bypass [false])

end Sys2Proof.Machine
end

