-- ==== Sys2Proof/Machine/Views.lean ====
section
/-! DEFINITION. What a read of a register returns: registers that show a unit's state, event lines, wide registers
with their shadow latches, registers that a read clears (spec/00_scope.md R7, R15 to R17, and the register maps). -/

namespace Sys2Proof.Machine

/-! ### Event lines (R578 to R582) -/

/-- Status bits that are set and enabled. -/
def State.raised (s : State) (a : Nat) : Word := s.reg a &&& s.reg (a + 4)

/-- SAP_EVT_SUM and LANE_EVT_SUM: a bit for each bank with an enabled bit set. -/
def sumBits (n : Nat) (f : Nat → Bool) : Word := BitVec.ofNat 32 ((List.range n).foldl (fun acc i => if f i then acc + 2 ^ i else acc) 0)

def State.sapSum (s : State) : Word := sumBits 16 fun k => s.raised (SAP_EVT_STATUS k) != 0
def State.laneSum (s : State) : Word := sumBits 32 fun k => s.raised (LANE_EVT_STATUS k) != 0

/-- The levels of a unit's lines, skipping its reserved bits. -/
def State.unitLines (s : State) (u : EvtUnit) : List Bool :=
  ((List.range 32).filter fun i => u.bits.testBit i).map fun i => bitOf (s.raised u.reg) i

/-- The levels of all lines (R581). -/
def State.lines (s : State) : List Bool :=
  evtUnitsA.flatMap s.unitLines ++ ((List.range 16).map fun k => bitOf s.sapSum k) ++
    ((List.range 32).map fun k => bitOf s.laneSum k) ++ evtUnitsB.flatMap s.unitLines

/-- MCH_ATTN (R605). -/
def State.attn (s : State) : Bool :=
  let m := s.reg MF_ATTN_MASK
  (evtUnitsA ++ evtUnitsB ++ evtCauses).any fun u =>
    let w := (s.raised u.reg).toNat
    (bitOf m 3 && w &&& u.grave != 0) || (bitOf m 2 && w &&& u.contain != 0) || (bitOf m 1 && w &&& u.degrade != 0) ||
      (bitOf m 0 && w &&& (u.bits - u.degrade - u.contain - u.grave) != 0)

/-- Whether a cofferdam is in force (R606). -/
def State.coffered (s : State) : Bool :=
  (List.range 5).any fun l => s.reg (FAB_COFF l) != 0 || (decide (0 < l) && (List.range 4).any fun q => s.reg (FAB_NIB_COFF l q) != 0)

/-! ### Registers that show a unit's state -/

/-- NIB_STAT (R125). -/
def State.nibStat (s : State) (n : Nat) : Word :=
  let x := s.nib n
  let b := if x.bank then x.shad else x.prim
  BitVec.ofNat 32 (2 ^ 6 * x.last.toNat + 2 ^ 4 * x.ended.toNat + b2n b.repAt.isSome * 8 + b2n x.bank * 4 + b2n x.run * 2)

/-- A register of a nib's block, by the nib and the offset in its window. -/
def State.nibView (s : State) (a : Nat) : Word :=
  match nibOfAddr a with
  | some (n, o) =>
    if o = 0x8000 then s.nibStat n
    else if o = 0x800C then (s.nib n).irq.setWidth 32
    else if o = 0x8010 then s.nibCyc n
    else if o = 0x8014 then (s.nib n).bexp.setWidth 32
    else s.reg a
  | none => s.reg a

/-- A register of the serial ports' unit block (R291). -/
def State.sapView (s : State) (a : Nat) : Word :=
  if a = SAP_PORTS then
    BitVec.ofNat 32 (2 ^ 16 * (sumBits 16 fun k => s.on (SAP_CTL k) SAP_CTL_TXEN).toNat + (sumBits 16 fun k => s.on (SAP_CTL k) SAP_CTL_RXEN).toNat)
  else if a = SAP_EVT_SUM then s.sapSum
  else if SAP_GRP 0 ≤ a ∧ a < SAP_GRP 16 then
    let g := a / 4 % 16
    let m := s.sapMembers g
    let r := match m.find? (fun k => s.sapLock k) with | some k => k | none => 0
    BitVec.ofNat 32 (2 ^ 20 * (b2n (s.sapHeld.contains g)) + 2 ^ 16 * r + (sumBits 16 fun k => m.contains k).toNat)
  else s.reg a

/-- A register of the drive lanes (R297, R330). -/
def State.laneView (s : State) (a : Nat) : Word :=
  if a = LANE_EN then sumBits 32 fun k => s.on (LANE_CFG k) LANE_CFG_EN
  else if a = LANE_EVT_SUM then s.laneSum
  else
    let k := a / 0x100 % 0x100 - 1
    if a = LANE_STAT k ∧ k < 32 then
      LANE_STAT_CALPEND.put (s.reg (LANE_STAT (s.leveeOf k))) (s.fld (LANE_STAT k) LANE_STAT_CALPEND)
    else s.reg a

/-- A register of a time base (R469, R472, R497). -/
def State.tbView (s : State) (a : Nat) : Word :=
  let i := a / 0x80 % 32
  let v := s.tbNow i
  let p : BitVec 64 := BitVec.ofInt 64 (s.tbPend i)
  if a = TB_FRAC i then BitVec.ofNat 32 (tbFrac v)
  else if a = TB_NS i then BitVec.ofNat 32 (tbNs v)
  else if a = TB_SEC_LO i then BitVec.ofNat 32 (tbSec v)
  else if a = TB_SEC_HI i then BitVec.ofNat 32 (tbSec v / 2 ^ 32 % 2 ^ 16)
  else if a = TB_PEND_LO i then loWord p
  else if a = TB_PEND_HI i then hiWord p
  else if a = TB_STAT i then TB_STAT_SLEWING.put (TB_STAT_GOV.put (s.reg a) (b2n (s.governs i))) (b2n (s.tbPend i != 0))
  else s.reg a

/-- A register of a capture input (R496, R501). -/
def State.capView (s : State) (port : Port) (a : Nat) : Word :=
  let k := a / 0x80 % 32
  let o := a % 0x80
  if a = CAP_STAT k then BitVec.ofNat 32 (s.capt k).fifo.length
  else if 0xC ≤ o ∧ o < 0x44 then s.capWord port k o
  else s.reg a

/-- A register of the reference unit: TRIM is 1 while the trim is active (R462). -/
def State.refView (s : State) (a : Nat) : Word :=
  if a = REF_STAT then REF_STAT_TRIM.put (s.reg a) (b2n s.trimRate.isSome) else s.reg a

/-- A register of the stroke timer (R51 to R55, R73). -/
def State.stkView (s : State) (a : Nat) : Word :=
  if a = STK_NUM_LO then loWord s.tim.strk
  else if a = STK_NUM_HI then hiWord s.tim.strk
  else if a = SYS_CNT_LO then loWord s.tim.sysCnt
  else if a = SYS_CNT_HI then hiWord s.tim.sysCnt
  else if a = STK_BND_LO then loWord s.tim.bnd
  else if a = STK_BND_HI then hiWord s.tim.bnd
  else if a = STK_PHASE then BitVec.ofNat 32 s.phase
  else s.reg a

/-- A register of the tag stager (R397, R401). -/
def State.tagView (s : State) (port : Port) (a : Nat) : Word :=
  if a = TAG_STAT then BitVec.ofNat 32 (2 ^ 16 * s.stager.staged.length + s.stager.hist.length)
  else if a = TAG_PEND_ADDR then SMap.get (fun _ => 0) s.stager.pendAddr (portIx port)
  else if a = TAG_PEND then s.pendWord port
  else if a = TAG_PEND_LO then loWord (s.pendStroke port)
  else if a = TAG_PEND_HI then hiWord (s.pendStroke port)
  else s.reg a

/-- FB_SEG_STAT for the segment selected (R667, R673). -/
def State.segStat (s : State) : Word :=
  let x := (s.reg FB_SEG_SEL).toNat % 1024
  if 573 ≤ x then 0
  else
    BitVec.ofNat 32 (2 ^ 28 * (8 - s.segUsed x) + 2 ^ 16 * (Nat.min 255 (s.ledgerRows x)) +
      Nat.min 65535 (SMap.get (fun _ => 0) (s.group (segGroup x)).found x))

/-- A register of the modes-and-faults unit (R605, R606): the fault summary is the one that phase 5 latched (R66), but
for GRAVE, which sets at once (R586). -/
def State.mfView (s : State) (a : Nat) : Word :=
  if a = MF_FAULT then MF_FAULT_GRAVE.put s.mf.summary (s.fld MF_FAULT MF_FAULT_GRAVE)
  else if MF_LINES 0 ≤ a ∧ a < MF_LINES 14 then sumBits 32 fun j => s.lines.getD (8 * (a % 0x100 - 0x80) + j) false
  else s.reg a

/-- A register of a polder's window. -/
def State.pldView (s : State) (a : Nat) : Word :=
  let p := polderOf a
  if inNibRegs a then s.nibView a
  else if BRU_INTERP p 0 ≤ a ∧ a < BRU_INTERP p 8 then (if a = BRU_INTERP p 3 then 0x3F800000 else 0)
  else s.reg a

/-- What a register reads as now, for an access path, before any effect of the read. -/
def State.view (s : State) (port : Port) (a : Nat) : Word :=
  match regRow a with
  | none => 0
  | some r =>
    if r.acc = .wo then 0
    else if 0x10000000 ≤ a ∧ a < 0x20000000 then s.pldView a
    else if 0x20100000 ≤ a ∧ a < 0x20100100 then s.refView a
    else if 0x20101000 ≤ a ∧ a < 0x20101200 then s.tbView a
    else if 0x20105000 ≤ a ∧ a < 0x20105400 then s.capView port a
    else if 0x20108000 ≤ a ∧ a < 0x2010803C then s.stkView a
    else if 0x20200000 ≤ a ∧ a < 0x20200100 then s.sapView a
    else if 0x20300000 ≤ a ∧ a < 0x20302100 then s.laneView a
    else if 0x20500000 ≤ a ∧ a < 0x20501000 then s.secView a
    else if a = FB_SEG_STAT then s.segStat
    else if MEM_SCRUB_START 0 ≤ a ∧ a < MEM_SCRUB_START 21 then
      let g := a / 0x100 % 0x80
      if a = MEM_SPARE g then BitVec.ofNat 32 (2 ^ 16 * (s.freeRows g) + Nat.min 65535 (s.group g).repaired) else s.reg a
    else if 0x20700000 ≤ a ∧ a < 0x20700100 then s.mfView a
    else if a = RUL_ENTRIES then (match s.ruling with | some r => if s.rulingRuns then BitVec.ofNat 32 (rulCount r) else 0 | none => 0)
    else if 0x20708000 ≤ a ∧ a < 0x20708400 then s.tagView port a
    else s.reg a

/-! ### Wide registers (R15 to R17) -/

/-- The words of each wide register, the low word first. -/
def wideGroups : List (List Nat) :=
  [[STK_NUM_LO, STK_NUM_HI], [SYS_CNT_LO, SYS_CNT_HI], [STK_BND_LO, STK_BND_HI], [TAG_PEND_LO, TAG_PEND_HI],
    [MIR_DIG_LO, MIR_DIG_HI, MIR_DSTK_LO, MIR_DSTK_HI], [REF_ABSORB_LO, REF_ABSORB_HI], [MF_MODE_STK_LO, MF_MODE_STK_HI],
    [SEC_CHIP_ID_LO, SEC_CHIP_ID_HI], [FB_LIFE_LO, FB_LIFE_HI]] ++
  (List.range 4).flatMap (fun i => [[TB_FRAC i, TB_NS i, TB_SEC_LO i, TB_SEC_HI i], [TB_PEND_LO i, TB_PEND_HI i],
    [PORT_RX_BYTES_LO i, PORT_RX_BYTES_HI i], [PORT_TX_BYTES_LO i, PORT_TX_BYTES_HI i]]) ++
  (List.range 2).map (fun w => [PTP_GM_LO w, PTP_GM_HI w]) ++
  (List.range 16).map (fun k => [SAP_STAMP_LO k, SAP_STAMP_HI k, SAP_STAMP_STK k])

/-- The wide register that an address is a word of, and which word. -/
def wideOf (a : Nat) : Option (List Nat × Nat) :=
  (wideGroups.find? fun g => g.contains a).map fun g => (g, g.findIdx (· == a))

/-- The key of a path's shadow latch of a wide register. -/
def latchKey (port : Port) (low : Nat) : Nat := 2 ^ 32 * (portIx port) + low

/-- Clear what a read clears (R7, R17): RXF_STAT only its MAXSKEW (R371); after BRU_SWEEP_MIN the next slack starts the
minimum afresh (R262). -/
def State.readClear (a : Nat) (s : State) : State :=
  match regRow a with
  | none => s
  | some r =>
    if r.acc ≠ .rc then s
    else if 0x20040000 ≤ a ∧ a < 0x20050000 ∧ a = RXF_STAT (a / 64 % 1024) then s.setFld a RXF_STAT_MAXSKEW 0
    else if a = BRU_SWEEP_MIN (polderOf a) then (s.setReg a 0).setBru (polderOf a) { s.bru (polderOf a) with minRead := true }
    else s.setReg a 0

/-- A read of a register by a path: its value, and the state after it (R15 to R17, R496). -/
def State.readReg (port : Port) (a : Nat) (s : State) : Word × State :=
  let k := a / 0x80 % 32
  if a = CAP_POP k ∧ k < 8 then s.capPop port k
  else
    match wideOf a with
    | some (g, 0) =>
      let v := s.view port a
      let rest := (g.drop 1).map fun b => s.view port b
      let s := s.withLatch (SMap.set (fun _ => []) s.latch (latchKey port a) rest)
      (v, each g State.readClear s)
    | some (g, i) => ((SMap.get (fun _ => []) s.latch (latchKey port (g.headD 0))).getD (i - 1) 0, s)
    | none => (s.view port a, s.readClear a)

end Sys2Proof.Machine
end

