-- ==== Sys2Proof/Machine/Commit.lean ====
section
/-! DEFINITION. Writes of registers by their access types, and the changes that phase 2 of a boundary applies
(spec/00_scope.md R7 to R10, spec/02_stroke_and_timing.md R67 to R74, spec/11_margin_tags_and_authority.md R384 to
R388). -/

namespace Sys2Proof.Machine

/-! ### Values that a register takes (R74, R331, R497) -/

/-- The masked bits of a new word in place of the old ones. -/
def mergeBits (old new mask : Word) : Word := (old &&& ~~~mask) ||| (new &&& mask)

/-! ### The effect of a committed value -/

/-- A request of an alignment (R57, R75). -/
def State.realign (s : State) : State := s.alignDue

/-- NET_FLOW_EN: each flow whose bit changes is enabled or disabled (R348). -/
def State.commitFlows (i : Nat) (w : Word) (s : State) : State :=
  each (List.range 32) (fun b s => s.flowSet (32 * i + b) (bitOf w b)) s

/-- MF_TEST by its KIND (R602 to R604). -/
def State.commitTest (w : Word) (s : State) : State :=
  match bits w 31 28 with
  | 1 => s.testNib (bits w 8 0)
  | 2 => s.testFull
  | 3 => s.testCancel
  | _ => s

/-- BOOT_FL_CMD by its CMD (R626). -/
def State.commitFlash (w : Word) (s : State) : State :=
  match w.toNat % 4 with
  | 1 => s.flErase
  | 2 => s.flProgram
  | 3 => s.flRetry
  | _ => s

/-- A function that runs when a bit of a word is 1. -/
def onBit (w : Word) (i : Nat) (f : State → State) (s : State) : State := if bitOf w i then f s else s

/-- A pulse bank: the control register arms and disarms, any other register disarms (R488, R493); a committed period of
the grid is judged (R490). -/
def State.commitPulse (a : Nat) (w : Word) (s : State) : State :=
  let k := a / 0x40 % 16
  if a = PUL_CTL k then
    onBit w 1 (State.pulDisarm k) (onBit w 0 (fun s => if s.pulsesRun then s.pulArm k else s) s)
  else
    let s := (s.setReg a w).pulDisarm k
    if a = PUL_PER_NS k then s.pulRefuse k else s

/-- A lane's register: its two pulse items, or a stored value (R316, R327, R331). -/
def State.commitLane (a : Nat) (w : Word) (s : State) : State :=
  let k := a / 0x100 % 0x100 - 1
  if a = LANE_CLR k then onBit w 0 (State.laneClear k) s
  else if a = LANE_CAL k then onBit w 0 (State.calRequest k) s
  else s.setReg a w

/-- A time base's register (R472, R474, R497). -/
def State.commitTb (a : Nat) (w : Word) (s : State) : State :=
  let i := a / 0x80 % 32
  if a = TB_SLEW i then (s.tbSync i).setReg a w
  else if a = TB_RATE i then (if i = 2 then s else s.tbSetRate i w.toInt)
  else if a = TB_ADJ i then s.tbAdj i w
  else if a = TB_CTL i then onBit w 0 (State.tbSet i) s
  else s.setReg a w

/-- A memory group's register (R566 to R569). -/
def State.commitMem (a : Nat) (w : Word) (s : State) : State :=
  let g := a / 0x100 % 0x80
  if a = MEM_SCRUB_CTL g then onBit w 1 (State.scrubStop g) (onBit w 0 (State.scrubGo g) s)
  else if a = MEM_FLIP_CTL g then onBit w 1 (State.flipDisarm g) (onBit w 0 (State.flipArm g) s)
  else s.setReg a w

/-- A register takes a value: what is stored, and what its unit does (R67, R68). -/
def State.commitReg (a : Nat) (w : Word) (s : State) : State :=
  let w := clampWord a w
  if a = STK_CTL then onBit w 0 State.realign s
  else if 0x20300100 ≤ a ∧ a < 0x20302100 then s.commitLane a w
  else if NET_FLOW_EN 0 ≤ a ∧ a < NET_FLOW_EN 64 then s.commitFlows (a / 4 % 128 - 32) w
  else if 0x20101000 ≤ a ∧ a < 0x20101200 then s.commitTb a w
  else if 0x20104000 ≤ a ∧ a < 0x20104400 then s.commitPulse a w
  else if 0x20608000 ≤ a ∧ a < 0x20609500 then s.commitMem a w
  else if a = MF_CTL then onBit w 2 State.reload (onBit w 1 State.poise (onBit w 0 State.run s))
  else if a = MF_TEST then s.commitTest w
  else if a = MIR_CTL then onBit w 0 State.resync (onBit w 1 State.handover s)
  else if a = REF_SEL then ((s.setReg a w).withRef { s.ref with selNew := true })
  else if a = BOOT_FL_CMD then s.commitFlash w
  else
    let c := (a / 0x40 - 4) % 16 + 16 * polderOf a
    if 0x10000000 ≤ a ∧ a < 0x20000000 ∧ 0x3040100 ≤ a % 0x4000000 ∧ a % 0x4000000 < 0x3040500 ∧ a = SLU_CH_CTL c then
      onBit w 1 (State.sluStop c) (onBit w 0 (State.sluStart c) s)
    else s.setReg a w

/-! ### Writes that take effect on acceptance (R7, R8, R68) -/

/-- The WHO register that a clear of a status bit clears too (R127, R191, R532, R553). -/
def whoOf (a i : Nat) : Option Nat :=
  let p := polderOf a
  let o := a % 0x4000000
  if inNibEvt a then (if i < 4 then some (a + 0x10 + 4 * i) else none)
  else if a = RUL_EVT_STATUS then (if i = 0 then some RUL_SPILL_WHO else none)
  else if a = FAB_EVT_STATUS 0 ∨ (0x10000000 ≤ a ∧ a < 0x20000000 ∧ a = FAB_EVT_STATUS (1 + p)) then
    (if i = 2 then some (a + 8) else if i = 1 then some (a + 12) else none)
  else if 0x10000000 ≤ a ∧ a < 0x20000000 ∧ o = SLU_EVT_STATUS 0 % 0x4000000 then (if i < 7 then some (SLU_WHO p i) else none)
  else none

/-- Bits of a W1C register are cleared. -/
def State.clearBits (a : Nat) (m : Word) (s : State) : State :=
  let s := s.setReg a (s.reg a &&& ~~~m)
  each (List.range 32) (fun i s =>
    if bitOf m i then (match whoOf a i with | some b => s.setReg b 0 | none => s) else s) s

/-- A write by the register's access type: the enabled bits of the word. -/
def State.writeNow (a : Nat) (w mask : Word) (s : State) : State :=
  let m := mask &&& regMask a
  match regAcc a with
  | some .rw => s.commitReg a (mergeBits (s.reg a) w m)
  | some .rws => s.commitReg a (mergeBits (s.reg a) w m)
  | some .wo => s.commitReg a (w &&& m)
  | some .w1c => s.clearBits a (w &&& m)
  | _ => s

/-! ### Register writes (R67, R68, R394, R395, R528, R589) -/

/-- What becomes of a write on acceptance, in the numbering of R632: 0 accepted, 1 refused, 8 refused for CAP. -/
def State.chainWrite (a : Nat) (w mask : Word) (s : State) : Nat × State :=
  if s.isItem a then
    let (ok, s) := s.authJudge .chain a
    if ok = false then (1, s)
    else if s.storeFull then (8, s.capRefuse)
    else (0, s.stageNext .chain a w mask)
  else if a = TAG_PEND_ADDR then (0, s.selectPend (.chip 1) w)
  else if isR68 a then (0, s.writeNow a w mask)
  else (1, s.authRefuse .chain)

/-- Whether a master's write of a register acts at once: fields of R68 (R68), and the scribe's own writes in LOAD (R394),
but for the two registers of the stroke timer that are staged in any mode (R74). -/
def State.actsNow (s : State) (port : Port) (a : Nat) : Bool :=
  !(stagedReg a || s.isItem a) ||
    (decide (port = .chip 0) && s.mode == modeLoad && !(decide (a = STK_ALIGN_LIM) || decide (a = STK_STEER)))

/-- A write of a register by a master; the mask holds the enabled bytes. The scribe alone writes REMAP (R528) and
kicks (R589). A write of an item is staged (R67), judged where the management chain makes it (R394, R395). -/
def State.regWrite (port : Port) (a : Nat) (w mask : Word) (s : State) : State :=
  if port = .chip 1 then (s.chainWrite a w mask).2
  else if a = FAB_CTL 0 then
    (if port = .chip 0 then (if bitOf mask 0 then s.setFld a FAB_CTL_REMAP (w.toNat % 2) else s) else s)
  else if a = MF_KICK then s.kick port
  else if a = TAG_PEND_ADDR then s.selectPend port (mergeBits (SMap.get (fun _ => 0) s.stager.pendAddr (portIx port)) w mask)
  else if s.actsNow port a then s.writeNow a w mask
  else if s.storeFull then s.capRefuse
  else s.stageNext .chain a w mask

/-! ### Applying one change (R384 to R387) -/

/-- What applying a change to a word came to: refused for poison, the word before it, the word after it. -/
structure Applied where
  poison : Bool
  before : Word
  after : Word
  deriving DecidableEq, Repr

/-- Whether a register's command waits for the end of phase 2: TB_CTL.SET and BOOT_FL_CMD (R474, R626). -/
def actsLast (a : Nat) : Bool := decide (a = BOOT_FL_CMD) || (List.range 4).any fun i => decide (a = TB_CTL i)

/-- Whether a register is a slot mask of a serial port, which swaps in phase 3 (R285). -/
def isSapMask (a : Nat) : Bool := (List.range 16).any fun k => decide (a = SAP_RX_MASK k) || decide (a = SAP_TX_MASK k)

/-- The nib register that a change to one of an active nib goes to beside it, while its slices run on the relief
nib (R70). -/
def State.alsoAt (s : State) (a : Nat) : Option Nat :=
  if inNibRegs a ∧ s.mirrorPlace a ≠ a then some (s.mirrorPlace a) else none

/-- A change to a register. -/
def State.applyReg (a : Nat) (v m : Word) (s : State) : Applied × State :=
  let m := m &&& regMask a
  match regAcc a with
  | some .wo => (⟨false, 0, v &&& m⟩, if actsLast a then s else s.commitReg a (v &&& m))
  | some .rw =>
    if isSapMask a then
      let old := SMap.get (fun _ => s.reg a) s.sapMasks a
      let new := mergeBits old v m
      (⟨false, old, new⟩, (s.withSapMasks (SMap.insert s.sapMasks a new)))
    else
      let old := s.reg a
      let s := s.commitReg a (mergeBits old v m)
      let s := match s.alsoAt a with
        | some b => s.commitReg b (s.reg a)
        | none => s
      (⟨false, old, s.reg a⟩, s)
  | _ => (⟨false, s.reg a, s.reg a⟩, s)

/-- A coefficient word refused because its bank is live (R242). -/
def State.coefRefused (s : State) (a : Nat) : Bool :=
  let o := foldPolder a
  ((decide (0x13400000 ≤ o) && decide (o < 0x13800000)) || (decide (0x13C00000 ≤ o) && decide (o < 0x14000000))) && s.coefLive a

/-- A change to a word of memory (R386, R387). -/
def State.applyMem (a : Nat) (v m : Word) (s : State) : Applied × State :=
  let ((old, psn, _), s) := s.readWord32 a
  if psn then (⟨true, old, old⟩, s)
  else if s.coefRefused a then
    (⟨false, old, old⟩, (s.bump (CTR_BRU_LIVE_CNT (polderOf a))).mark (EVT_BRU_LIVE (polderOf a)))
  else
    let (w, s) := s.tableWord a old (mergeBits old v m)
    let s := s.writeWord32 a w false
    let s := if wordLen a = 4 then s.mirrorWrote (a / 8 * 8) (s.mirrorWord (a / 8 * 8)) else s
    (⟨false, old, w⟩, s)

/-- A change to a word where it lies now (R70, R387); behind a closed gate it is dropped. -/
def State.applyWord (t : Nat) (v m : Word) (s : State) : Applied × State :=
  if inRegs t then
    (if (s.closedGate t).isSome then (⟨false, 0, 0⟩, s) else s.applyReg t v m)
  else
    let a := s.mirrorPlace t
    if groupOf a = none ∨ (s.closedGate a).isSome then (⟨false, 0, 0⟩, s) else s.applyMem a v m

/-- The set of writes that a change belongs to (R382). -/
def Change.sameSet (c : Change) (h : HistRec) : Bool := decide (c.path = .tag h.src) && decide (c.apply = h.apply)

/-- A record of the history store learns of bits that a later change has altered. -/
def HistRec.altered (c : Change) (d : Word) (h : HistRec) : HistRec :=
  if h.target = c.target ∧ c.sameSet h = false then { h with dirty := h.dirty ||| d } else h

/-- A restoration learns of bits that another change has altered before it. -/
def Change.altered (c : Change) (d : Word) (x : Change) : Change :=
  if x.restore ∧ x.target = c.target ∧ ¬ (x.path = c.path ∧ x.apply = c.apply) then { x with dirty := x.dirty ||| d } else x

/-- One change is applied: the bits it altered, and the state. -/
def State.applyChange (c : Change) (s : State) : Word × State :=
  let a := c.target.toNat
  if c.restore ∧ c.dirty &&& c.mask ≠ 0 then (0, s.bump CTR_TAG_NORESTORE)
  else
    let (r, s) := if c.psn then (⟨true, 0, 0⟩, s) else s.applyWord a c.value c.mask
    if r.poison then (0, ((s.bump CTR_TAG_POISON).mark EVT_TAG_POISON).addW (a + 1) 0)
    else
      let d := r.before ^^^ r.after
      let s := s.withStager { s.stager with hist := s.stager.hist.map (HistRec.altered c d) }
      let s :=
        match c.path with
        | .tag src =>
          if c.restore then s
          else s.remember { src := src, target := c.target, mask := c.mask, apply := c.apply, prior := r.before, applied := s.tim.strk }
        | _ => s
      (d, s.addW a (r.after.setWidth 64))

/-- Changes in order; a restoration sees what the changes before it altered. -/
def applyChanges : Nat → List Change → State → State
  | 0, _, s => s
  | _, [], s => s
  | n + 1, c :: l, s =>
    let (d, s) := s.applyChange c
    applyChanges n (l.map (Change.altered c d)) s

/-! ### State records (R433, R435) -/

/-- The stager image takes a word (R412, R435): what it holds, the registers whose committed values change with their
units, the marks of the staged copies. -/
def State.putImage (i : Nat) (d : Word64) (psn : Bool) (s : State) : State :=
  let (vs, s) := s.stagerLoad (Config.stagerWrite s.fwRev s.stagerContent i d)
  let s := each vs (fun v s => if s.reg v.1 = v.2 then s else s.commitReg v.1 v.2) s
  let g := s.stager
  let bad := if psn then i :: g.imgPsn.filter (· != i) else g.imgPsn.filter (· != i)
  let hit := bad.flatMap fun x => Config.stagerPart s.fwRev s.stagerContent x
  s.withStager { g with imgPsn := bad, staged := (List.range g.staged.length).zip g.staged |>.map fun c => { c.2 with psn := hit.contains c.1 } }

/-- Write a whole mirror word with its mark at the place where it lies (R435). -/
def State.putMirror (m : Nat) (d : Word64) (psn : Bool) (s : State) : State :=
  let a := s.mirrorPlace m
  if 0x20710000 ≤ a ∧ a < 0x20750000 then (s.putImage (imageIx a) d psn).mirrorWrote a (d, psn)
  else if wordLen a = 4 then
    let s := (s.writeWord32 a (loWord d) psn).writeWord32 (a + 4) (hiWord d) psn
    s.mirrorWrote a (d, psn)
  else s.writeWord a d 255 psn

/-- A SHADOW in SYNC takes one record (R435). -/
def State.takeRecord (g : RawTag) (s : State) : State :=
  if s.mode = modeShadow ∧ s.mirState = mirSync then
    let mine := decide (recIndex g < s.wtot) && recFid g == BitVec.ofNat 16 (s.reg BOOT_FID).toNat && decide (recFw g = s.fwRev.toNat % 256)
    match if mine then s.mirIndex (recIndex g) else none with
    | some m => (s.putMirror m (recData g) (recPoison g)).passRecord g
    | none => (s.setFld MIR_STAT MIR_STAT_FOLIO 1).mark EVT_MIR_FOLIO
  else s

/-- The records released in the stroke before are written, ahead of class 1 of phase 2 (R435). -/
def State.takeRecords (s : State) : State :=
  let l := s.mir.records
  each l (fun g s => s.takeRecord g) (s.withMir { s.mir with records := [] })

/-! ### Phase 2 -/

/-- The class of a change (R384). -/
def Change.klass (c : Change) : Nat :=
  match c.path with
  | .tag _ => if c.restore then 1 else 2
  | .chain => 3
  | .nib _ => 4

/-- The place of a change in the order of R384: its class, and its source within class 2. -/
def Change.rank (c : Change) : Nat :=
  match c.path with
  | .tag src => if c.restore then 32 else 64 + src.val
  | .chain => 96
  | .nib _ => 128

/-- A change that lies beyond the first 512 (R385). -/
def State.refuseDue (c : Change) (s : State) : State := s.capRefuse.addW (c.target.toNat + 1) 0

/-- The commands that wait for the end of phase 2: sets of time bases, then flash commands (R474, R626). -/
def State.actLast (l : List Change) (s : State) : State :=
  let on : Change → Nat → Bool := fun c a => decide (c.target.toNat = a)
  let s := each l (fun c s =>
    match (List.range 4).find? fun i => on c (TB_CTL i) with
    | some i => if (s.closedGate (TB_CTL i)).isSome then s else onBit (c.value &&& c.mask) 0 (State.tbSet i) s
    | none => s) s
  each l (fun c s => if on c BOOT_FL_CMD then s.commitFlash (c.value &&& c.mask &&& regMask BOOT_FL_CMD) else s) s

/-- Phase 2 of a boundary (R66, R384): state records, the intake of the stroke before, then the changes due. -/
def State.phase2 (s : State) : State :=
  let s := s.expireHistory.takeRecords.takeIntakes
  let late : Change → Bool := fun c => laterThan c.due s.tim.strk
  let due := sortBy (fun (x y : Change) => decide (x.rank < y.rank)) (s.stager.staged.filter fun c => !late c)
  let s := s.withStager { s.stager with staged := s.stager.staged.filter late }
  let now := due.take 512
  let s := applyChanges now.length now s
  let s := each (due.drop 512) State.refuseDue s
  s.actLast now

/-! ### Dry responses (R518, R519) -/

/-- The bit under which a bank's level sees a master port: the port itself, the up-link of its polder, the
down-link (R518, R531). -/
def portBit (port : Port) (l : Nat) : Nat :=
  match port with
  | .chip i => if l = 0 then i.val else 16
  | .pld p i => if l = 0 then 8 + p.val else if l = 1 + p.val then i.val else 16

/-- A dry response recorded in the bank of a level. -/
def State.noteDry (port : Port) (l : Nat) (s : State) : State :=
  ((s.bump (CTR_FAB_DRY_CNT l)).mark (EVT_FAB_DRY l)).setRegBit (FAB_DRY_WHO l) (portBit port l) true

/-- The polder through whose gates a port reaches the chip fabric: a sluice channel's, an up-link's, an inkstone's, a
brush engine's (R503). -/
def portPolder (port : Port) : Option (Fin 4) :=
  match port with
  | .pld p _ => some p
  | .chip i => if 8 ≤ i.val then some (Fin.ofNat 4 i.val) else none

/-- Whether the gate is closed through which a request leaves its own polder (R524). -/
def State.wayOutShut (s : State) (port : Port) (a : Nat) : Bool :=
  match portPolder port with
  | some p => !(decide (0x10000000 ≤ a) && decide (a < 0x20000000) && decide (polderOf a = p.val)) && !s.isOpen (6 + p.val)
  | none => false

/-- The gate that answers a register access dry: the first closed one on the way (R47, R518). -/
def State.gateDry (s : State) (port : Port) (a : Nat) : Option Nat :=
  if s.wayOutShut port a then some 0 else (s.closedGate a).map gateLevel

/-! ### The commands -/

/-- Deliver a response to a master port. -/
def State.portLast (port : Port) (t : FabTx) (s : State) : State :=
  let x := SMap.get (fun _ => {}) s.fab.ports (portIx port)
  s.withFab { s.fab with ports := SMap.set (fun _ => {}) s.fab.ports (portIx port) { x with last := some t } }

/-- The response of a read of one 32-bit word. -/
def wordTx (a : Nat) (w : Word) (dry : Bool) : FabTx :=
  { req := { id := 0, addr := a, beats := 1, write := none, narrow := true }, tgt := a, beats := [{ w := w.setWidth 64, psn := dry }], dry := dry }

/-- Whether a word of a register block lies at an address. -/
def isRegWord (a : Nat) : Bool := decide (a % 4 = 0) && inRegs a

/-- REGISTER_WRITE (R7 to R10, R67, R68); behind a closed gate the write is dropped and answered dry (R47, R519). -/
def execRegisterWrite (port : Port) (addr data : Word) (s : State) : Host.Outcome State Fault Refusal :=
  .next (if isRegWord addr.toNat then
      match s.gateDry port addr.toNat with
      | some l => s.noteDry port l
      | none => s.regWrite port addr.toNat data 0xFFFFFFFF
    else s)

/-- REGISTER_READ (R7, R15 to R17); behind a closed gate the response is dry (R47, R519). -/
def execRegisterRead (port : Port) (addr : Word) (s : State) : Host.Outcome State Fault Refusal :=
  .next (if isRegWord addr.toNat then
      match s.gateDry port addr.toNat with
      | some l => (s.noteDry port l).portLast port (wordTx addr.toNat 0 true)
      | none =>
        let (w, s) := s.readReg port addr.toNat
        s.portLast port (wordTx addr.toNat w false)
    else s)

/-- REMAP: the scribe's write of FAB_CTL.REMAP (R528). -/
def execRemap (b : Bool) (s : State) : Host.Outcome State Fault Refusal :=
  .next (if s.scribeActs = false then s else s.setFld (FAB_CTL 0) FAB_CTL_REMAP (b2n b))

/-- REALIGN (R75). -/
def execRealign (s : State) : Host.Outcome State Fault Refusal := .next s.realign

end Sys2Proof.Machine
end

