-- ==== Sys2Proof/Machine/Fabric.lean ====
section
/-! DEFINITION. The fabric: what a beat read or written at an address comes to, dry responses, the outstanding
transactions of the master ports (spec/15_fabric_and_address_map.md R502 to R519, R526, R527). -/

namespace Sys2Proof.Machine

/-! ### Dry responses (R518, R519, R84) -/

/-- Whether a range is closed to a master port (R519, R643). -/
def State.closedTo (s : State) (port : Port) (t : Target) : Bool :=
  match t with
  | .rom _ => decide (port ≠ .chip 0)
  | .scribe _ => decide (port ≠ .chip 0)
  | .keys _ => !(decide (port = .chip 0) && s.mode == modeLoad)
  | _ => false

/-- The nib whose load port refuses an access: its RAM is addressed in a running mode while it holds a ruling
slice (R84). -/
def State.loadPortShut (s : State) (a : Nat) : Option Nat :=
  if s.live = false ∨ groupOf a = none then none
  else
    match nibOfAddr a with
    | none => none
    | some (n, _) =>
      let holds : Bool :=
        if n < 256 then !(s.nibEntries n).isEmpty && s.runsOn n == n
        else s.relState (n - 256) == relCarrying
      if holds then some n else none

/-- Why a request at an address is answered dry: nothing, a closed range, a closed gate of a level, a load port, the
flash window. -/
inductive DryWhy where
  | closed
  | gate (l : Nat)
  | load (n : Nat)
  | flash
  deriving DecidableEq, Repr

/-- Whether a request is answered dry, and why. `ruling` says that the transfer is the ruling's, which goes through
the sluice port. -/
def State.dryWhy (s : State) (port : Port) (ruling read : Bool) (a : Nat) (t : Target) : Option DryWhy :=
  if s.closedTo port t then some .closed
  else if s.wayOutShut port a then some (.gate 0)
  else
    match s.closedGate a with
    | some g => some (.gate (gateLevel g))
    | none =>
      match if ruling then none else s.loadPortShut a with
      | some n => some (.load n)
      | none =>
        match t with
        | .flash o => if read && (decide (s.flashSize ≤ o) || s.flState == flBusy) then some .flash else none
        | _ => none

/-- The record of a dry response. -/
def State.dryNoted (port : Port) (w : DryWhy) (s : State) : State :=
  match w with
  | .closed => (s.noteDry port 0).mark (EVT_FAB_CLOSED 0)
  | .gate l => s.noteDry port l
  | .load n => (s.noteDry port (1 + quireOf n / 4)).nibEvent EVT_NIB_LOADPORT QRE_NIB_WHO3 n
  | .flash => s.noteDry port 0

/-! ### One beat -/

/-- What a beat brings or comes to: data with its poison mark and STALE, or a dry response. -/
structure Beat where
  w : Word64
  psn : Bool
  stale : Bool := false
  dry : Bool := false
  deriving DecidableEq, Repr

def dryBeat : Beat := { w := 0, psn := true, dry := true }

/-- Two 32-bit words as a beat. -/
def joinBeat (lo hi : Word) : Word64 := joinWords 64 hi lo

/-- Whether a master port belongs to a polder that is cofferdammed (R35). -/
def State.deadPort (s : State) (port : Port) : Bool :=
  match port with
  | .pld p _ => s.deadPolder p
  | .chip _ => false

/-- A beat of a slot copy (R30, R35). -/
def State.slateRead (port : Port) (a : Nat) (s : State) : Beat × State :=
  let copy := a / 0x100000 % 2
  let slot := a % 0x100000 / 64
  let x := s.slot copy slot
  match x.claim with
  | some _ =>
    if s.samples ≤ a % 64 / 4 then (⟨0, false, x.stale, false⟩, s)
    else
      let (r, s) := s.readWord a
      (⟨r.w, r.psn, x.stale, false⟩, s)
  | none =>
    let idle := s.idleSlot slot
    (⟨0, false, !idle, false⟩, if idle || s.deadPort port || !s.rulingRuns then s else s.mark EVT_SLATE_UNWRITTEN)

/-- What reads of two table words show in place of what is stored: the STATE of a row after the previous stroke
(R227), LPOS of an element. -/
def State.tableShown (s : State) (a : Nat) (w : Word64) : Word64 :=
  let o := foldPolder a
  let p := polderOf a
  if 0x13200000 ≤ o ∧ o < 0x13240000 ∧ o % 16 = 8 then
    match s.inkPrev.find? fun (e : Nat × Word) => e.1 == a - 8 with
    | some e => joinBeat (loWord w) e.2
    | none => w
  else if 0x13310000 ≤ o ∧ o < 0x13318000 ∧ o % 64 = 0x18 then
    let el := s.elem p (o / 64 % 512)
    joinBeat (loWord w) (BitVec.ofNat 32 (if el.llen = 0 then 0 else s.tim.strk.toNat % el.llen))
  else w

/-- A beat of SRAM: one 64-bit word, or two words of a nib RAM (R564). -/
def State.sramRead (a : Nat) (s : State) : Beat × State :=
  if wordLen a = 4 then
    let (r0, s) := s.readWord a
    let (r1, s) := s.readWord (a + 4)
    (⟨joinBeat (r0.w.setWidth 32) (r1.w.setWidth 32), r0.psn || r1.psn, false, false⟩, s)
  else
    let (r, s) := s.readWord a
    (⟨s.tableShown a r.w, r.psn, false, false⟩, s)

/-- A byte of key SRAM: each key lies in 32 bytes, its first byte first (R643). -/
def State.keyByte (s : State) (o : Nat) : Byte := BitVec.ofNat 8 ((s.key (o / 32)).toNat / 256 ^ (31 - o % 32))

/-- `n` bytes as a little-endian number. -/
def leBytes (f : Nat → Byte) (a n : Nat) : Nat := (List.range n).foldl (fun acc i => acc + (f (a + i)).toNat * 256 ^ i) 0

def State.keyWrite (o : Nat) (w : Word64) (be : BitVec 8) (s : State) : State :=
  let k := o / 32
  let b : Nat → Nat := fun i =>
    if o % 32 ≤ i ∧ i < o % 32 + 8 ∧ be.getLsbD (i - o % 32) then w.toNat / 256 ^ (i - o % 32) % 256 else (s.keyByte (32 * k + i)).toNat
  let v := (List.range 32).foldl (fun acc i => acc + b i * 256 ^ (31 - i)) 0
  s.withSec { s.sec with keys := SMap.set (fun _ => 0) s.sec.keys k (BitVec.ofNat 256 v) }

/-- A register word of a beat, as a path reads it; zero where no register lies. -/
def State.regBeat (port : Port) (a : Nat) (s : State) : Word × State := if inRegs a then s.readReg port a else (0, s)

/-- One beat read at a target; `narrow` asks for the one 32-bit word at the address. -/
def State.targetRead (port : Port) (narrow : Bool) (a : Nat) (t : Target) (s : State) : Beat × State :=
  let b := a / 8 * 8
  match t with
  | .rom o => (⟨BitVec.ofNat 64 (leBytes Config.bootRom (o / 8 * 8) 8), false, false, false⟩, s)
  | .scribe x => s.sramRead (x / 8 * 8)
  | .slate _ => s.slateRead port b
  | .sram _ => s.sramRead b
  | .regs _ =>
    if narrow then
      let (w, s) := s.regBeat port (a / 4 * 4)
      (⟨if a / 4 % 2 = 0 then joinBeat w 0 else joinBeat 0 w, false, false, false⟩, s)
    else
      let (lo, s) := s.regBeat port b
      let (hi, s) := s.regBeat port (b + 4)
      (⟨joinBeat lo hi, false, false, false⟩, s)
  | .intake _ => (⟨0, false, false, false⟩, s)
  | .image _ =>
    let (d, s) := s.readMirror b
    (⟨d.1, d.2, false, false⟩, s)
  | .keys _ => (⟨BitVec.ofNat 64 (leBytes s.keyByte (b % 0x10000) 8), false, false, false⟩, s)
  | .flash o => (⟨joinBeat (s.flashWord (o / 8 * 8)) (s.flashWord (o / 8 * 8 + 4)), false, false, false⟩, s)

/-- The bits of a 32-bit word that four byte enables select. -/
def enabled (be : BitVec 8) (half : Nat) : Word := BitVec.ofNat 32 ((byteMask be).toNat / 2 ^ (32 * half) % 2 ^ 32)

/-- A write of the enabled bytes of two 32-bit words, each as a unit takes it. -/
def twoWords (f : Nat → Word → Word → State → State) (a : Nat) (w : Word64) (be : BitVec 8) (s : State) : State :=
  let s := if enabled be 0 = 0 then s else f a (loWord w) (enabled be 0) s
  if enabled be 1 = 0 then s else f (a + 4) (hiWord w) (enabled be 1) s

/-- A beat of a slot copy (R30, R34): whichever copy its address names, it goes to the copy of the stroke in hand
(R31). -/
def State.slateWrite (port : Port) (a : Nat) (w : Word64) (be : BitVec 8) (psn : Bool) (s : State) : State :=
  let slot := a % 0x100000 / 64
  let (ok, s) := s.claimSlot s.curCopy slot (portIx port)
  if ok ∧ a % 64 / 4 < s.samples then s.writeWord (slotAddr s.curCopy slot 0 + a % 64) w be psn else s

/-- A beat written to SRAM outside the items; two words of a nib RAM are written one by one (R564). -/
def State.sramWrite (a : Nat) (w : Word64) (be : BitVec 8) (psn : Bool) (s : State) : State :=
  if wordLen a = 4 then
    let s := if be &&& 15 = 0 then s else s.writeWord a ((loWord w).setWidth 64) (be &&& 15) psn
    let s := if be >>> 4 = 0 then s else s.writeWord (a + 4) ((hiWord w).setWidth 64) (be >>> 4) psn
    s.mirrorWrote a (s.mirrorWord a)
  else s.writeWord a w be psn

/-- Whether a word of memory is staged (R67): a word of an item, and the writable words of the tables (R226, R230). -/
def State.stagedWord (s : State) (a : Nat) : Bool := s.isItem a || tableRw a

/-- A word of an item written through the fabric. -/
def State.itemWrite (port : Port) (a : Nat) (w mask : Word) (s : State) : State :=
  if port = .chip 1 then (s.chainWrite a w mask).2
  else if s.storeFull then s.capRefuse else s.stageNext .chain a w mask

/-- The scribe's own write of a word in LOAD, which is not staged (R394): a word of a table takes its fields. -/
def State.scribeWord (psn : Bool) (a : Nat) (w mask : Word) (s : State) : State :=
  let ((old, bad, _), s) := s.readWord32 a
  let (v, s) := s.tableLoad a (mergeBits old w mask)
  s.writeWord32 a v (psn || bad)

/-- A word written to a beat that holds a staged word or lies in a table: a poisoned one is refused where it would be
staged (R387), the RO words of a table keep their values (R7). -/
def State.sramWord (port : Port) (psn : Bool) (a : Nat) (w mask : Word) (s : State) : State :=
  if s.stagedWord a then (if psn then (s.bump CTR_TAG_POISON).mark EVT_TAG_POISON else s.itemWrite port a w mask)
  else if port = .chip 1 then s.authRefuse .chain
  else if isTable a then s
  else
    let ((old, bad, _), s) := s.readWord32 a
    s.writeWord32 a (mergeBits old w mask) (psn || bad)

/-- One beat written at a target. -/
def State.targetWrite (port : Port) (a : Nat) (t : Target) (w : Word64) (be : BitVec 8) (psn : Bool) (s : State) : State :=
  let b := a / 8 * 8
  match t with
  | .rom _ => s
  | .scribe x => s.sramWrite (x / 8 * 8) w be psn
  | .slate _ => s.slateWrite port b w be psn
  | .sram _ =>
    if port = .chip 0 ∧ s.mode = modeLoad then
      (if isTable b then twoWords (State.scribeWord psn) b w be s else s.sramWrite b w be psn)
    else if s.stagedWord b || s.stagedWord (b + 4) || isTable b then twoWords (State.sramWord port psn) b w be s
    else if port = .chip 1 then s.authRefuse .chain
    else s.sramWrite b w be psn
  | .regs _ => twoWords (fun x v m s => if inRegs x then s.regWrite port x v m else s) b w be s
  | .intake _ => s.bump CTR_AUTH_REFUSE_NIB
  | .image _ => s
  | .keys _ => s.keyWrite (b % 0x10000) w be
  | .flash _ => s

/-! ### Requests (R504 to R509, R514) -/

def State.port (s : State) (port : Port) : PortSt := SMap.get (fun _ => {}) s.fab.ports (portIx port)
def State.setPort (port : Port) (x : PortSt) (s : State) : State :=
  s.withFab { s.fab with ports := SMap.set (fun _ => {}) s.fab.ports (portIx port) x }

/-- What tells targets apart for R508: the banks, windows and blocks of R503. -/
def targetKey (a : Nat) (t : Target) : Nat :=
  match t with
  | .rom _ => 0
  | .scribe _ => 0
  | .slate _ => 0x08000000 + a % 0x100000 / 0x40000
  | .sram _ => if (nibOfAddr a).isSome then 0x20000 * (a / 0x20000) else 0x80000 * (a / 0x80000)
  | .regs _ => 0x1000 * (a / 0x1000)
  | .intake _ => 0x20708000
  | .image _ => 0x20710000
  | .keys _ => 0x20500000
  | .flash _ => 0x40000000

/-- A request holds 1 to 8 beats and does not cross a 64-byte boundary (R502). -/
def reqBeats (r : FabReq) : Nat := Nat.max 1 (Nat.min r.beats (8 - r.addr / 8 % 8))

/-- The beats of a read. -/
def readBeats (port : Port) (narrow : Bool) (a : Nat) (t : Target) : Nat → State → List RspBeat × State
  | 0, s => ([], s)
  | n + 1, s =>
    let (b, s) := s.targetRead port narrow a t
    let (l, s) := readBeats port narrow (a / 8 * 8 + 8) ((s.target (a / 8 * 8 + 8)).getD t) n s
    ({ w := b.w, psn := b.psn, stale := b.stale } :: l, s)

/-- A beat written by a sluice channel counts in its SLU_CH_BEATS (R555). -/
def State.countBeat (port : Port) (s : State) : State :=
  match port with
  | .pld p i => if i.val < 16 then s.bump (CTR_SLU_CH_BEATS (16 * p.val + i.val)) else s
  | .chip _ => s

/-- Beats of a write, at the targets to which their addresses were decoded (R528). -/
def writeBurst (port : Port) (remap : Bool) : Nat → List (Word64 × BitVec 8 × Bool) → State → State
  | _, [], s => s
  | a, x :: l, s =>
    let s := s.countBeat port
    writeBurst port remap (a / 8 * 8 + 8) l (match decodeAt remap a with
      | some t => s.targetWrite port a t x.1 x.2.1 x.2.2
      | none => s)

/-- A request reaches its target: the transaction, with the beats of its response. A write's target has accepted
`limit` of its beats at once; it accepts the others by the time it responds. -/
def State.serve (port : Port) (limit : Nat) (r : FabReq) (t : Target) (s : State) : FabTx × State :=
  let n := reqBeats r
  let remap := s.on (FAB_CTL 0) FAB_CTL_REMAP
  let tx : FabTx := { req := r, tgt := targetKey r.addr t, remap := remap, beats := [], dry := false }
  match s.dryWhy port false r.write.isNone r.addr t with
  | some w =>
    let dry : List RspBeat := match r.write with | none => List.replicate n { w := 0, psn := true } | some _ => []
    ({ tx with beats := dry, dry := true }, s.dryNoted port w)
  | none =>
    match r.write with
    | none =>
      let (l, s) := readBeats port r.narrow r.addr t n s
      ({ tx with beats := l }, s)
    | some l =>
      match t with
      | .intake _ => (tx, s.bump CTR_AUTH_REFUSE_NIB)
      | _ =>
        let l := l.take n
        ({ tx with accepted := (l.take limit).length, rest := l.drop limit }, writeBurst port remap r.addr (l.take limit) s)

/-- Whether a request waits at its master's entry: 16 outstanding, an address that does not decode, an earlier
request of the same ID to another target (R507, R508, R514). -/
def State.waits (s : State) (port : Port) (r : FabReq) : Bool :=
  let x := s.port port
  match s.target r.addr with
  | none => true
  | some t => decide (16 ≤ x.outs.length) || x.outs.any fun y => y.req.id == r.id && y.tgt != targetKey r.addr t

/-- Issue a request that need not wait. -/
def State.issueReq (port : Port) (limit : Nat) (r : FabReq) (s : State) : State :=
  match s.target r.addr with
  | none => s
  | some t =>
    let (tx, s) := s.serve port limit r t
    let x := s.port port
    s.setPort port { x with outs := x.outs ++ [tx] }

/-- A master issues a request; one behind a waiting request waits too. -/
def State.request (port : Port) (limit : Nat) (r : FabReq) (s : State) : State :=
  let x := s.port port
  if x.held ≠ [] ∨ s.waits port r then s.setPort port { x with held := x.held ++ [r] } else s.issueReq port limit r

/-- The requests held at a port go on in order while the first need not wait, each with all its beats. -/
def State.release (port : Port) : Nat → State → State
  | 0, s => s
  | n + 1, s =>
    match (s.port port).held with
    | [] => s
    | r :: l =>
      if s.waits port r then s
      else
        let s := s.setPort port { s.port port with held := l }
        State.release port n (s.issueReq port 8 r)

/-- The transactions of a port without the oldest of an ID. -/
def dropFirst (id : BitVec 4) : List FabTx → List FabTx
  | [] => []
  | t :: l => if t.req.id = id then l else t :: dropFirst id l

/-- Where the first beat lies that a write's target has not accepted. -/
def FabTx.at (t : FabTx) : Nat := if t.accepted = 0 then t.req.addr else 8 * (t.req.addr / 8 + t.accepted)

/-- The beats that a write's target has not accepted yet, accepted. -/
def State.finishTx (port : Port) (t : FabTx) (s : State) : State := writeBurst port t.remap t.at t.rest s

/-- A response reaches its master: the oldest transaction of the ID completes (R508, R509), a write with every beat
accepted. -/
def State.respond (port : Port) (id : BitVec 4) (s : State) : State :=
  let x := s.port port
  match x.outs.find? fun t => t.req.id == id with
  | none => s
  | some t =>
    let s := (s.setPort port { x with outs := dropFirst id x.outs, last := some t }).finishTx port t
    s.release port x.held.length

/-! ### Master reset mid-burst, and gates that drain (R520 to R523) -/

/-- The level of a master port's bank (R531). -/
def portLevel (port : Port) : Nat :=
  match port with
  | .chip _ => 0
  | .pld p _ => 1 + p.val

/-- A transaction is abandoned: a write of which the target has accepted some beats and not all ends early. -/
def State.dropTx (port : Port) (t : FabTx) (s : State) : State :=
  if t.accepted ≠ 0 ∧ t.rest ≠ [] then s.earlyEnd (portLevel port) t.req.addr else s

/-- A master port is reset: what it held is dropped, what is outstanding is abandoned. -/
def State.resetPort (port : Port) (s : State) : State :=
  let x := s.port port
  each x.outs (fun t s => s.dropTx port t) (s.setPort port { x with outs := [], held := [] })

/-- The master ports. -/
def allPorts : List Port := (List.finRange 20).map Port.chip ++ ((List.finRange 4).map fun p => (List.finRange 19).map (Port.pld p)).flatten

/-- Whether a master port lies in a domain. -/
def portIn (g : Domain) (port : Port) : Bool :=
  match g with
  | .pld p => portPolder port == some p
  | .sap => port == .chip 4
  | .lane => port == .chip 5
  | _ => false

/-- Whether an address lies in a domain or in one that it contains. -/
def addrIn (g : Domain) (a : Nat) : Bool :=
  match domOf a with
  | some d => (innerFirst g).contains d
  | none => false

/-- Whether a transaction of a port has passed a domain's gate and has not responded. -/
def crosses (g : Domain) (port : Port) (t : FabTx) : Bool := !t.dry && (portIn g port != addrIn g t.req.addr)

/-- Whether a transaction remains at a gate that drains (R520). -/
def State.undrained (s : State) (g : Domain) : Bool := allPorts.any fun p => (s.port p).outs.any (crosses g p)

/-- A transaction answered dry by the forced drain (R521): zero beats with poison, or a write whose other beats are
dropped. -/
def FabTx.dried (t : FabTx) : FabTx :=
  { t with beats := (if t.req.write.isNone then List.replicate (reqBeats t.req) { w := 0, psn := true } else []), dry := true, rest := [] }

/-- The forced drain at one master port: inside the domain what is outstanding is absorbed, outside it every
transaction that entered the domain is answered dry. -/
def State.forceDry (g : Domain) (port : Port) (s : State) : State :=
  if portIn g port then s.resetPort port
  else
    let x := s.port port
    let s := each (x.outs.filter (crosses g port)) (fun t s => (s.dropTx port t).noteDry port (gateLevel g)) s
    s.setPort port { x with outs := x.outs.map fun t => if crosses g port t then t.dried else t }

/-- GATE_DRAINED: none of the transactions that passed the gate remains (R520 step 3). -/
def execGateDrained (g : Domain) (s : State) : Host.Outcome State Fault Refusal :=
  .next (if s.undrained g then s else s.drained g)

/-- GATE_FORCE_DRAIN (R521). -/
def execGateForceDrain (g : Domain) (s : State) : Host.Outcome State Fault Refusal :=
  .next (if (s.dom (domKey g)).draining then ((each allPorts (State.forceDry g) s).mark (EVT_FAB_GATE_FORCE (gateLevel g))).drained g else s)

/-! ### The commands -/

/-- FABRIC_REQUEST, of whose write the target has accepted `limit` beats. -/
def execFabricRequest (port : Port) (limit : Nat) (req : FabReq) (s : State) : Host.Outcome State Fault Refusal :=
  .next (s.request port limit req)
def execFabricResponse (port : Port) (id : BitVec 4) (s : State) : Host.Outcome State Fault Refusal := .next (s.respond port id)

end Sys2Proof.Machine
end

