-- ==== Sys2Proof/Machine/SluMove.lean ====
section
/-! DEFINITION. The beats a sluice channel moves, and descriptor chains (spec/16_sluice_dma.md R535 to R556). -/

namespace Sys2Proof.Machine

/-! ### Beats of a channel -/

/-- The master port of a channel. -/
def sluPort (c : Nat) : Port := .pld (Fin.ofNat 4 (c / 16)) (Fin.ofNat 19 (c % 16))

/-- What became of one beat. -/
inductive Moved where
  | beat (b : Beat)
  | dry
  /-- the address does not decode: nothing answers (R514) -/
  | stuck
  deriving DecidableEq, Repr

/-- A channel reads one beat. Dry responses are recorded once for a burst: at its first beat or at a 64-byte
boundary. -/
def State.sluRead (c : Nat) (ruling first : Bool) (a : Nat) (s : State) : Moved × State :=
  match s.target a with
  | none => (.stuck, s)
  | some t =>
    match s.dryWhy (sluPort c) ruling true a t with
    | some w => (.dry, if first || a % 64 == 0 then s.dryNoted (sluPort c) w else s)
    | none =>
      let (b, s) := s.targetRead (sluPort c) false a t
      (.beat b, s)

/-- A channel writes one whole beat. -/
def State.sluWrite (c : Nat) (ruling first : Bool) (a : Nat) (w : Word64) (psn : Bool) (s : State) : Moved × State :=
  match s.target a with
  | none => (.stuck, s)
  | some t =>
    match s.dryWhy (sluPort c) ruling false a t with
    | some why => (.dry, if first || a % 64 == 0 then s.dryNoted (sluPort c) why else s)
    | none =>
      let s := s.bump (CTR_SLU_CH_BEATS c)
      (.beat ⟨w, psn, false, false⟩, match t with
        | .intake _ => if first || a % 64 == 0 then s.bump CTR_AUTH_REFUSE_NIB else s
        | _ => s.targetWrite (sluPort c) a t w 255 psn)

/-! ### Descriptors (R539 to R544, R549) -/

/-- The addresses that a descriptor's word names now (R542). -/
def State.descSrc (s : State) (d : Desc) (i : Nat) : Nat :=
  if d.srel then substCopy (s.readCopy d.chained) (d.src + 8 * i) else d.src + 8 * i

/-- DST as a write, or as the second side of a compare. -/
def State.descDst (s : State) (d : Desc) (i : Nat) : Nat :=
  if d.srel then substCopy (if d.op = 2 then s.readCopy d.chained else s.curCopy) (d.dst + 8 * i) else d.dst + 8 * i

/-- The first dry response to a chain (R551). -/
def State.chainDry (c : Nat) (s : State) : State := s.setChain c { s.chain c with dry := true }

/-- A word done. -/
def State.chainStep (c : Nat) (d : Desc) (s : State) : State :=
  let x := s.chain c
  (s.setChain c { x with pos := x.pos + 8 }).setReg (SLU_CH_REMAIN c) (BitVec.ofNat 32 (d.len - (x.pos + 8)))

/-- A difference (R540). -/
def State.mismatch (c a : Nat) (psn : Bool) (s : State) : State :=
  let s := if psn then s.setFld (SLU_CH_STAT c) SLU_CH_STAT_POISON 1 else s
  if s.on (SLU_CH_STAT c) SLU_CH_STAT_MATCH then
    ((s.setFld (SLU_CH_STAT c) SLU_CH_STAT_MATCH 0).setReg (SLU_CH_CMP c) (BitVec.ofNat 32 a)).sluRaise (EVT_SLU_MISMATCH (c / 16)) c
  else s

/-- One word of a descriptor; whether the channel can go on. -/
def State.chainWord (c : Nat) (d : Desc) (s : State) : Bool × State :=
  let i := (s.chain c).pos / 8
  let first := i == 0
  let dst := s.descDst d i
  if d.op = 1 then
    match s.sluWrite c false first dst d.fill false with
    | (.beat _, s) => (true, s.chainStep c d)
    | (.dry, s) => (false, s.chainDry c)
    | (.stuck, s) => (false, s)
  else
    match s.sluRead c false first (s.descSrc d i) with
    | (.dry, s) => (false, s.chainDry c)
    | (.stuck, s) => (false, s)
    | (.beat b, s) =>
      if d.op = 0 then
        match s.sluWrite c false first dst b.w b.psn with
        | (.beat _, s) => (true, s.chainStep c d)
        | (.dry, s) => (false, s.chainDry c)
        | (.stuck, s) => (false, s)
      else
        match s.sluRead c false first dst with
        | (.dry, s) => (false, s.chainDry c)
        | (.stuck, s) => (false, s)
        | (.beat e, s) =>
          let psn := b.psn || e.psn
          let s := if psn || b.w != e.w then s.mismatch c (d.src + 8 * i) psn else s
          (true, s.chainStep c d)

/-- Up to `n` words of the descriptor in progress. -/
def chainMove (c : Nat) (d : Desc) : Nat → State → State
  | 0, s => s
  | n + 1, s =>
    if (s.chain c).pos < d.len then
      match s.chainWord c d with
      | (true, s) => chainMove c d n s
      | (false, s) => s
    else s

/-- The words up to the end of the write burst in progress: the buffer held them before the burst left (R535). -/
def chainTail (c : Nat) (d : Desc) : Nat → List (Word64 × BitVec 8 × Bool) → State → List (Word64 × BitVec 8 × Bool) × State
  | 0, l, s => (l, s)
  | n + 1, l, s =>
    let x := s.chain c
    if d.len ≤ x.pos ∨ (d.dst + x.pos) % 64 = 0 then (l, s)
    else if d.op = 1 then chainTail c d n (l ++ [(d.fill, 255, false)]) (s.chainStep c d)
    else
      match s.sluRead c false false (s.descSrc d (x.pos / 8)) with
      | (.beat b, s) => chainTail c d n (l ++ [(b.w, 255, b.psn)]) (s.chainStep c d)
      | (_, s) => (l, s)

/-- Up to `limit` words; a write burst that the target has accepted in part is a transaction of the channel's port,
with ID 1 (R533). -/
def State.chainRun (c : Nat) (d : Desc) (limit : Nat) (s : State) : State :=
  let s := chainMove c d limit s
  let pos := (s.chain c).pos
  let start := Nat.max (d.dst) ((d.dst + pos) / 64 * 64)
  if d.op = 2 ∨ (s.chain c).dry ∨ d.dst + pos = start then s
  else
    let k := (d.dst + pos - start) / 8
    let a := s.descDst d (pos / 8)
    let (l, s) := chainTail c d 8 [] s
    if l = [] then s
    else
      let x := s.port (sluPort c)
      let r : FabReq := { id := 1, addr := a - 8 * k, beats := k + l.length, write := some (List.replicate k (0, 0, false) ++ l), narrow := false }
      let key := match s.target a with | some t => targetKey a t | none => 0
      s.setPort (sluPort c) { x with outs := x.outs ++ [{ req := r, tgt := key, remap := s.on (FAB_CTL 0) FAB_CTL_REMAP, beats := [], dry := false, accepted := k, rest := l }] }

/-- The writes of a channel that are outstanding are acknowledged (R543). -/
def State.flushSlu (c : Nat) (s : State) : State :=
  let x := s.port (sluPort c)
  let s := s.setPort (sluPort c) { x with outs := x.outs.filter fun t => t.req.id != 1 }
  each (x.outs.filter fun t => t.req.id == 1) (State.finishTx (sluPort c)) s

/-- A chain ends with a source raised. -/
def State.chainEnd (c st : Nat) (e : Nat → Evt) (s : State) : State := (s.sluEnd c st).sluRaise (e (c / 16)) c

/-- A descriptor has been fetched: its checks, then the first words of its operation (R541, R549). -/
def State.descFetched (c a limit : Nat) (ws : List (Word64 × Bool)) (s : State) : State :=
  let w : Nat → Word64 := fun i => (ws.getD i (0, false)).1
  let d := descOf a (w 0) (w 1) (w 2) (w 3)
  let x := s.chain c
  let hops := s.fld (SLU_CH_STAT c) SLU_CH_STAT_HOPS + 1
  let budget := if hops = 1 then descHops (w 2) else x.budget
  let s := (s.setFld (SLU_CH_STAT c) SLU_CH_STAT_HOPS hops).setReg (SLU_CH_DESC c) (BitVec.ofNat 32 a)
  if (ws.any fun y => y.2) || descBad d (w 0) (w 1) (w 2) then s.chainEnd c sluError EVT_SLU_ERROR
  else if d.next = a ∧ d.fin = false then s.chainEnd c sluLoop EVT_SLU_LOOP
  else
    let s := s.setChain c { fetch := none, desc := some d, pos := 0, budget := budget, loops := !d.fin && hops == budget }
    State.chainRun c d limit (s.setReg (SLU_CH_REMAIN c) (BitVec.ofNat 32 d.len))

/-- The four words of a descriptor, as far as they answer. -/
def descWords (c a : Nat) : Nat → Nat → State → Option (List (Word64 × Bool)) × State
  | 0, _, s => (some [], s)
  | n + 1, i, s =>
    match s.sluRead c false (i == 0) (a + 8 * i) with
    | (.dry, s) => (none, s.chainDry c)
    | (.stuck, s) => (none, s)
    | (.beat b, s) =>
      match descWords c a n (i + 1) s with
      | (some l, s) => (some ((b.w, b.psn) :: l), s)
      | (none, s) => (none, s)

/-- A chain fetches its next descriptor (R541). -/
def State.descFetch (c limit : Nat) (s : State) : State :=
  if s.chainRuns c = false ∨ (s.chain c).dry then s
  else
    match (s.chain c).fetch with
    | none => s
    | some a =>
      match descWords c a 4 0 s with
      | (some ws, s) => s.descFetched c a limit ws
      | (none, s) => s

/-- The descriptor in progress completes (R543, R549). -/
def State.descComplete (c : Nat) (s : State) : State :=
  if s.chainRuns c = false ∨ (s.chain c).dry then s
  else
    match (s.chain c).desc with
    | none => s
    | some d =>
      let s := chainMove c d (d.len / 8) (s.flushSlu c)
      if (s.chain c).dry ∨ (s.chain c).pos < d.len then s
      else
        let s := if d.note then s.sluRaise (EVT_SLU_NOTE (c / 16)) c else s
        if d.fin then s.sluEnd c sluDone
        else if (s.chain c).loops then s.chainEnd c sluLoop EVT_SLU_LOOP
        else s.setChain c { s.chain c with fetch := some d.next, desc := none, pos := 0 }

/-- The chain that met a dry response ends (R551). -/
def State.dryEnd (c : Nat) (s : State) : State :=
  if s.chainRuns c ∧ (s.chain c).dry then (s.flushSlu c).chainEnd c sluDry EVT_SLU_DRY else s

/-! ### The commands -/

/-- Whether this is the first stroke of POISED after the folio loaded: transition 2 took effect at its boundary. -/
def State.firstPoised (s : State) : Bool :=
  s.mode == modePoised && s.fld MF_MODE MF_MODE_TRANS == 2 && joinWords 48 (s.reg MF_MODE_STK_HI) (s.reg MF_MODE_STK_LO) == s.tim.strk

/-- CHAIN_TRIGGER (R545). -/
def execChainTrigger (c : Fin 64) (s : State) : Host.Outcome State Fault Refusal := .next (s.sluTrigger c s.firstPoised)

def execDescriptorFetch (c : Fin 64) (limit : Nat) (s : State) : Host.Outcome State Fault Refusal := .next (s.descFetch c limit)
def execDescriptorComplete (c : Fin 64) (s : State) : Host.Outcome State Fault Refusal := .next (s.descComplete c)
def execChainDryEnd (c : Fin 64) (s : State) : Host.Outcome State Fault Refusal := .next (s.dryEnd c)

end Sys2Proof.Machine
end

