-- ==== Sys2Proof/Machine/RulingExec.lean ====
section
/-! DEFINITION. The entries of the active ruling: their starts, the transfers of SLU entries, their completion and the
spillway cut (spec/05_ruling.md R173 to R176, spec/16_sluice_dma.md R537, R538). -/

namespace Sys2Proof.Machine

/-- Store an entry's state as finished or not, and what it has done. -/
def State.entryDone (i n : Nat) (running : Bool) (s : State) : State :=
  s.setEntrySt i { s.entrySt i with done := n, running := running }

/-! ### SLU entries (R537, R538) -/

/-- The beats of a SLU entry. -/
def eBeats (e : Entry) : Nat := 8 * eLen e

/-- The beats written when `n` have been read: a burst leaves only once all its beats are there, and no burst crosses
a 64-byte boundary (R535). -/
def burstEnd (dst total n : Nat) : Nat :=
  if total ≤ n then total else n - Nat.min n ((dst / 8 + n) % 8)

/-- What a SLU transfer has met: a STALE block read from the slate. -/
structure SluRun where
  stale : Bool := false
  beats : List (Word64 × Bool) := []
  deriving DecidableEq, Repr

/-- `n` beats from the source, in ascending order; a dry beat is a poisoned zero (R538). An address that nothing
answers ends the reading. -/
def sluReads (e : Entry) : Nat → Nat → SluRun → State → SluRun × State
  | 0, _, r, s => (r, s)
  | n + 1, i, r, s =>
    let a := substCopy (s.readCopy (eChained e)) (eSrc e + 8 * i)
    match s.sluRead (eChan e) true (i == 0) a with
    | (.beat b, s) =>
      let slate := decide (0x08000000 ≤ eSrc e + 8 * i) && decide (eSrc e + 8 * i < 0x08200000)
      sluReads e n (i + 1) ⟨r.stale || (slate && b.stale), r.beats ++ [(b.w, b.psn)]⟩ s
    | (.dry, s) => sluReads e n (i + 1) ⟨r.stale, r.beats ++ [(0, true)]⟩ s
    | (.stuck, s) => (r, s)

/-- Beats to the destination. -/
def sluWrites (e : Entry) : List (Word64 × Bool) → Nat → State → State
  | [], _, s => s
  | x :: l, i, s =>
    sluWrites e l (i + 1) (s.sluWrite (eChan e) true (i == 0) (substCopy s.curCopy (eDst e + 8 * i)) x.1 x.2).2

/-- Beats to the intake window, two for each record (R389). -/
def sluIntake (idx : Nat) (e : Entry) : List (Word64 × Bool) → Nat → State → State
  | x :: y :: l, j, s =>
    let ws := [(loWord x.1, x.2), (hiWord x.1, x.2), (loWord y.1, y.2), (hiWord y.1, y.2)]
    let s := s.bumpBy (CTR_SLU_CH_BEATS (eChan e)) 2
    sluIntake idx e l (j + 1) (s.intakeWrite (some idx) (Fin.ofNat 256 (eDst e / 16 + j)) ws)
  | _, _, s => s

/-- The transfer of a SLU entry until `limit` of its beats have been read and its destination has accepted `acc` of
them. -/
def State.sluEntry (idx limit acc : Nat) (e : Entry) (s : State) : State :=
  let c := eChan e
  let n := Nat.min limit (eBeats e)
  let s := (s.setReg (SLU_CH_STAT c) 0).setSluState c sluRun
  let s := s.setFld (SLU_CH_STAT c) SLU_CH_STAT_MATCH 1
  let (r, s) := sluReads e n 0 {} s
  let got := r.beats.length
  let out := r.beats.take (Nat.min acc (burstEnd (eDst e) (eBeats e) got))
  let s := if 0x2070C000 ≤ eDst e ∧ eDst e < 0x2070D000 then sluIntake idx e out 0 s else sluWrites e out 0 s
  let s := s.setReg (SLU_CH_REMAIN c) (BitVec.ofNat 32 (8 * (eBeats e - got)))
  let s := s.entryDone idx out.length true
  if r.stale then s.taintNow idx e else s

/-! ### Starts (R173, R175) -/

/-- The domain whose open gate an entry's unit needs. -/
def State.entryOpen (s : State) (e : Entry) : Bool :=
  if eType e = 1 then s.isOpen (26 + s.runsOn (eUnit e)) else s.isOpen (6 + ePolder e)

/-- An entry starts at its START (R173); `limit` bounds the rows, elements or beats that it gets done before its
deadline, `acc` the beats that the destination of an SLU entry accepts by then. -/
def State.startEntry (idx limit acc : Nat) (e : Entry) (s : State) : State :=
  let s := s.atRoot (eStart e)
  let dep := s.depTainted e
  let s := s.setEntrySt idx { s.entrySt idx with started := true, running := true, done := 0 }
  if s.suppressed e || !s.entryOpen e then (s.entryDone idx 0 false).taintNow idx e
  else
    let s := if dep then s.taintNow idx e else s
    match eType e with
    | 1 => s.dispatchNib (s.runsOn (eUnit e)) idx e
    | 2 => s.sluEntry idx limit acc e
    | 3 => (inkPass e dep limit s).entryDone idx (Nat.min limit (eCount e)) (decide (limit < eCount e))
    | 4 => (bruPass e dep limit s).entryDone idx (Nat.min limit (bruElems e).length) (decide (limit < (bruElems e).length))
    | _ => s.entryDone idx 0 false

/-- Whether entry `idx` may start: the ruling runs, it is no IDLE entry, it has not started in this stroke. -/
def State.startable (s : State) (idx : Nat) : Option Entry :=
  if s.rulingRuns = false ∨ (s.entrySt idx).started then none
  else
    match s.entry idx with
    | some e => if eType e = 5 then none else some e
    | none => none

def execRulingEntryStart (idx limit acc : Nat) (s : State) : Host.Outcome State Fault Refusal :=
  .next (match s.startable idx with
    | some e => s.startEntry idx limit acc e
    | none => s)

/-! ### The spillway (R174, R257) -/

/-- The bit of a unit in RUL_SPILL_WHO. -/
def spillBit (e : Entry) : Nat :=
  match eType e with
  | 1 => 16 + eUnit e / 16
  | 2 => 4 + ePolder e
  | 3 => 8 + ePolder e
  | _ => 12 + ePolder e

/-- An entry is cut: reported, tainted, a term of W, a cause of R425 (R174, R175, R416). -/
def State.cutEntry (idx : Nat) (e : Entry) (s : State) : State :=
  let s := (s.stopEntry idx e).spreadTaint
  let s := s.withRul { s.rul with cut := true }
  let s := ((s.bump CTR_RUL_SPILL_CNT).mark EVT_RUL_SPILL).setRegBit RUL_SPILL_WHO (spillBit e) true
  (s.addW 0xFFFFFFF0 (BitVec.ofNat 64 idx)).mirrorCause

def execSpillwayCut (idx : Nat) (s : State) : Host.Outcome State Fault Refusal :=
  .next (match s.entry idx with
    | some e => if (s.entrySt idx).running then (s.atRoot (eDeadline e)).cutEntry idx e else s
    | none => s)

/-! ### The completion of a SLU entry (R537, R113) -/

/-- Whether a byte range meets a nib's own program RAM or data RAM. -/
def meetsNib (n a len : Nat) : Bool :=
  (decide (a < nibWin n + 0x8000) && decide (nibWin n < a + len)) ||
    (decide (a < nibWin n + 0x20000) && decide (nibWin n + 0x10000 < a + len))

/-- DONE in each nib whose own RAM the transfer reads or writes. -/
def State.notify (e : Entry) (s : State) : State :=
  each (List.range 272) (fun n s =>
    if (meetsNib n (eSrc e) (64 * eLen e) || meetsNib n (eDst e) (64 * eLen e)) && s.isOpen (26 + n) then s.setIrq n 1 else s) s

/-- SLU_ENTRY_COMPLETE: the last write is acknowledged. -/
def State.sluComplete (idx : Nat) (e : Entry) (s : State) : State :=
  let x := s.entrySt idx
  if eType e = 2 ∧ x.running ∧ x.done = eBeats e then
    let s := (s.setSluState (eChan e) sluDone).entryDone idx x.done false
    if eNotify e then s.notify e else s
  else s

def execSluEntryComplete (idx : Nat) (s : State) : Host.Outcome State Fault Refusal :=
  .next (match s.entry idx with
    | some e => s.sluComplete idx e
    | none => s)

end Sys2Proof.Machine
end

