-- ==== Sys2Proof/Machine/Mch.lean ====
section
/-! DEFINITION. The management chain: frames, alignment, addresses, commands and their responses
(spec/19_boot_and_chain.md R626 to R638). -/

namespace Sys2Proof.Machine

/-! ### Frames (R630) -/

def mchEmptyT : BitVec 4 := 0
def mchReadT : BitVec 4 := 1
def mchWriteT : BitVec 4 := 2
def mchEnumT : BitVec 4 := 3
def mchRespT : BitVec 4 := 4

/-- ADDR and BCAST of a frame. -/
def frAddr (f : MchFrame) : Nat := f.byte2.toNat % 64
def frBcast (f : MchFrame) : Bool := bitOf f.byte2 6

/-- An EMPTY frame. -/
def emptyFrame : MchFrame := { type := 0, tag := 0, byte2 := 0, byte3 := 0, address := 0, data := 0, mask := 0 }

def State.setMch (x : Mch) (s : State) : State := s.withMch x

/-- The address of this chip. -/
def State.mchAddr (s : State) : Nat := s.fld MCH_STAT MCH_STAT_ADDR
def State.falign (s : State) : Bool := s.on MCH_STAT MCH_STAT_FALIGN

/-- The frame that goes downstream. -/
def State.send (f : MchFrame) (s : State) : State := s.setMch { s.mch with sent := some f }

/-- Whether the chain unit works: powered and out of RESET_N (R629). -/
def State.mchLive (s : State) : Bool := s.mf.power && !s.mf.inReset

/-! ### Alignment (R629, R634) -/

/-- A frame with a valid CRC has been seen: counted; the second in a row aligns the chip. -/
def State.mchSeen (s : State) : State :=
  let s := s.bump CTR_MCH_FRAMES
  let s := s.setMch { s.mch with bad := 0, syncs := Nat.min 2 (s.mch.syncs + 1) }
  if s.mch.syncs = 2 then
    let s := (s.setFld MCH_STAT MCH_STAT_FALIGN 1).setFld MCH_STAT MCH_STAT_ORPHAN 0
    s.setMch { s.mch with seen := true }
  else s

/-- A valid frame: treated by a chip that was aligned before it; a chip that was not sends EMPTY. -/
def State.mchFrame (act : State → State) (s : State) : State :=
  if s.mchLive then
    (if s.falign then act s.mchSeen else s.mchSeen.send emptyFrame)
  else s

/-- A frame that fails its CRC is forwarded as EMPTY and counted; the fourth in a row loses alignment (R628, R629). -/
def State.mchCrc (s : State) : State :=
  if s.mchLive = false then s
  else if s.falign = false then (s.setMch { s.mch with syncs := 0 }).send emptyFrame
  else
    let s := ((s.bump CTR_MCH_CRC_CNT).mark EVT_MCH_FRAME).send emptyFrame
    let s := s.setMch { s.mch with bad := s.mch.bad + 1 }
    if 4 ≤ s.mch.bad then (s.setFld MCH_STAT MCH_STAT_FALIGN 0).setMch { s.mch with syncs := 0, bad := 0 } else s

/-! ### Status (R632, R636) -/

def mchOk : Nat := 0
def mchAuth : Nat := 1
def mchMode : Nat := 2
def mchDry : Nat := 3
def mchPoison : Nat := 4
def mchTimeout : Nat := 5
def mchFull : Nat := 6
def mchFormat : Nat := 7
def mchCap : Nat := 8

/-- The words of R626 that the chain writes directly in LOAD after a failure. -/
def isBootWord (a : Nat) : Bool :=
  decide (a = BOOT_NEXT) || decide (a = BOOT_FL_ADDR) || decide (a = BOOT_FL_CMD) || (decide (BOOT_FL_BUF 0 ≤ a) && decide (a < BOOT_FL_BUF 64))

/-- LOAD with STATE = FAILED. -/
def State.bootFailedNow (s : State) : Bool := s.mode == modeLoad && decide (s.boot.step = .failed)

/-- Whether the chain may write a word directly though it is an item (R626). -/
def State.bootDirect (s : State) (a : Nat) : Bool := s.bootFailedNow && isBootWord a

/-- The FORMAT checks of a command. -/
def State.mchMalformed (s : State) (f : MchFrame) : Bool :=
  let a := f.address.toNat
  decide (a % 4 ≠ 0) || bitOf f.byte2 7 || decide (f.byte3.toNat % 8 ≠ 0) ||
    (decide (f.type = mchWriteT) && (decide (f.mask = 0) || (decide (f.mask ≠ 0xFFFFFFFF) && !s.isItem a)))

/-- Whether the mode refuses a command (R636). -/
def State.mchRefused (s : State) (f : MchFrame) : Bool :=
  let a := f.address.toNat
  let item := s.isItem a || (s.mode == modeLoad && isBootWord a)
  if s.mode = modeDark then true
  else if f.type = mchReadT then false
  else if s.mode = modeSealed then true
  else if s.mode = modeLoad then item && !s.bootDirect a
  else if s.mode = modeService ∧ s.mf.blotted then item
  else false

/-- The status with which a command is turned away before it is judged. -/
def State.mchTurned (s : State) (f : MchFrame) : Option Nat :=
  if s.mchMalformed f then some mchFormat else if s.mchRefused f then some mchMode else none

/-! ### Accesses (R635) -/

/-- The chain's read of one word: status and data; none where nothing answers (R514). -/
def State.mchReadWord (a : Nat) (s : State) : Option (Nat × Word) × State :=
  match s.target a with
  | none => (none, s)
  | some t =>
    match s.dryWhy (.chip 1) false true a t with
    | some w => (some (mchDry, 0), s.dryNoted (.chip 1) w)
    | none =>
      let (b, s) := s.targetRead (.chip 1) true a t
      (some (if b.psn then mchPoison else mchOk, if a % 8 = 0 then loWord b.w else hiWord b.w), s)

/-- The chain's write of one word: judged and staged, or a field of R68 that takes effect at once. -/
def State.mchWriteWord (a : Nat) (w mask : Word) (s : State) : Nat × State :=
  if s.bootDirect a then (mchOk, s.writeNow a w mask)
  else if s.isItem a ∨ isR68 a = false then s.chainWrite a w mask
  else
    match s.closedGate a with
    | some g => (mchDry, s.noteDry (.chip 1) (gateLevel g))
    | none => s.chainWrite a w mask

/-- The response to a command, without the fields of its sending. -/
def respFrame (f : MchFrame) (status : Nat) (data stroke : Word) : MchFrame :=
  { type := mchRespT, tag := f.tag, byte2 := 0, byte3 := BitVec.ofNat 8 (16 * status), address := f.address, data := data, mask := stroke }

/-- A response is held. -/
def State.hold (f : MchFrame) (status : Nat) (data : Word) (s : State) : State :=
  s.setMch { s.mch with resp := s.mch.resp ++ [respFrame f status data (loWord s.tim.strk)] }

/-- A command that executes. -/
def State.addRun (f : MchFrame) (res : Option (Nat × Word)) (s : State) : State :=
  s.setMch { s.mch with run := s.mch.run ++ [{ fr := f, res := res, stroke := loWord s.tim.strk }] }

/-- Whether an access waits behind one that nothing has answered. -/
def State.mchStuck (s : State) : Bool := s.mch.run.any fun c => c.res.isNone

def State.mchHolds (s : State) : Nat := s.mch.run.length + s.mch.resp.length

/-- A READ or WRITE taken (R631, R635, R636). -/
def State.mchTake (f : MchFrame) (s : State) : State :=
  let s := s.send emptyFrame
  if 16 ≤ s.mchHolds then (s.bump CTR_MCH_FULL_CNT).hold f mchFull 0
  else
    match s.mchTurned f with
    | some c => s.hold f c 0
    | none =>
      let a := f.address.toNat
      if f.type = mchReadT then
        let s := s.bump CTR_MCH_CMD_CNT
        if s.mchStuck then s.addRun f none
        else
          let (r, s) := s.mchReadWord a
          s.addRun f r
      else
        let (c, s) := s.mchWriteWord a f.data f.mask
        if c = mchAuth ∨ c = mchCap then s.hold f c 0 else (s.bump CTR_MCH_CMD_CNT).addRun f (some (c, 0))

/-! ### What each frame does (R631, R633) -/

/-- A READ. -/
def State.frameRead (f : MchFrame) (s : State) : State :=
  if frBcast f = false ∧ frAddr f ≠ 0 ∧ frAddr f = s.mchAddr then s.mchTake f else s.send f

/-- A WRITE to one chip. -/
def State.frameWrite (f : MchFrame) (s : State) : State :=
  if frBcast f = false ∧ frAddr f ≠ 0 ∧ frAddr f = s.mchAddr then s.mchTake f else s.send f

/-- A broadcast WRITE: executed, forwarded unchanged, not answered. -/
def State.frameBroadcast (f : MchFrame) (s : State) : State :=
  let s := s.send f
  if 16 ≤ s.mchHolds then s.bump CTR_MCH_FULL_CNT
  else if (s.mchTurned f).isSome then s
  else
    let (c, s) := s.mchWriteWord f.address.toNat f.data f.mask
    if c = mchAuth ∨ c = mchCap then s else s.bump CTR_MCH_CMD_CNT

/-- The chip takes an address. -/
def State.setMchAddr (x : Nat) (s : State) : State :=
  let old := s.mchAddr
  let s := (s.setFld MCH_STAT MCH_STAT_ADDR x).setFld MCH_STAT MCH_STAT_ASSIGNED (b2n (x != 0))
  if x = old then s else s.mark EVT_MCH_ADDR

/-- ENUM: the ADDR field takes values up to 64. -/
def State.frameEnum (f : MchFrame) (s : State) : State :=
  let x := f.byte2.toNat % 128
  let on : Nat → MchFrame := fun n => { f with byte2 := BitVec.ofNat 8 n }
  if s.on MCH_STAT MCH_STAT_HEAD then s.send (on 2)
  else if 1 ≤ x ∧ x ≤ 63 then (s.setMchAddr x).send (on (x + 1))
  else (s.setMchAddr 0).send f

/-- EMPTY: replaced by the oldest held response, with this chip's address and its attention (R630, R633). -/
def State.frameEmpty (f : MchFrame) (s : State) : State :=
  match s.mch.resp with
  | [] => s.send f
  | r :: l =>
    let r := { r with byte2 := BitVec.ofNat 8 s.mchAddr, byte3 := r.byte3 ||| BitVec.ofNat 8 (8 * b2n s.attn) }
    (s.setMch { s.mch with resp := l }).send r

/-- A command's access is done, and its response is held (R635). -/
def State.mchDone (s : State) : State :=
  match s.mch.run with
  | [] => s
  | c :: l =>
    match c.res with
    | none => s
    | some (st, d) =>
      let s := s.setMch { s.mch with run := l }
      let k := if c.fr.type = mchReadT then loWord s.tim.strk else c.stroke
      s.setMch { s.mch with resp := s.mch.resp ++ [respFrame c.fr st d k] }

/-- A chip that is not the head has seen no aligned traffic for 1 s after power-good (R634). -/
def State.orphan (s : State) : State :=
  if s.mchLive = false ∨ s.on MCH_STAT MCH_STAT_HEAD ∨ s.mch.seen then s
  else (s.setFld MCH_STAT MCH_STAT_ORPHAN 1).mark EVT_MCH_ORPHAN

/-! ### The commands -/

def execMchRead (fr : MchFrame) (s : State) : Host.Outcome State Fault Refusal :=
  .next (s.mchFrame (State.frameRead { fr with type := mchReadT }))

def execMchWrite (fr : MchFrame) (s : State) : Host.Outcome State Fault Refusal :=
  .next (s.mchFrame (State.frameWrite { fr with type := mchWriteT }))

def execMchBroadcastWrite (fr : MchFrame) (s : State) : Host.Outcome State Fault Refusal :=
  .next (s.mchFrame (State.frameBroadcast { fr with type := mchWriteT }))

def execMchEnum (fr : MchFrame) (s : State) : Host.Outcome State Fault Refusal :=
  .next (s.mchFrame (State.frameEnum { fr with type := mchEnumT }))

def execMchEmpty (fr : MchFrame) (s : State) : Host.Outcome State Fault Refusal :=
  .next (s.mchFrame (State.frameEmpty { fr with type := mchEmptyT }))

/-- MCH_FORWARD: any other frame goes on unchanged (R631). -/
def execMchForward (fr : MchFrame) (s : State) : Host.Outcome State Fault Refusal := .next (s.mchFrame (State.send fr))

def execMchCrcFail (s : State) : Host.Outcome State Fault Refusal := .next s.mchCrc

/-- MCH_ORPHAN; the frame is not looked at. -/
def execMchOrphan (_fr : MchFrame) (s : State) : Host.Outcome State Fault Refusal := .next s.orphan

def execMchCommandDone (s : State) : Host.Outcome State Fault Refusal := .next s.mchDone

/-- MCH_UNALIGNED_CADENCE (R629). -/
def execMchUnalignedCadence (s : State) : Host.Outcome State Fault Refusal :=
  .next (if s.mchLive ∧ s.falign = false then s.send emptyFrame else s)

end Sys2Proof.Machine
end

