-- ==== Sys2Proof/Machine/Tide.lean ====
section
/-! DEFINITION. Tide timers (spec/15_fabric_and_address_map.md R515 to R517, R522, spec/16_sluice_dma.md R550,
spec/18_faults_and_modes.md R585). -/

namespace Sys2Proof.Machine

/-! ### The transaction that waits -/

/-- The running entry of the active ruling that a test selects. -/
def State.runningEntry (s : State) (f : Entry → Bool) : Option (Nat × Entry) :=
  (s.entries.zipIdx.find? fun (x : Entry × Nat) => f x.1 && (s.entrySt x.2).running).map fun x => (x.2, x.1)

/-- The running entry whose master port a port is: a sluice channel, an inkstone's or a brush engine's port. -/
def State.portEntry (s : State) (port : Port) : Option (Nat × Entry) :=
  match port with
  | .pld p i =>
    if i.val < 16 then s.runningEntry fun e => eType e == 2 && eChan e == 16 * p.val + i.val
    else if i.val = 17 then s.runningEntry fun e => eType e == 3 && ePolder e == p.val
    else if i.val = 18 then s.runningEntry fun e => eType e == 4 && ePolder e == p.val
    else none
  | .chip i =>
    if 12 ≤ i.val ∧ i.val < 16 then s.runningEntry fun e => eType e == 3 && ePolder e == i.val - 12
    else if 16 ≤ i.val then s.runningEntry fun e => eType e == 4 && ePolder e == i.val - 16
    else none

/-- The address that a chain waits for. -/
def State.chainAddr (s : State) (c : Nat) : Option Nat :=
  let x := s.chain c
  match x.desc with
  | some d =>
    let a := s.descSrc d (x.pos / 8)
    let b := s.descDst d (x.pos / 8)
    some (if d.op = 1 ∨ s.decodes a then b else a)
  | none => x.fetch

/-- The address that a SLU entry waits for: of its next write while a whole burst is there, else of its next read. -/
def State.entryAddr (s : State) (i : Nat) (e : Entry) : Nat :=
  let got := eBeats e - (s.reg (SLU_CH_REMAIN (eChan e))).toNat / 8
  let done := (s.entrySt i).done
  if done < burstEnd (eDst e) (eBeats e) got then eDst e + 8 * done else eSrc e + 8 * got

/-- The address of a port's oldest outstanding transaction. -/
def State.stalled (s : State) (port : Port) : Option Nat :=
  let x := s.port port
  match x.outs, x.held with
  | t :: _, _ => some t.req.addr
  | [], r :: _ => some r.addr
  | [], [] =>
    match s.portEntry port with
    | some (i, e) => some (if eType e = 2 then s.entryAddr i e else 0x08000000)
    | none =>
      match port with
      | .chip i => if i.val = 1 then (s.mch.run.find? fun c => c.res.isNone).map fun c => c.fr.address.toNat else none
      | .pld p i => if i.val < 16 ∧ s.chainRuns (16 * p.val + i.val) then s.chainAddr (16 * p.val + i.val) else none

/-! ### The report (R585) -/

/-- What a tide reset counts towards. -/
def tideMarks (port : Port) (a : Nat) : List TideMark :=
  match port with
  | .pld p _ =>
    match quireOfAddr a with
    | some x => if x / 4 = p.val ∧ a % 0x4000000 < 0x2880000 then [.quire (Fin.ofNat 16 x)] else []
    | none => []
  | .chip i =>
    (if 0x10000000 ≤ a ∧ a < 0x20000000 then [TideMark.window (Fin.ofNat 4 (polderOf a))] else []) ++
      (if 8 ≤ i.val then [TideMark.ports (Fin.ofNat 4 i.val)] else [])

/-- The tide resets of the last 12,000 strokes that count towards a mark. -/
def State.tideCount (s : State) (m : TideMark) : Nat := s.mf.tides.countP fun (x : Stroke × TideMark) => x.2 == m

/-- A mark is kept; the second within 12,000 strokes raises its source, except of what is cofferdammed. -/
def State.tideMark (m : TideMark) (s : State) : State :=
  let near : Stroke × TideMark → Bool := fun x => decide ((s.tim.strk - x.1).toNat < 12000)
  let s := s.withMf { s.mf with tides := s.mf.tides.filter near ++ [(s.tim.strk, m)] }
  if s.tideCount m < 2 then s
  else
    match m with
    | .quire x => if s.deadQuire x then s else s.contain EVT_MF_QRE_FAIL (.quire x)
    | .window p => if s.deadPolder p then s else s.contain EVT_MF_PLD_FAIL (.polder p)
    | .ports p => if s.deadPolder p then s else s.contain EVT_MF_PLD_FAIL (.polder p)

/-- The polder of a report: of a polder-level port its own, of a chip-level port that of the address, else that of
the port. -/
def tidePolder (port : Port) (a : Nat) : Nat :=
  match port with
  | .pld p _ => p.val
  | .chip i => if 0x10000000 ≤ a ∧ a < 0x20000000 then polderOf a else if 8 ≤ i.val then i.val % 4 else 0

/-- MF_TIDE_TGT and the marks. -/
def State.tideReport (port : Port) (a : Nat) (s : State) : State :=
  let l := portLevel port
  let w := 2 ^ 31 + (if l = 0 then 0 else 2 ^ 30) + 2 ^ 28 * (tidePolder port a) + 2 ^ 23 * (portBit port l) + a / 2 ^ 16 % 2 ^ 16
  each (tideMarks port a) State.tideMark (s.setReg MF_TIDE_TGT (BitVec.ofNat 32 w))

/-! ### The reset of a port (R515, R517, R522, R550) -/

/-- What the master unit does with its tide completion. -/
def State.tideUnit (port : Port) (s : State) : State :=
  match s.portEntry port with
  | some (i, e) => s.cutEntry i e
  | none =>
    match port with
    | .chip i =>
      if i.val = 1 then
        let s := s.bump CTR_MCH_TMO_CNT
        s.setMch { s.mch with run := s.mch.run.map fun c => if c.res.isNone then { c with res := some (mchTimeout, 0) } else c }
      else s
    | .pld p i => if i.val < 16 ∧ s.chainRuns (16 * p.val + i.val) then s.chainEnd (16 * p.val + i.val) sluTimeout EVT_SLU_TIMEOUT else s

/-- A port whose oldest transaction has waited for LIMIT is reset: what it held is dropped, what is outstanding is
abandoned. -/
def State.tide (port : Port) (s : State) : State :=
  match s.stalled port with
  | none => s
  | some a =>
    let l := portLevel port
    let s := s.resetPort port
    let s := ((s.bump (CTR_FAB_TIDE_CNT l)).mark (EVT_FAB_TIDE l)).setRegBit (FAB_TIDE_WHO l) (portBit port l) true
    (s.tideReport port a).tideUnit port

def execTideExpiry (port : Port) (s : State) : Host.Outcome State Fault Refusal := .next (s.tide port)

end Sys2Proof.Machine
end

