-- ==== Sys2Proof/Machine/Boundary.lean ====
section
/-! DEFINITION. The stroke boundary and the alignment of the grid to PTP time (spec/02_stroke_and_timing.md). -/

namespace Sys2Proof.Machine

/-! ### Alignment (R57, R59, R61) -/

/-- The governing base at a system-counter value, as strokes since its epoch times `secUnits`. -/
def State.govStrokes (s : State) (c : BitVec 64) : Int := (s.tbAt (s.fld STK_STAT STK_STAT_GOV) c : Int) * 12000

/-- A difference of stroke positions taken in the nearest of the 2^48 strokes. -/
def nearStroke (x : Int) : Int :=
  let m : Int := 2 ^ 48 * (secUnits : Int)
  let r := x % m
  if 2 * r < m then r else r - m

/-- The instant of the governing base at B(n) less the instant n / 12,000 s, in ROOT cycles (R59): positive when the
boundary lies late. -/
def State.alignErr (s : State) : Int :=
  let d := nearStroke (s.govStrokes s.tim.bnd - (s.tim.strk.toNat : Int) * secUnits)
  roundHalfEven (102400 * d) secUnits

/-- Whether a value fits the signed 32 bits of STK_ALIGN_ERR. -/
def fits32 (x : Int) : Bool := decide (-(2 : Int) ^ 31 ≤ x) && decide (x < 2 ^ 31)

/-- The limit of STK_ALIGN_LIM in use (R74). -/
def State.alignLim (s : State) : Nat := bits s.tim.lim 15 0

/-- A boundary takes STK_ALIGN_LIM and STK_STEER: a value applied in phase 2 acts from the boundary after (R74). -/
def State.takeSteer (s : State) : State :=
  s.withTim { s.tim with lim := s.reg STK_ALIGN_LIM, steer := s.reg STK_STEER }

/-- STK_ALIGN_ERR holds a measurement; one that 32 bits do not hold leaves it a free value. -/
def State.noteErr (e : Int) (s : State) : State :=
  if fits32 e then s.setReg STK_ALIGN_ERR (BitVec.ofInt 32 e)
  else
    let (w, s) := s.freshWord
    s.setReg STK_ALIGN_ERR w

/-- What a measurement does to ALIGNED outside an alignment in progress (R61). -/
def State.judgeErr (e : Int) (s : State) : State :=
  if s.tim.align ≠ .idle then s
  else if s.aligned then
    if s.alignLim < e.natAbs then (s.setFld STK_STAT STK_STAT_ALIGNED 0).mark EVT_STK_ALIGN else s
  else if s.live ∧ e.natAbs ≤ s.alignLim then s.setFld STK_STAT STK_STAT_ALIGNED 1
  else s

/-- The measurement of a boundary (R59, R61). -/
def State.measureAlign (s : State) : State :=
  if s.govLock then
    let e := s.alignErr
    ((s.setFld STK_STAT STK_STAT_MEAS 1).noteErr e).judgeErr e
  else s.setFld STK_STAT STK_STAT_MEAS 0

/-- The target of the coarse step: the number m of the first grid instant at or after B(n) + 89,600 ROOT cycles. -/
def coarseTarget (x : Int) : Int := -((-(8 * x + 7 * (secUnits : Int))) / (8 * (secUnits : Int)))

/-- How far the boundary of a lengthening lies from the target, in ROOT cycles times `secUnits`. -/
def coarseGap (x m : Int) (j : Nat) : Nat :=
  (((102400 + 25600 * j : Nat) : Int) * secUnits - 102400 * (m * secUnits - x)).natAbs

/-- The j whose boundary lies nearest, the smaller of two equally near. -/
def coarseStep (x m : Int) : Fin 4 :=
  let g := coarseGap x m
  let a : Fin 4 := if g 1 < g 0 then 1 else 0
  let b : Fin 4 := if g 2 < g a.val then 2 else a
  if g 3 < g b.val then 3 else b

/-- Phase 0 of a boundary as far as an alignment starts there (R57). -/
def State.alignStart (s : State) : State :=
  if s.mode ≠ modePoised ∧ s.mode ≠ modeService then s
  else
    let due := s.tim.due || (s.aligned == false && decide (s.tim.align = .idle))
    if due ∧ s.govLock = true then
      let x := s.govStrokes s.tim.bnd
      let m := coarseTarget x
      let s := s.setFld STK_STAT STK_STAT_ALIGNED 0
      s.withTim { s.tim with align := .coarse (coarseStep x m) (BitVec.ofInt 48 m), due := false }
    else s.withTim { s.tim with due := due }

/-- ALIGNMENT_FINE_PULL_DONE (R57 step 2). -/
def execAlignmentFinePullDone (s : State) : Host.Outcome State Fault Refusal :=
  .next (if s.tim.align = .pull ∧ (s.mode = modePoised ∨ s.mode = modeService) ∧ s.on STK_STAT STK_STAT_MEAS = true ∧
      (s.reg STK_ALIGN_ERR).toInt.natAbs ≤ s.alignLim then
    let s := s.withTim { s.tim with align := .idle }
    (s.setFld STK_STAT STK_STAT_ALIGNED 1).mark EVT_STK_ALIGNED
  else s)

/-! ### Phase 0: count -/

/-- A change that waits for the first boundary after its acceptance falls due at stroke `m`, which an alignment makes
of that boundary (R67): a tag waits for its apply stroke unless it came late. -/
def Change.jump (n m : Stroke) (c : Change) : Change :=
  match c.path with
  | .tag _ => if c.due = n ∧ (c.restore ∨ c.apply ≠ n) then { c with due := m } else c
  | _ => if c.due = n then { c with due := m } else c

/-- The stroke ends: B(n) by the length of the stroke, its number one more, or m after the alignment stroke
(R48, R53, R54, R57). -/
def State.countStroke (s : State) : State :=
  let b := s.tim.bnd + BitVec.ofNat 64 s.strokeLen
  let t := { s.tim with bnd := b, sysCnt := b }
  match s.tim.align with
  | .coarse _ m =>
    let pull := s.mode == modePoised || s.mode == modeService
    let s := s.withStager { s.stager with staged := s.stager.staged.map (Change.jump (s.tim.strk + 1) m) }
    (s.withTim { t with strk := m, align := if pull then .pull else .idle }).withSapRemap true
  | _ => s.withTim { t with strk := s.tim.strk + 1 }

/-- The copy that becomes current loses its claims and its STALE flags (R34, R36). -/
def State.clearClaims (s : State) : State :=
  let c := s.tim.strk.toNat % 2
  s.withSlate (SMap.clear (16384 * c) (16384 * c + 16384) s.slate)

/-- The deadlines re-arm and each brush engine's sweep of the stroke before is done (R173, R245, R262). -/
def State.rearm (s : State) : State :=
  let s := (s.withRul { s.rul with st := [], counted := false, cut := false }).withInkPrev []
  let s := each (List.range 4) (fun p s =>
    let b := s.bru p
    if b.sweepEnd = 0 then s else (s.setReg (BRU_SWEEP_END p) (BitVec.ofNat 32 b.sweepEnd)).setBru p { minRead := b.minRead }) s
  s.withNet { s.net with ports := s.net.ports.map fun (e : Nat × NetPort) => (e.1, { e.2 with sent := [] }) }

/-- Governance falls over to the other base (R486). -/
def State.fallOver (s : State) : State :=
  let g := s.fld STK_STAT STK_STAT_GOV
  if s.on TB_GOV TB_GOV_FOEN ∧ s.govLock = false ∧ s.on (TB_STAT (1 - g)) TB_STAT_LOCK = true then
    (s.setFld STK_STAT STK_STAT_GOV (1 - g)).mark EVT_TB_FALLOVER
  else s

/-- ALIGNED has been 1 at a boundary since the last entry to LOAD (R351). -/
def State.noteAligned (s : State) : State := if s.aligned then s.withNet { s.net with aligned := true } else s

def State.phase0 (s : State) : State :=
  let s := s.digestBoundary.countStroke.clearClaims.rearm.takeSteer
  s.fallOver.alignStart.measureAlign.noteAligned.modePhase0

/-! ### Phase 1: structure -/

/-- A change of active ruling, PARTIAL or a cold move is a cause of R425. -/
def State.ruleCause (s : State) : State :=
  if s.rul.cause then (s.withRul { s.rul with cause := false }).mirrorCause else s

def State.phase1 (s : State) : State :=
  let (moved, s) := s.modePhase1
  let s := each (List.finRange 16) State.reliefApply s.recordCoffs
  let s := (s.rulingApply.ruleCause).mirrorPhase1 moved
  s.addW 0xFFFFFFF4 ((s.reg RUL_ACTIVE).setWidth 64)

/-! ### Phases 3 to 5 -/

/-- The elements of the polders whose gate is open that have bank 1 (R241, R242). -/
def State.bankOnes (s : State) : List Nat :=
  (List.range 4).flatMap fun p =>
    if s.isOpen (6 + p) then
      ((List.range 512).filter fun e => decide ((s.elem p e).taps ≠ 0 ∧ (s.elem p e).bank = 1)).map fun e => 512 * p + e
    else []

/-- Phase 3: double-buffered selections. -/
def State.phase3 (s : State) : State :=
  let s := s.sapSwapMasks
  s.withBruLive s.bankOnes

/-- INK_ARMED at the end of phase 4 (R225). -/
def State.noteArmed (s : State) : State :=
  each (List.range 4) (fun p s => if s.isOpen (6 + p) then s.setReg (INK_ARMED p) (BitVec.ofNat 32 (s.inkArmed p)) else s) s

/-- Phase 4: the rows of the stroke decide their first step (R212). -/
def State.phase4 (s : State) : State :=
  let l := if s.rulingRuns then s.entries.filter fun e => eType e == 3 && !s.suppressed e && s.isOpen (6 + ePolder e) else []
  (each l (fun e s => each (List.range (eCount e)) (fun i s => inkDecide (ePolder e) (eFirst e + i) s) s) s).noteArmed

/-- The FAULT field of a colophon; SPILL and TAINT are those of the stroke that ended (R398). -/
def State.faultField (spill taint : Bool) (s : State) : Nat :=
  let hold := decide (s.loop = loopHoldover) || decide (s.loop = loopFree)
  let latch := (List.range 32).any fun k => s.fld (LANE_STAT k) LANE_STAT_STATE == laneLatched
  2048 * (b2n (s.on MF_FAULT MF_FAULT_DEGRADE)) + 1024 * (b2n s.coffered) + 512 * (b2n hold) + 256 * (b2n (!s.govLock)) +
    128 * (b2n (!s.aligned)) + 64 * (b2n (s.on RUL_ACTIVE RUL_ACTIVE_PARTIAL)) + 32 * (b2n latch) + 16 * (b2n spill) +
    b2n taint * 8 + s.fld RUL_ACTIVE RUL_ACTIVE_INDEX

/-- The colophon of a stroke, without the fields that a packet fills in (R398, R399). -/
def State.colophonNow (spill taint : Bool) (s : State) : Colophon :=
  let st := 16 * s.mode + s.fld MF_CFG MF_CFG_ROLE * 4 + s.fld MIR_STAT MIR_STAT_OOS * 2 + s.fld MIR_STAT MIR_STAT_ELIG
  let n := s.tim.strk.toNat
  let g := s.stager
  { c0 := BitVec.ofNat 32 (2 ^ 24 * st + s.faultField spill taint)
    c1 := BitVec.ofNat 32 (n / 2 ^ 16)
    c2 := BitVec.ofNat 32 (2 ^ 16 * (n % 2 ^ 16) + g.refuse)
    c3 := BitVec.ofNat 32 (2 ^ 16 * ((s.reg RUL_LOST).toNat % 2 ^ 16) + 2 ^ 8 * g.tagLate + g.revLate)
    c4 := 0, c5 := 0, c6 := 0, c7 := 0 }

/-- Phase 5: what colophons, PENDING reads and reads of the fault summary take is latched. -/
def State.phase5 (spill taint : Bool) (s : State) : State :=
  let s := s.withStager { s.stager with colophon := s.colophonNow spill taint, pend := s.stager.staged }
  s.withMf { s.mf with summary := MF_FAULT_CONTAIN.put (s.reg MF_FAULT) (b2n s.coffered) }

/-! ### The boundary -/

/-- The boundary phases in their order (R66). -/
def State.boundary (s : State) : State :=
  let spill := s.rul.cut
  let taint := s.rul.counted
  s.phase0.phase1.phase2.phase3.phase4.phase5 spill taint

/-- STROKE_BOUNDARY, while ROOT runs. -/
def execStrokeBoundary (s : State) : Host.Outcome State Fault Refusal := .next (if s.mf.root then s.boundary else s)

end Sys2Proof.Machine
end

