-- ==== Sys2Proof/Machine/NetDrop.lean ====
section
/-! DEFINITION. Received frames that reach no class: their checks, byte by byte, and their counters (R335, R341, R342,
R344, R345, R478). Frame layouts are those of IEEE 802.3, 802.1Q and the IETF protocols the spec names. -/

namespace Sys2Proof.Machine

/-! ### Checks over bytes -/

/-- A big-endian number of `n` bytes at offset `o` (R6). -/
def beAt (l : List Byte) (o n : Nat) : Nat := ((l.drop o).take n).foldl (fun a b => 256 * a + b.toNat) 0

/-- One bit step of the IEEE 802.3 CRC, least significant bit first. -/
def crcBit (c : Word) : Word := if bitOf c 0 then (c >>> 1) ^^^ 0xEDB88320 else c >>> 1

def crcByte (c : Word) (b : Byte) : Word := (List.range 8).foldl (fun c _ => crcBit c) (c ^^^ b.setWidth 32)

/-- The frame check sequence, in the order in which its bytes are sent. -/
def fcsOf (l : List Byte) : List Byte :=
  let c := (l.foldl crcByte 0xFFFFFFFF) ^^^ 0xFFFFFFFF
  (List.range 4).map fun i => (c >>> (8 * i)).setWidth 8

/-- The ones' complement sum of 16-bit words, an odd last byte padded with 0. -/
def onesSum : List Byte → Nat → Nat
  | [], a => a
  | [b], a => let t := a + 256 * b.toNat; t % 65536 + t / 65536
  | b :: c :: l, a => let t := a + 256 * b.toNat + c.toNat; onesSum l (t % 65536 + t / 65536)

/-- The Internet checksum of a list of bytes. -/
def checksum (l : List Byte) : Nat := 65535 - onesSum l 0

/-! ### Where the parts of a frame lie -/

/-- The bytes before the FCS. -/
def frameBody (l : List Byte) : List Byte := l.take (l.length - 4)

/-- Whether a frame carries one 802.1Q tag, and whether it carries a second tag or an S-tag. -/
def frameTagged (l : List Byte) : Bool := beAt l 12 2 == 0x8100
def frameDouble (l : List Byte) : Bool :=
  beAt l 12 2 == 0x88A8 || (frameTagged l && (beAt l 16 2 == 0x8100 || beAt l 16 2 == 0x88A8))

def frameVid (l : List Byte) : Option (BitVec 12) := if frameTagged l then some (BitVec.ofNat 12 (beAt l 14 2)) else none

/-- The offset past the EtherType. -/
def frameAt (l : List Byte) : Nat := if frameTagged l then 18 else 14

def frameType (l : List Byte) : Nat := beAt l (frameAt l - 2) 2

def frameMac (l : List Byte) : BitVec 48 := BitVec.ofNat 48 (beAt l 0 6)

/-- The IPv4 header's length. -/
def ipLen (l : List Byte) : Nat := 4 * (beAt l (frameAt l) 1 % 16)

/-- The offset of the UDP header, in an IPv4 or an IPv6 packet. -/
def udpAt (l : List Byte) : Option Nat :=
  let o := frameAt l
  if frameType l = 0x0800 ∧ beAt l (o + 9) 1 = 17 then some (o + ipLen l)
  else if frameType l = 0x86DD ∧ beAt l (o + 6) 1 = 17 then some (o + 40)
  else none

/-- Whether a UDP checksum that is not 0 fails: pseudo-header and datagram (R344). -/
def udpBad (l : List Byte) : Bool :=
  match udpAt l with
  | none => false
  | some u =>
    let n := beAt l (u + 4) 2
    let o := frameAt l
    let ips := if frameType l = 0x0800 then (l.drop (o + 12)).take 8 else (l.drop (o + 8)).take 32
    let pseudo := ips ++ [0, 17, BitVec.ofNat 8 (n / 256), BitVec.ofNat 8 n]
    beAt l (u + 6) 2 != 0 && onesSum (pseudo ++ (l.drop u).take n) 0 != 65535

/-- Whether an IPv4 header checksum fails. -/
def ipBad (l : List Byte) : Bool := frameType l == 0x0800 && onesSum ((l.drop (frameAt l)).take (ipLen l)) 0 != 65535

/-! ### Classes (R341) -/

/-- The offset of a PTP message and its transport. -/
def ptpAt (l : List Byte) : Option (Nat × PtpTransport) :=
  if frameType l = 0x88F7 then some (frameAt l, .layer2)
  else match udpAt l with
    | some u =>
      if beAt l (u + 2) 2 = 319 ∨ beAt l (u + 2) 2 = 320 then some (u + 8, if frameType l = 0x0800 then .udp4 else .udp6) else none
    | none => none

/-- Whether a PTP message is dropped and counted in PTP_RX_IGN: Management, Signaling, another domain, the transport of
another profile (R478). -/
def State.ptpIgnores (s : State) (w : Nat) (l : List Byte) : Bool :=
  match ptpAt l with
  | none => false
  | some (o, tr) =>
    let t := beAt l o 1 % 16
    s.ptpRuns w && (t == 12 || t == 13 || decide (beAt l (o + 4) 1 ≠ s.fld (PTP_CFG w) PTP_CFG_DOMAIN) || decide (tr ≠ s.ptpTransport w))

/-- Whether an IPv4 packet is a fragment. -/
def fragment (l : List Byte) : Bool := beAt l (frameAt l + 6) 2 % 0x4000 != 0 && beAt l (frameAt l + 6) 2 != 0x4000

/-- The receive entries' UDP ports. -/
def State.streamPort (s : State) (w d : Nat) : Bool := s.rxFlows.any fun f => s.flowOn w f && decide (s.ftDport f = d)

/-- Whether a frame belongs to a class that the engine handles on a network. -/
def State.handles (s : State) (w : Nat) (l : List Byte) : Bool :=
  let o := frameAt l
  let t := frameType l
  let ptp := (ptpAt l).isSome && s.ptpRuns w
  let stream := match udpAt l with
    | some u => s.streamPort w (beAt l (u + 2) 2)
    | none => false
  if t = 0x0806 then beAt l (o + 6) 2 == 1 && beAt l (o + 24) 4 == (s.reg (NW_IPV4 w)).toNat
  else if t = 0x88F7 then ptp
  else if t = 0x0800 then
    let p := o + ipLen l
    !fragment l && (ptp || stream || (beAt l (o + 9) 1 == 2 && beAt l p 1 == 0x11 && decide (12 ≤ beAt l (o + 2) 2 - ipLen l)))
  else if t = 0x86DD then
    let target := BitVec.ofNat 128 (beAt l (o + 48) 16)
    let ns := beAt l (o + 6) 1 == 58 && beAt l (o + 40) 1 == 135 && (target == s.nwV6 w false || target == s.nwV6 w true)
    let mld := beAt l (o + 6) 1 == 0 && beAt l (o + 40) 1 == 58 && beAt l (o + 41) 1 == 0 && beAt l (o + 48) 1 == 130 &&
      decide (36 ≤ beAt l (o + 4) 2)
    ptp || stream || ns || mld
  else false

/-- Why a received frame is dropped without reaching a flow. -/
inductive DropReason where
  | fcs
  | size
  | vlan
  | csum
  | other
  | ptp
  deriving DecidableEq, Repr

/-- The longest frame of a network: its MTU with Ethernet header, tag and FCS (R349). -/
def State.maxFrame (s : State) (w : Nat) (l : List Byte) : Nat :=
  (if s.on (NW_CFG w) NW_CFG_JUMBO then 9000 else 1500) + 18 + (if frameTagged l then 4 else 0)

/-- The checks of a received frame in order; none fails for a frame of a handled class. -/
def State.dropReason (s : State) (w : Nat) (l : List Byte) : Option DropReason :=
  if fcsOf (frameBody l) ≠ l.drop (l.length - 4) then some .fcs
  else if l.length < 64 ∨ s.maxFrame w l < l.length then some .size
  else if frameDouble l = true ∨ s.vlanOk w (frameVid l) = false then some .vlan
  else if s.macPasses w (frameType l == 0x0806) (frameMac l) = false then some .other
  else if ipBad l = true ∨ udpBad l = true then some .csum
  else if s.ptpIgnores w l then some .ptp
  else if s.handles w l then none
  else some .other

/-- FRAME_DROPPED: a received frame, from its destination MAC to its FCS, is dropped and counted by its reason. -/
def execFrameDropped (i : Fin 4) (frame : List Byte) (s : State) : Host.Outcome State Fault Refusal :=
  let n := frame.length
  .next (if s.portLive i then
    match s.dropReason (netOf i) frame with
    | some .fcs => (s.bump (CTR_PORT_RX_FCS i)).rxBytes i n
    | some .size => (s.rxGood i n).bump (CTR_PORT_RX_SIZE i)
    | some .vlan => (s.rxGood i n).bump (CTR_PORT_RX_VLAN i)
    | some .csum => (s.rxGood i n).bump (CTR_PORT_RX_CSUM i)
    | some .other => (s.rxGood i n).bump (CTR_PORT_RX_OTHER i)
    | some .ptp => (s.rxGood i n).bump (CTR_PTP_RX_IGN (netOf i))
    | none => s
  else s)

end Sys2Proof.Machine
end

