-- ==== Sys2Proof/Machine/NibUndef.lean ====
section
/-! DEFINITION. The words that are no instruction of the nib (spec/04_nib_instruction_set.md R129). -/

namespace Sys2Proof.Machine

/-- UNDEFINED_ENCODING: a word that decodes to no instruction raises TRAP_ILLEGAL when it issues (R129, R119). -/
def execUndefinedEncoding (n : NibId) (word : Word) (s : State) : Out :=
  .next (s.issue n (fun w => w == word && (nibDecode n w).isNone) false (fun _ _ => .trap trapIllegal))

end Sys2Proof.Machine
end

