-- ==== Sys2Proof/Machine/System.lean ====
section
/-! DEFINITION. Power, RESET_N, the release of the scribe, and the loss of ROOT (spec/13_references_and_cleanup.md
R445, spec/18_faults_and_modes.md R597, spec/19_boot_and_chain.md R607, R633, spec/22_pins_and_electrical.md R685 to
R689). -/

namespace Sys2Proof.Machine

/-- The ledger and the OTP outlast the loss of power (R639, R669, R687); the flash is open to a board-level programmer
until LOAD, so that its content is what it then is (R608). -/
def State.outlast (s : State) : State :=
  let r := State.reset
  { r with
    pending := s.pending
    free := s.free
    boot := { r.boot with opened := s.boot.opened + 1 }
    fb := { r.fb with ledger := s.fb.ledger, slots := s.fb.slots, turns := s.fb.turns }
    sec := { r.sec with otpA := s.sec.otpA, otpB := s.sec.otpB } }

/-- POWER_GOOD_RISE: ROOT starts, the system counter is 0 and stroke 0 begins; key SRAM is zero and the copies of
the OTP are compared (R607, R640, R685, R686). -/
def execPowerGoodRise (s : State) : Host.Outcome State Fault Refusal :=
  .next (if s.mf.power then s else ((s.outlast.withMf { power := true, root := true })).otpCheck)

/-- POWER_GOOD_FALL (R687). -/
def execPowerGoodFall (s : State) : Host.Outcome State Fault Refusal := .next (if s.mf.power then s.outlast else s)

/-! ### RESET_N (R597, R689) -/

/-- The register banks of PD_AON: references, time bases and stroke timer, and the key store (R43). -/
def inAon (a : Nat) : Bool :=
  (decide (0x20100000 ≤ a) && decide (a < 0x2010803C)) || (decide (0x20500000 ≤ a) && decide (a < 0x20600000))

/-- The registers that RESET_N leaves. -/
def keepsReg (a : Nat) : Bool := inAon a || decide (a = MF_GRAVE)

/-- Every domain except PD_AON at its reset values; the ledger stays, and OTP and counts since power-good with PD_AON;
the flash is open to a board-level programmer (R608). -/
def State.domainsReset (s : State) : State :=
  let s := s.alignDrop.pulsesOff
  let r := State.reset
  { r with
    pending := s.pending
    free := s.free
    tim := s.tim
    regs := s.regs.filter fun (e : Nat × Word) => keepsReg e.1
    latch := s.latch.filter fun (e : Nat × List Word) => inAon (e.1 % 2 ^ 32)
    ref := s.ref
    tbs := s.tbs
    ptps := s.ptps
    pulses := s.pulses
    capts := s.capts
    capLatch := s.capLatch
    sec := s.sec
    fb := { r.fb with ledger := s.fb.ledger, slots := s.fb.slots, turns := s.fb.turns, boots := s.fb.boots, newBoot := s.fb.newBoot }
    boot := { r.boot with opened := s.boot.opened + 1 }
    mch := { r.mch with seen := s.mch.seen }
    mf := { r.mf with power := s.mf.power, root := s.mf.root, inReset := true } }

/-- Transition 15: every domain except PD_AON is reset and the mode is DARK at once (R595, R597). -/
def State.resetN (s : State) : State :=
  let m := s.mode
  (s.domainsReset.setReg MF_MODE (BitVec.ofNat 32 (2 ^ 28 * m))).noteMode 15

/-- RESET_N_ASSERT: ignored below 100 ns, in SEALED and from the start of a blot (R587, R650, R689). -/
def execResetNAssert (lowNs : Nat) (s : State) : Host.Outcome State Fault Refusal :=
  if s.mf.power = false ∨ s.mode = modeSealed ∨ s.blotOn = true ∨ lowNs < 100 then .next s
  else if lowNs < 1000 then .fault .resetWidth
  else .next s.resetN

/-- RESET_N_RELEASE: the sequence of R607 starts again with the zeroing of PD_CHIP. -/
def execResetNRelease (s : State) : Host.Outcome State Fault Refusal := .next (s.withMf { s.mf with inReset := false })

/-! ### The release of the scribe (R26, R607, R633) -/

/-- The SRAMs of PD_CHIP are zero (R26). -/
def State.chipZero (s : State) : State := (s.zeroMem 0x04000000 0x04080000).zeroMem 0x08000000 0x08200000

/-- The straps: BOOT_SWAP and MCH_HEAD; the head takes address 1, any other chip none (R633). -/
def State.straps (bootSwap mchHead : Bool) (fwrev : BitVec 16) (s : State) : State :=
  let s := (s.setFld BOOT_STAT BOOT_STAT_SWAP (b2n bootSwap)).setReg BOOT_FWREV (fwrev.setWidth 32)
  let s := (s.setFld MCH_STAT MCH_STAT_HEAD (b2n mchHead)).setFld MCH_STAT MCH_STAT_ADDR (b2n mchHead)
  s.setFld MCH_STAT MCH_STAT_ASSIGNED (b2n mchHead)

/-- SCRIBE_RELEASE: a blot or a seal keeps the scribe held; from a blotted DARK transition 13 follows, else 1. -/
def execScribeRelease (bootSwap mchHead : Bool) (fwrev : BitVec 16) (s : State) : Host.Outcome State Fault Refusal :=
  .next (if s.mf.power = true ∧ s.mf.root = true ∧ s.mf.inReset = false ∧ s.mode = modeDark then
    let s := s.straps bootSwap mchHead fwrev
    if s.mf.scribeHeld = false ∨ s.isSealing = true ∨ s.fld SEC_STAT SEC_STAT_BLOT = blotRunning then s
    else
      let s := s.chipZero.withMf { s.mf with scribeHeld := false }
      s.decideMode (if s.blotOn then 13 else 1)
  else s)

/-! ### The loss of ROOT (R445, R586) -/

/-- ROOT_LOSS: the lane pins go to 0, EVT_REF_ROOT_LOSS, and SEALED without a boundary. -/
def execRootLoss (s : State) : Host.Outcome State Fault Refusal :=
  .next (if s.mf.power = true ∧ s.mf.root = true then
    let s := s.lanesOff.grave EVT_REF_ROOT_LOSS
    let s := s.withMf { s.mf with root := false, decided := [] }
    if s.mode = modeSealed then s else s.enterMode 14
  else s)

end Sys2Proof.Machine
end

