-- ==== Sys2Proof/Machine/Dispatch.lean ====
section
/-! DEFINITION. The dispatch: one arm per command, each one call of the command's meaning. -/

namespace Sys2Proof.Machine

def exec (i : Instr) (s : State) : Host.Outcome State Fault Refusal :=
  match i with
  | .powerGoodRise => Sys2Proof.Machine.execPowerGoodRise s
  | .powerGoodFall => Sys2Proof.Machine.execPowerGoodFall s
  | .resetNAssert lowNs => Sys2Proof.Machine.execResetNAssert lowNs s
  | .scribeRelease bootSwap mchHead fwrev => Sys2Proof.Machine.execScribeRelease bootSwap mchHead fwrev s
  | .rootLoss => Sys2Proof.Machine.execRootLoss s
  | .lidEvent => Sys2Proof.Machine.execLidEvent s
  | .strokeBoundary => Sys2Proof.Machine.execStrokeBoundary s
  | .alignmentFinePullDone => Sys2Proof.Machine.execAlignmentFinePullDone s
  | .realign => Sys2Proof.Machine.execRealign s
  | .rulingEntryStart idx limit acc => Sys2Proof.Machine.execRulingEntryStart idx limit acc s
  | .tailSweep p => Sys2Proof.Machine.execTailSweep p s
  | .spillwayCut idx => Sys2Proof.Machine.execSpillwayCut idx s
  | .sluEntryComplete idx => Sys2Proof.Machine.execSluEntryComplete idx s
  | .reliefPreparation q home => Sys2Proof.Machine.execReliefPreparation q home s
  | .reliefCommit q => Sys2Proof.Machine.execReliefCommit q s
  | .reliefRotationStep q => Sys2Proof.Machine.execReliefRotationStep q s
  | .reducedRulingSelect => Sys2Proof.Machine.execReducedRulingSelect s
  | .reducedRulingCommit => Sys2Proof.Machine.execReducedRulingCommit s
  | .add n f sd sa sb => Sys2Proof.Machine.execAdd n f sd sa sb s
  | .sub n f sd sa sb => Sys2Proof.Machine.execSub n f sd sa sb s
  | .and n f sd sa sb => Sys2Proof.Machine.execAnd n f sd sa sb s
  | .or n f sd sa sb => Sys2Proof.Machine.execOr n f sd sa sb s
  | .xor n f sd sa sb => Sys2Proof.Machine.execXor n f sd sa sb s
  | .sll n f sd sa sb => Sys2Proof.Machine.execSll n f sd sa sb s
  | .srl n f sd sa sb => Sys2Proof.Machine.execSrl n f sd sa sb s
  | .sra n f sd sa sb => Sys2Proof.Machine.execSra n f sd sa sb s
  | .slli n f sd sa sh => Sys2Proof.Machine.execSlli n f sd sa sh s
  | .srli n f sd sa sh => Sys2Proof.Machine.execSrli n f sd sa sh s
  | .srai n f sd sa sh => Sys2Proof.Machine.execSrai n f sd sa sh s
  | .min n f sd sa sb => Sys2Proof.Machine.execMin n f sd sa sb s
  | .max n f sd sa sb => Sys2Proof.Machine.execMax n f sd sa sb s
  | .sel n sd sa sb cond => Sys2Proof.Machine.execSel n sd sa sb cond s
  | .cmp n sa sb => Sys2Proof.Machine.execCmp n sa sb s
  | .addi n f sd sa imm => Sys2Proof.Machine.execAddi n f sd sa imm s
  | .movl n sd imm => Sys2Proof.Machine.execMovl n sd imm s
  | .movh n sd imm => Sys2Proof.Machine.execMovh n sd imm s
  | .fadd n dd da db => Sys2Proof.Machine.execFadd n dd da db s
  | .fsub n dd da db => Sys2Proof.Machine.execFsub n dd da db s
  | .fmul n dd da db => Sys2Proof.Machine.execFmul n dd da db s
  | .fmin n dd da db => Sys2Proof.Machine.execFmin n dd da db s
  | .fmax n dd da db => Sys2Proof.Machine.execFmax n dd da db s
  | .fabs n dd da => Sys2Proof.Machine.execFabs n dd da s
  | .fneg n dd da => Sys2Proof.Machine.execFneg n dd da s
  | .fcmp n dd da db => Sys2Proof.Machine.execFcmp n dd da db s
  | .fcvtqf n dd da => Sys2Proof.Machine.execFcvtqf n dd da s
  | .fcvtfq n dd da => Sys2Proof.Machine.execFcvtfq n dd da s
  | .fma n dd da db => Sys2Proof.Machine.execFma n dd da db s
  | .ld n dd p mode => Sys2Proof.Machine.execLd n dd p mode s
  | .st n ds p mode bx => Sys2Proof.Machine.execSt n ds p mode bx s
  | .ldq n qd p mode => Sys2Proof.Machine.execLdq n qd p mode s
  | .stq n qs p mode bx => Sys2Proof.Machine.execStq n qs p mode bx s
  | .ld2 n a0 a1 => Sys2Proof.Machine.execLd2 n a0 a1 s
  | .qadds n mask qd qa b => Sys2Proof.Machine.execQadds n mask qd qa b s
  | .qsubs n mask qd qa b => Sys2Proof.Machine.execQsubs n mask qd qa b s
  | .qmulr n mask qd qa b => Sys2Proof.Machine.execQmulr n mask qd qa b s
  | .qabss n mask qd qa => Sys2Proof.Machine.execQabss n mask qd qa s
  | .qnegs n mask qd qa => Sys2Proof.Machine.execQnegs n mask qd qa s
  | .qmax n mask qd qa b => Sys2Proof.Machine.execQmax n mask qd qa b s
  | .qmin n mask qd qa b => Sys2Proof.Machine.execQmin n mask qd qa b s
  | .qshl n mask qd qa b => Sys2Proof.Machine.execQshl n mask qd qa b s
  | .faddq n mask qd qa b => Sys2Proof.Machine.execFaddq n mask qd qa b s
  | .fsubq n mask qd qa b => Sys2Proof.Machine.execFsubq n mask qd qa b s
  | .fmulq n mask qd qa b => Sys2Proof.Machine.execFmulq n mask qd qa b s
  | .fmaq n mask qd qa b => Sys2Proof.Machine.execFmaq n mask qd qa b s
  | .fcvtqfq n mask qd qa => Sys2Proof.Machine.execFcvtqfq n mask qd qa s
  | .fcvtfqq n mask qd qa => Sys2Proof.Machine.execFcvtfqq n mask qd qa s
  | .qmov n mask qd src => Sys2Proof.Machine.execQmov n mask qd src s
  | .mpy n x qa b ld => Sys2Proof.Machine.execMpy n x qa b ld s
  | .mac n x qa b ld => Sys2Proof.Machine.execMac n x qa b ld s
  | .msu n x qa b ld => Sys2Proof.Machine.execMsu n x qa b ld s
  | .ext n fmt x qd mask shift bx clr => Sys2Proof.Machine.execExt n fmt x qd mask shift bx clr s
  | .acld n x lane dj => Sys2Proof.Machine.execAcld n x lane dj s
  | .acst n x lane dj => Sys2Proof.Machine.execAcst n x lane dj s
  | .br n cond target => Sys2Proof.Machine.execBr n cond target s
  | .bdnz n dk target => Sys2Proof.Machine.execBdnz n dk target s
  | .rep n count1 => Sys2Proof.Machine.execRep n count1 s
  | .halt n => Sys2Proof.Machine.execHalt n s
  | .reti n => Sys2Proof.Machine.execReti n s
  | .nop n => Sys2Proof.Machine.execNop n s
  | .fence n => Sys2Proof.Machine.execFence n s
  | .movcTo n creg sa => Sys2Proof.Machine.execMovcTo n creg sa s
  | .movcFrom n creg sd => Sys2Proof.Machine.execMovcFrom n creg sd s
  | .irqclr n clear => Sys2Proof.Machine.execIrqclr n clear s
  | .interruptEntry n => Sys2Proof.Machine.execInterruptEntry n s
  | .timerMatch n => Sys2Proof.Machine.execTimerMatch n s
  | .warnLeadReached n => Sys2Proof.Machine.execWarnLeadReached n s
  | .nibGuardCycle n => Sys2Proof.Machine.execNibGuardCycle n s
  | .quireSramLoadReturn n waited => Sys2Proof.Machine.execQuireSramLoadReturn n waited s
  | .postedStoreAck n waited => Sys2Proof.Machine.execPostedStoreAck n waited s
  | .inkRowRewrite p row => Sys2Proof.Machine.execInkRowRewrite p row s
  | .descriptorRewrite p e => Sys2Proof.Machine.execDescriptorRewrite p e s
  | .sapFrame k fr => Sys2Proof.Machine.execSapFrame k fr s
  | .sapFsTimeout k => Sys2Proof.Machine.execSapFsTimeout k s
  | .sapReleasePoint edges => Sys2Proof.Machine.execSapReleasePoint edges s
  | .sapTxFetch => Sys2Proof.Machine.execSapTxFetch s
  | .laneSlotRead => Sys2Proof.Machine.execLaneSlotRead s
  | .carrierPeriod k j isd vsd pair => Sys2Proof.Machine.execCarrierPeriod k j isd vsd pair s
  | .ilimTrip k isd cycle => Sys2Proof.Machine.execIlimTrip k isd cycle s
  | .retryWaitExpiry k => Sys2Proof.Machine.execRetryWaitExpiry k s
  | .tryReset k => Sys2Proof.Machine.execTryReset k s
  | .laneClr k => Sys2Proof.Machine.execLaneClr k s
  | .dcLatch k => Sys2Proof.Machine.execDcLatch k s
  | .leveeStrokeUpdate aux => Sys2Proof.Machine.execLeveeStrokeUpdate aux s
  | .senseFail x => Sys2Proof.Machine.execSenseFail x s
  | .senseRecover x => Sys2Proof.Machine.execSenseRecover x s
  | .relaySettleExpiry k => Sys2Proof.Machine.execRelaySettleExpiry k s
  | .loadSenseWindowEnd k => Sys2Proof.Machine.execLoadSenseWindowEnd k s
  | .ical k => Sys2Proof.Machine.execIcal k s
  | .calibrationDone k => Sys2Proof.Machine.execCalibrationDone k s
  | .linkUp j => Sys2Proof.Machine.execLinkUp j s
  | .linkDown j => Sys2Proof.Machine.execLinkDown j s
  | .announceRepeat w => Sys2Proof.Machine.execAnnounceRepeat w s
  | .arpRequest j x ip sip smac => Sys2Proof.Machine.execArpRequest j x ip sip smac s
  | .neighbourSolicitation j x ip sip smac => Sys2Proof.Machine.execNeighbourSolicitation j x ip sip smac s
  | .igmpQuery j x q => Sys2Proof.Machine.execIgmpQuery j x q s
  | .mldQuery j x q => Sys2Proof.Machine.execMldQuery j x q s
  | .queryResponseDue w => Sys2Proof.Machine.execQueryResponseDue w s
  | .reportRepeat w => Sys2Proof.Machine.execReportRepeat w s
  | .frameDropped j frame => Sys2Proof.Machine.execFrameDropped j frame s
  | .gsfPacket j pkt => Sys2Proof.Machine.execGsfPacket j pkt s
  | .rtpPacket j pkt => Sys2Proof.Machine.execRtpPacket j pkt s
  | .flowEnable f on => Sys2Proof.Machine.execFlowEnable f on s
  | .flowLaunch => Sys2Proof.Machine.execFlowLaunch s
  | .txPacketDrop j => Sys2Proof.Machine.execTxPacketDrop j s
  | .jitterRelease => Sys2Proof.Machine.execJitterRelease s
  | .historyExpiry => Sys2Proof.Machine.execHistoryExpiry s
  | .intakeRecordWrite idx slot words => Sys2Proof.Machine.execIntakeRecordWrite idx slot words s
  | .tagPendAddr port addr => Sys2Proof.Machine.execTagPendAddr port addr s
  | .handover => Sys2Proof.Machine.execHandover s
  | .resync => Sys2Proof.Machine.execResync s
  | .selectorEvaluation => Sys2Proof.Machine.execSelectorEvaluation s
  | .narrowStepExpiry => Sys2Proof.Machine.execNarrowStepExpiry s
  | .refInputAbsent j => Sys2Proof.Machine.execRefInputAbsent j s
  | .triadAdvance => Sys2Proof.Machine.execTriadAdvance s
  | .tbSet j => Sys2Proof.Machine.execTbSet j s
  | .tbAdj j ns => Sys2Proof.Machine.execTbAdj j ns s
  | .ptpSync w m => Sys2Proof.Machine.execPtpSync w m s
  | .ptpFollowUp w m => Sys2Proof.Machine.execPtpFollowUp w m s
  | .ptpAnnounce w m => Sys2Proof.Machine.execPtpAnnounce w m s
  | .ptpDelayMessage w m => Sys2Proof.Machine.execPtpDelayMessage w m s
  | .announceReceiptTimeout w => Sys2Proof.Machine.execAnnounceReceiptTimeout w s
  | .syncTimeout w => Sys2Proof.Machine.execSyncTimeout w s
  | .pulseEdge k => Sys2Proof.Machine.execPulseEdge k s
  | .pulseWidthEnd k => Sys2Proof.Machine.execPulseWidthEnd k s
  | .pulseArm k => Sys2Proof.Machine.execPulseArm k s
  | .pulseDisarm k => Sys2Proof.Machine.execPulseDisarm k s
  | .captureEdge k rising stamp => Sys2Proof.Machine.execCaptureEdge k rising stamp s
  | .capPop port k => Sys2Proof.Machine.execCapPop port k s
  | .fabricRequest port limit req => Sys2Proof.Machine.execFabricRequest port limit req s
  | .fabricResponse port id => Sys2Proof.Machine.execFabricResponse port id s
  | .tideExpiry port => Sys2Proof.Machine.execTideExpiry port s
  | .gateDrained g => Sys2Proof.Machine.execGateDrained g s
  | .gateForceDrain g => Sys2Proof.Machine.execGateForceDrain g s
  | .remap b => Sys2Proof.Machine.execRemap b s
  | .containmentAction => Sys2Proof.Machine.execContainmentAction s
  | .chainTrigger c => Sys2Proof.Machine.execChainTrigger c s
  | .sluStart c => Sys2Proof.Machine.execSluStart c s
  | .sluStop c => Sys2Proof.Machine.execSluStop c s
  | .descriptorFetch c limit => Sys2Proof.Machine.execDescriptorFetch c limit s
  | .descriptorComplete c => Sys2Proof.Machine.execDescriptorComplete c s
  | .chainDryEnd c => Sys2Proof.Machine.execChainDryEnd c s
  | .flipArm g => Sys2Proof.Machine.execFlipArm g s
  | .flipDisarm g => Sys2Proof.Machine.execFlipDisarm g s
  | .scrubGo g => Sys2Proof.Machine.execScrubGo g s
  | .scrubStop g => Sys2Proof.Machine.execScrubStop g s
  | .scrubWord g stuck => Sys2Proof.Machine.execScrubWord g stuck s
  | .patrolStart g => Sys2Proof.Machine.execPatrolStart g s
  | .rowRepairCommit g => Sys2Proof.Machine.execRowRepairCommit g s
  | .scribeMapRewrite addr => Sys2Proof.Machine.execScribeMapRewrite addr s
  | .lockstepMismatch => Sys2Proof.Machine.execLockstepMismatch s
  | .mfKick port => Sys2Proof.Machine.execMfKick port s
  | .aliveToggle => Sys2Proof.Machine.execAliveToggle s
  | .healthFail => Sys2Proof.Machine.execHealthFail s
  | .run => Sys2Proof.Machine.execRun s
  | .poise => Sys2Proof.Machine.execPoise s
  | .reload => Sys2Proof.Machine.execReload s
  | .testNib idx => Sys2Proof.Machine.execTestNib idx s
  | .testFull => Sys2Proof.Machine.execTestFull s
  | .testCancel => Sys2Proof.Machine.execTestCancel s
  | .nibTestComplete r => Sys2Proof.Machine.execNibTestComplete r s
  | .fullSelftestComplete r => Sys2Proof.Machine.execFullSelftestComplete r s
  | .flashInitDone info => Sys2Proof.Machine.execFlashInitDone info s
  | .pass1Done slot header digest signature => Sys2Proof.Machine.execPass1Done slot header digest signature s
  | .pass2Done slot sections digest fault => Sys2Proof.Machine.execPass2Done slot sections digest fault s
  | .validationDone => Sys2Proof.Machine.execValidationDone s
  | .flashErase => Sys2Proof.Machine.execFlashErase s
  | .flashProgram => Sys2Proof.Machine.execFlashProgram s
  | .flashRetry => Sys2Proof.Machine.execFlashRetry s
  | .flashOpComplete ok => Sys2Proof.Machine.execFlashOpComplete ok s
  | .imageReadDone act => Sys2Proof.Machine.execImageReadDone act s
  | .imageReadRetry act folioSection => Sys2Proof.Machine.execImageReadRetry act folioSection s
  | .mchRead fr => Sys2Proof.Machine.execMchRead fr s
  | .mchWrite fr => Sys2Proof.Machine.execMchWrite fr s
  | .mchBroadcastWrite fr => Sys2Proof.Machine.execMchBroadcastWrite fr s
  | .mchEnum fr => Sys2Proof.Machine.execMchEnum fr s
  | .mchEmpty fr => Sys2Proof.Machine.execMchEmpty fr s
  | .mchForward fr => Sys2Proof.Machine.execMchForward fr s
  | .mchCrcFail => Sys2Proof.Machine.execMchCrcFail s
  | .mchOrphan fr => Sys2Proof.Machine.execMchOrphan fr s
  | .mchCommandDone => Sys2Proof.Machine.execMchCommandDone s
  | .idcode => Sys2Proof.Machine.execIdcode s
  | .samplePreload => Sys2Proof.Machine.execSamplePreload s
  | .bypass code => Sys2Proof.Machine.execBypass code s
  | .brChal nonce => Sys2Proof.Machine.execBrChal nonce s
  | .brResp shifted => Sys2Proof.Machine.execBrResp shifted s
  | .brStat => Sys2Proof.Machine.execBrStat s
  | .extest => Sys2Proof.Machine.execExtest s
  | .blotDone => Sys2Proof.Machine.execBlotDone s
  | .readSetStart => Sys2Proof.Machine.execReadSetStart s
  | .readSetDone gauges => Sys2Proof.Machine.execReadSetDone gauges s
  | .voltageStepConfirm ack readback gauges => Sys2Proof.Machine.execVoltageStepConfirm ack readback gauges s
  | .ledgerSnapshot => Sys2Proof.Machine.execLedgerSnapshot s
  | .registerWrite port addr data => Sys2Proof.Machine.execRegisterWrite port addr data s
  | .registerRead port addr => Sys2Proof.Machine.execRegisterRead port addr s
  | .undefinedEncoding n word => Sys2Proof.Machine.execUndefinedEncoding n word s
  | .sluiceGateOpen d => Sys2Proof.Machine.execSluiceGateOpen d s
  | .resetNRelease => Sys2Proof.Machine.execResetNRelease s
  | .referenceEdge j stamp => Sys2Proof.Machine.execReferenceEdge j stamp s
  | .ptpMessageDue w kind => Sys2Proof.Machine.execPtpMessageDue w kind s
  | .stateDigestSnapshot => Sys2Proof.Machine.execStateDigestSnapshot s
  | .breachResponseVerified => Sys2Proof.Machine.execBreachResponseVerified s
  | .signerRevoke j => Sys2Proof.Machine.execSignerRevoke j s
  | .flashDqsTimeout => Sys2Proof.Machine.execFlashDqsTimeout s
  | .mchUnalignedCadence => Sys2Proof.Machine.execMchUnalignedCadence s

end Sys2Proof.Machine
end

