-- ==== Sys2Proof/WellFormed.lean ====
section
/-! DEFINITION. Well-formed commands: nib instructions that the encoding tables of spec/04_nib_instruction_set.md
define, and events whose operands have the sizes that the spec gives them. -/

namespace Sys2Proof

/-- Whether a list holds no value twice. -/
def distinct {α : Type} [DecidableEq α] : List α → Bool
  | [] => true
  | a :: l => !l.contains a && distinct l

/-- A burst of 1 to 8 beats that does not cross a 64-byte boundary, its data of the same length (R502). -/
def wfReq (r : FabReq) : Bool :=
  decide (1 ≤ r.beats) && decide (r.addr / 8 % 8 + r.beats ≤ 8) && (!r.narrow || r.beats == 1) &&
    match r.write with
    | some l => l.length == r.beats
    | none => true

/-- The canaries of a gauge's site (R656). -/
def wfGauge (g : GaugeRead) : Bool :=
  g.canaries.length == (if g.gauge.val % 8 < 4 then 18 else 1) && g.canaries.all fun k => k.ule 64

/-- One report for each gauge at most. -/
def wfGauges (l : List GaugeRead) : Bool := distinct (l.map fun g => g.gauge) && l.all wfGauge

/-- The reserved bits of a frame's bytes 2 and 3 (R630). -/
def wfFrame (f : MchFrame) : Bool := f.byte2.getLsbD 7 == false && f.byte3 &&& 7 == 0

/-- A command whose operands the spec defines. -/
def Instr.wf (i : Instr) : Bool :=
  match i with
  | .sel _ _ _ _ cond => cond != 15
  | .ld2 _ a0 a1 => Machine.dualOk a0 a1
  | .qadds _ mask _ _ _ => mask != 0
  | .qsubs _ mask _ _ _ => mask != 0
  | .qmulr _ mask _ _ _ => mask != 0
  | .qabss _ mask _ _ => mask != 0
  | .qnegs _ mask _ _ => mask != 0
  | .qmax _ mask _ _ _ => mask != 0
  | .qmin _ mask _ _ _ => mask != 0
  | .qshl _ mask _ _ _ => mask != 0
  | .faddq _ mask _ _ _ => mask != 0
  | .fsubq _ mask _ _ _ => mask != 0
  | .fmulq _ mask _ _ _ => mask != 0
  | .fmaq _ mask _ _ _ => mask != 0
  | .fcvtqfq _ mask _ _ => mask != 0
  | .fcvtfqq _ mask _ _ => mask != 0
  | .qmov _ mask _ _ => mask != 0
  | .ext _ fmt _ _ mask shift bx _ => Machine.extOk fmt mask shift bx
  | .acld _ _ _ dj => dj.ule 29
  | .acst _ _ _ dj => dj.ule 29
  | .br _ cond _ => cond != 15
  | .movcTo _ creg _ => creg != 6 && creg.ult 8
  | .movcFrom _ creg _ => creg.ult 10
  | .sapFrame _ fr => fr.fs != []
  | .sapReleasePoint edges => edges.length == 16
  | .leveeStrokeUpdate aux => aux.length == 8
  | .intakeRecordWrite _ _ words => words.length == 4
  | .fabricRequest _ _ r => wfReq r
  | .testNib idx => decide (idx.toNat < 272)
  | .mchRead fr => fr.type == 1 && wfFrame fr
  | .mchWrite fr => fr.type == 2 && wfFrame fr
  | .mchBroadcastWrite fr => fr.type == 2
  | .mchEnum fr => fr.type == 3
  | .mchEmpty fr => fr.type == 0
  | .pass2Done _ sections _ _ => sections.all fun x => x.data.length == x.stored.toNat
  | .brResp shifted => shifted.length == 48
  | .readSetDone gauges => wfGauges gauges
  | .voltageStepConfirm _ _ gauges => wfGauges gauges
  | .undefinedEncoding n word => (Machine.nibDecode n word).isNone
  | .powerGoodRise .. | .powerGoodFall .. | .resetNAssert .. | .scribeRelease .. | .rootLoss .. | .lidEvent ..
  | .strokeBoundary .. | .alignmentFinePullDone .. | .realign .. | .rulingEntryStart .. | .spillwayCut ..
  | .sluEntryComplete .. | .reliefPreparation .. | .reliefCommit .. | .reliefRotationStep ..
  | .reducedRulingSelect .. | .reducedRulingCommit .. | .add .. | .sub .. | .and .. | .or .. | .xor .. | .sll ..
  | .srl .. | .sra .. | .slli .. | .srli .. | .srai .. | .min .. | .max .. | .cmp .. | .addi .. | .movl ..
  | .movh .. | .fadd .. | .fsub .. | .fmul .. | .fmin .. | .fmax .. | .fabs .. | .fneg .. | .fcmp .. | .fcvtqf ..
  | .fcvtfq .. | .fma .. | .ld .. | .st .. | .ldq .. | .stq .. | .mpy .. | .mac .. | .msu .. | .bdnz .. | .rep ..
  | .halt .. | .reti .. | .nop .. | .fence .. | .irqclr .. | .interruptEntry .. | .timerMatch ..
  | .warnLeadReached .. | .nibGuardCycle .. | .quireSramLoadReturn .. | .postedStoreAck .. | .inkRowRewrite ..
  | .sapFsTimeout .. | .selectorEvaluation .. | .sapTxFetch .. | .laneSlotRead .. | .carrierPeriod .. | .ilimTrip ..
  | .retryWaitExpiry .. | .tryReset .. | .laneClr .. | .dcLatch .. | .senseFail .. | .senseRecover ..
  | .relaySettleExpiry .. | .loadSenseWindowEnd .. | .ical .. | .calibrationDone .. | .linkUp .. | .linkDown ..
  | .announceRepeat .. | .arpRequest .. | .neighbourSolicitation .. | .igmpQuery .. | .mldQuery ..
  | .queryResponseDue .. | .reportRepeat .. | .frameDropped .. | .gsfPacket .. | .rtpPacket .. | .flowEnable ..
  | .flowLaunch .. | .txPacketDrop .. | .jitterRelease .. | .historyExpiry .. | .tagPendAddr .. | .handover ..
  | .resync .. | .narrowStepExpiry .. | .refInputAbsent .. | .triadAdvance .. | .tbSet .. | .tbAdj .. | .ptpSync ..
  | .ptpFollowUp .. | .ptpAnnounce .. | .ptpDelayMessage .. | .announceReceiptTimeout .. | .syncTimeout ..
  | .pulseEdge .. | .pulseWidthEnd .. | .pulseArm .. | .pulseDisarm .. | .captureEdge .. | .capPop ..
  | .fabricResponse .. | .tideExpiry .. | .gateDrained .. | .gateForceDrain .. | .remap .. | .containmentAction ..
  | .chainTrigger .. | .sluStart .. | .sluStop .. | .descriptorFetch .. | .descriptorComplete .. | .chainDryEnd ..
  | .flipArm .. | .flipDisarm .. | .scrubGo .. | .scrubStop .. | .scrubWord .. | .patrolStart ..
  | .rowRepairCommit .. | .scribeMapRewrite .. | .lockstepMismatch .. | .mfKick .. | .aliveToggle ..
  | .healthFail .. | .run .. | .poise .. | .reload .. | .testFull .. | .testCancel .. | .nibTestComplete ..
  | .fullSelftestComplete .. | .flashInitDone .. | .pass1Done .. | .validationDone .. | .tailSweep .. | .descriptorRewrite ..
  | .flashErase .. | .flashProgram .. | .flashRetry .. | .flashOpComplete .. | .imageReadDone ..
  | .imageReadRetry .. | .mchForward .. | .mchCrcFail .. | .mchOrphan .. | .mchCommandDone .. | .idcode ..
  | .samplePreload .. | .bypass .. | .brChal .. | .brStat .. | .extest .. | .blotDone .. | .readSetStart ..
  | .ledgerSnapshot .. | .registerWrite .. | .registerRead .. | .sluiceGateOpen .. | .resetNRelease ..
  | .referenceEdge .. | .ptpMessageDue .. | .stateDigestSnapshot .. | .breachResponseVerified .. | .signerRevoke ..
  | .flashDqsTimeout .. | .mchUnalignedCadence .. => true

end Sys2Proof
end

