-- ==== Sys2Proof/Safety.lean ====
section
/-! DEFINITION. The terms in which claims are stated: what may differ between two states, what an instruction of a nib
starts from and what it leaves under way, and the invariant of every step. -/

namespace Sys2Proof.Machine

/-! ### What differs between two states -/

/-- Two states agree but for registers, and every register outside `l` reads as before. -/
def OnlyRegs (l : List Nat) (s t : State) : Prop := t.withRegs s.regs = s ∧ ∀ a, a ∉ l → t.reg a = s.reg a

/-- Two states agree but for nib `n`. -/
def OnlyNib (n : Nat) (s t : State) : Prop := t.withNibs s.nibs = s ∧ ∀ m, m ≠ n → t.nib m = s.nib m

/-- The sticky status bit of an event source is set (R578). -/
def State.hasEvt (s : State) (e : Evt) : Prop := bitOf (s.reg e.reg) e.bit = true

/-- Every stored byte outside `l` reads as before. -/
def OnlyBytes (l : List Nat) (s t : State) : Prop := ∀ a, a ∉ l → t.byte a = s.byte a

/-- The alignment stroke in hand, with its lengthening and the number of the next stroke (R57). -/
def Align.isCoarse (a : Align) : Option (Fin 4 × Stroke) :=
  match a with
  | .coarse j m => some (j, m)
  | _ => none

/-! ### The nib's instructions -/

/-- The nib on which an instruction of the nib's set issues; `none` for every other command. -/
def nibOf (i : Instr) : Option NibId :=
  match i with
  | .add n _ _ _ _ | .sub n _ _ _ _ | .and n _ _ _ _ | .or n _ _ _ _ | .xor n _ _ _ _ => some n
  | .sll n _ _ _ _ | .srl n _ _ _ _ | .sra n _ _ _ _ | .slli n _ _ _ _ | .srli n _ _ _ _ | .srai n _ _ _ _ => some n
  | .min n _ _ _ _ | .max n _ _ _ _ | .sel n _ _ _ _ | .cmp n _ _ | .addi n _ _ _ _ | .movl n _ _ | .movh n _ _ => some n
  | .fadd n _ _ _ | .fsub n _ _ _ | .fmul n _ _ _ | .fmin n _ _ _ | .fmax n _ _ _ | .fabs n _ _ | .fneg n _ _ => some n
  | .fcmp n _ _ _ | .fcvtqf n _ _ | .fcvtfq n _ _ | .fma n _ _ _ => some n
  | .ld n _ _ _ | .st n _ _ _ _ | .ldq n _ _ _ | .stq n _ _ _ _ | .ld2 n _ _ => some n
  | .qadds n _ _ _ _ | .qsubs n _ _ _ _ | .qmulr n _ _ _ _ | .qabss n _ _ _ | .qnegs n _ _ _ | .qmax n _ _ _ _ => some n
  | .qmin n _ _ _ _ | .qshl n _ _ _ _ | .faddq n _ _ _ _ | .fsubq n _ _ _ _ | .fmulq n _ _ _ _ | .fmaq n _ _ _ _ => some n
  | .fcvtqfq n _ _ _ | .fcvtfqq n _ _ _ | .qmov n _ _ _ => some n
  | .mpy n _ _ _ _ | .mac n _ _ _ _ | .msu n _ _ _ _ | .ext n _ _ _ _ _ _ _ | .acld n _ _ _ | .acst n _ _ _ => some n
  | .br n _ _ | .bdnz n _ _ | .rep n _ | .halt n | .reti n | .nop n | .fence n => some n
  | .movcTo n _ _ | .movcFrom n _ _ | .irqclr n _ => some n
  | _ => none

/-- The nib with its pipeline one cycle on, about to fetch the word at its program counter (R158). -/
def State.toFetch (n : NibId) (s : State) : State := s.setNib n { (s.nib n).advance with last := (s.nib n).pc }

/-- A slice runs on the nib before its deadline, nothing stalls it, and the word `w` is fetched at its program counter
without an uncorrectable error: the body acts on `s1` (R110, R122, R123). -/
def FetchesWord (n : NibId) (w : Word) (s s1 : State) : Prop :=
  s.issues n = true ∧ (s.toFetch n).fetchWord n = ((w, false), s1)

/-- The word fetched is one that the encoding tables give to `i` (R129). -/
def Fetches (n : NibId) (i : Instr) (s s1 : State) : Prop := ∃ w, nibDecode n w = some i ∧ FetchesWord n w s s1

/-- The instruction acts on nib `n` alone: it sends the results `r` on their way, changes the nib as `f` says, and the
next instruction is the one in order (R110, R151). -/
def Sends (n : NibId) (r : List (Nat × Landing)) (f : Nib → Nib) (s1 t : State) : Prop :=
  OnlyNib n s1 t ∧ t.nib n = (f { s1.nib n with flight := (s1.nib n).flight ++ r }).next

/-- `k` advancing cycles. -/
def Nib.after (x : Nib) : Nat → Nib
  | 0 => x
  | k + 1 => x.advance.after k

/-- An S register result under way: readable as data after `l` cycles, at address formation one cycle later (R158). -/
def regResult (b : Bool) (l : Nat) (r : BitVec 6) (v : PVal) : List (Nat × Landing) :=
  [(l, .data b r v), (l + 1, .addr b r v)]

/-- An accumulator lane result under way (R158). -/
def accResult (r : BitVec 3) (v : AccVal) : List (Nat × Landing) := [(1, .acMac r v), (3, .acExt r v)]

/-- Sticky fields of FL under way. -/
def stickyResult (b : Bool) (l : Nat) (m : BitVec 16) : List (Nat × Landing) := if m = 0 then [] else [(l, .sticky b m)]

/-- What an integer instruction does: the result and its poison go to Sd after one cycle, NZCV and FP to FL when F is
set; nothing else changes. -/
def IntDone (n : NibId) (f : Bool) (sd : BitVec 6) (v : PVal) (fl : BitVec 4) (s1 t : State) : Prop :=
  let x := s1.nib n
  Sends n (regResult x.bank 1 sd v ++ if f then [(1, .flags x.bank fl v.psn)] else []) id s1 t ∧
  (t.nib n).advance.rs sd = v ∧
  (f = true → (t.nib n).advance.cur.fl = putFlags x.advance.cur.fl fl v.psn) ∧
  (f = false → (t.nib n).advance.cur.fl = x.advance.cur.fl)

/-- What a scalar binary32 instruction does: the result and its sticky fields land after three cycles. -/
def FloatDone (n : NibId) (dd : BitVec 5) (v : PVal) (m : BitVec 16) (s1 t : State) : Prop :=
  let x := s1.nib n
  Sends n (regResult x.bank 3 (dd.setWidth 6) v ++ stickyResult x.bank 3 m) id s1 t ∧
  ((t.nib n).after 3).rd dd = v

/-- What a quad instruction does: lanes whose mask bit is 1 take their results after `l` cycles, with their poison
and their sticky fields; the other lanes take nothing. -/
def QuadDone (n : NibId) (l : Nat) (mask : BitVec 4) (qd : BitVec 3) (v : Nat → PVal) (m : Nat → BitVec 16) (s1 t : State) : Prop :=
  let x := s1.nib n
  Sends n ([0, 1, 2, 3].flatMap fun k =>
    if mask.getLsbD k then regResult x.bank l (regQ qd k) (v k) ++ stickyResult x.bank l (m k) else []) id s1 t

/-- The word at an SRAM word's address needs no correction and reports nothing: it reads clean, or as poison that was
stored (R559). -/
def Quiet (s : State) (a : Nat) : Prop := (s.peek a).row = .clean ∨ (s.peek a).row = .poisoned

/-- A word of data RAM on its way to a register, with its poison (R106, R158). -/
def loadResult (s : State) (b : Bool) (d : BitVec 6) (a : Nat) : List (Nat × Landing) :=
  regResult b 3 d ⟨(s.rawWord a).setWidth 32, decide ((s.peek a).row = .poisoned)⟩

/-- Pk on its way to its next address (R100, R158). -/
def moveP (x : Nib) (k : BitVec 3) : List (Nat × Landing) :=
  [(1, .data x.bank (regP k) (x.nextAddr k)), (1, .addr x.bank (regP k) (x.nextAddr k))]

/-- The nearest Q1.31 word of an exact integer, and the SV that it sets when the integer has none (R95, R145). -/
def satQ (x : Int) : Word := BitVec.ofInt 32 (max (-2 ^ 31) (min (2 ^ 31 - 1) x))
def svQ (x : Int) : BitVec 16 := if -2 ^ 31 ≤ x ∧ x ≤ 2 ^ 31 - 1 then 0 else 0x10

/-- The nearest accumulator value of an exact integer, and whether it has one (R94). -/
def satAcc (x : Int) : BitVec 72 := BitVec.ofInt 72 (max (-2 ^ 71) (min (2 ^ 71 - 1) x))
abbrev fitsAcc (x : Int) : Prop := -2 ^ 71 ≤ x ∧ x ≤ 2 ^ 71 - 1

/-! ### The invariant -/

/-- What every step keeps: the canonical form of memory. -/
def Inv (s : State) : Prop := Memory.wf s.mem = true

end Sys2Proof.Machine
end

