-- ==== Sys2Proof/Certificates/Slice0/Obligations.lean ====
section
/-! DEFINITION. What is claimed of the model: statements for the provers, from the numbered rules of spec/. -/

open Sys2Proof Sys2Proof.Machine

/-! ### The nib's instruction set -/

/-- Scalar integer instructions with two registers (R133): each goes on to a next state in which Sd holds the result after one
cycle, poisoned when a source is, and FL holds Z, N, C, V and FP when F is set. Scalar integer instructions with an immediate
(R133, R134, R135). CMP writes the flags of Sa − Sb and no register; SEL takes Sa or Sb by its condition, and traps with
TRAP_POISON on a tested FL whose FP is set (R109, R136). -/
def Obligations.IntegerResults : Prop :=
  (∀ (n : NibId) (f : Bool) (sd sa sb : BitVec 6) (s s1 : State),
      let a := ((s1.nib n).rs sa).v
      let b := ((s1.nib n).rs sb).v
      let p := ((s1.nib n).rs sa).psn || ((s1.nib n).rs sb).psn
      let k := b.toNat % 32
      (Fetches n (.add n f sd sa sb) s s1 → ∃ t, exec (.add n f sd sa sb) s = .next t ∧ IntDone n f sd ⟨a + b, p⟩
        (nzcv (a + b) (decide (2 ^ 32 ≤ a.toNat + b.toNat)) (decide (a.toInt + b.toInt ≠ (a + b).toInt))) s1 t) ∧
      (Fetches n (.sub n f sd sa sb) s s1 → ∃ t, exec (.sub n f sd sa sb) s = .next t ∧ IntDone n f sd ⟨a - b, p⟩
        (nzcv (a - b) (decide (b.toNat ≤ a.toNat)) (decide (a.toInt - b.toInt ≠ (a - b).toInt))) s1 t) ∧
      (Fetches n (.and n f sd sa sb) s s1 →
        ∃ t, exec (.and n f sd sa sb) s = .next t ∧ IntDone n f sd ⟨a &&& b, p⟩ (nzcv (a &&& b) false false) s1 t) ∧
      (Fetches n (.or n f sd sa sb) s s1 →
        ∃ t, exec (.or n f sd sa sb) s = .next t ∧ IntDone n f sd ⟨a ||| b, p⟩ (nzcv (a ||| b) false false) s1 t) ∧
      (Fetches n (.xor n f sd sa sb) s s1 →
        ∃ t, exec (.xor n f sd sa sb) s = .next t ∧ IntDone n f sd ⟨a ^^^ b, p⟩ (nzcv (a ^^^ b) false false) s1 t) ∧
      (Fetches n (.sll n f sd sa sb) s s1 → ∃ t, exec (.sll n f sd sa sb) s = .next t ∧ IntDone n f sd ⟨a <<< k, p⟩
        (nzcv (a <<< k) (decide (k ≠ 0) && a.getLsbD (32 - k)) false) s1 t) ∧
      (Fetches n (.srl n f sd sa sb) s s1 → ∃ t, exec (.srl n f sd sa sb) s = .next t ∧ IntDone n f sd ⟨a >>> k, p⟩
        (nzcv (a >>> k) (decide (k ≠ 0) && a.getLsbD (k - 1)) false) s1 t) ∧
      (Fetches n (.sra n f sd sa sb) s s1 → ∃ t, exec (.sra n f sd sa sb) s = .next t ∧
        IntDone n f sd ⟨a.sshiftRight k, p⟩
        (nzcv (a.sshiftRight k) (decide (k ≠ 0) && a.getLsbD (k - 1)) false) s1 t) ∧
      (Fetches n (.min n f sd sa sb) s s1 → ∃ t, exec (.min n f sd sa sb) s = .next t ∧
        ∃ m, m.toInt = min a.toInt b.toInt ∧ IntDone n f sd ⟨m, p⟩ (nzcv m false false) s1 t) ∧
      (Fetches n (.max n f sd sa sb) s s1 → ∃ t, exec (.max n f sd sa sb) s = .next t ∧
        ∃ m, m.toInt = max a.toInt b.toInt ∧ IntDone n f sd ⟨m, p⟩ (nzcv m false false) s1 t)) ∧
  (∀ (n : NibId) (f : Bool) (sd sa : BitVec 6) (sh : BitVec 5) (imm14 : BitVec 14) (imm16 : BitVec 16) (s s1 : State),
      let a := ((s1.nib n).rs sa).v
      let p := ((s1.nib n).rs sa).psn
      let d := (s1.nib n).rs sd
      let k := sh.toNat
      let i := imm14.signExtend 32
      (Fetches n (.slli n f sd sa sh) s s1 → ∃ t, exec (.slli n f sd sa sh) s = .next t ∧ IntDone n f sd ⟨a <<< k, p⟩
        (nzcv (a <<< k) (decide (k ≠ 0) && a.getLsbD (32 - k)) false) s1 t) ∧
      (Fetches n (.srli n f sd sa sh) s s1 → ∃ t, exec (.srli n f sd sa sh) s = .next t ∧ IntDone n f sd ⟨a >>> k, p⟩
        (nzcv (a >>> k) (decide (k ≠ 0) && a.getLsbD (k - 1)) false) s1 t) ∧
      (Fetches n (.srai n f sd sa sh) s s1 →
        ∃ t, exec (.srai n f sd sa sh) s = .next t ∧ IntDone n f sd ⟨a.sshiftRight k, p⟩
        (nzcv (a.sshiftRight k) (decide (k ≠ 0) && a.getLsbD (k - 1)) false) s1 t) ∧
      (Fetches n (.addi n f sd sa imm14) s s1 → ∃ t, exec (.addi n f sd sa imm14) s = .next t ∧ IntDone n f sd ⟨a + i, p⟩
        (nzcv (a + i) (decide (2 ^ 32 ≤ a.toNat + i.toNat)) (decide (a.toInt + i.toInt ≠ (a + i).toInt))) s1 t) ∧
      (Fetches n (.movl n sd imm16) s s1 →
        ∃ t, exec (.movl n sd imm16) s = .next t ∧ IntDone n false sd ⟨imm16.signExtend 32, false⟩ 0 s1 t) ∧
      (Fetches n (.movh n sd imm16) s s1 → ∃ t, exec (.movh n sd imm16) s = .next t ∧
        IntDone n false sd ⟨BitVec.ofNat 32 (imm16.toNat * 65536 + d.v.toNat % 65536), d.psn⟩ 0 s1 t)) ∧
  (∀ (n : NibId) (sd sa sb : BitVec 6) (c : BitVec 4) (s s1 : State),
      let x := s1.nib n
      let a := (x.rs sa).v
      let b := (x.rs sb).v
      let p := (x.rs sa).psn || (x.rs sb).psn
      let fl := x.cur.fl
      (Fetches n (.cmp n sa sb) s s1 → ∃ t, exec (.cmp n sa sb) s = .next t ∧
        Sends n [(1, .flags x.bank (nzcv (a - b) (decide (b.toNat ≤ a.toNat)) (decide (a.toInt - b.toInt ≠ (a - b).toInt))) p)]
          id s1 t) ∧
      (c = 14 → Fetches n (.sel n sd sa sb c) s s1 →
        ∃ t, exec (.sel n sd sa sb c) s = .next t ∧ IntDone n false sd ⟨a, p⟩ 0 s1 t) ∧
      (c.toNat < 14 → fl.getLsbD 9 = false → Fetches n (.sel n sd sa sb c) s s1 →
        ∃ t, exec (.sel n sd sa sb c) s = .next t ∧
        IntDone n false sd ⟨if condTrue c fl then a else b, p⟩ 0 s1 t) ∧
      (c.toNat < 14 → fl.getLsbD 9 = true → Fetches n (.sel n sd sa sb c) s s1 →
        exec (.sel n sd sa sb c) s = .next (s1.trap n 3)))

/-- The condition codes of R136: each of the 14 conditions is true exactly when its flags say so, AL always is and never
traps, code 15 is undefined, and a tested FL whose FP is 1 raises TRAP_POISON. -/
def Obligations.ConditionCodes : Prop :=
  ∀ (fl : BitVec 16),
    let z := fl.getLsbD 0
    let n := fl.getLsbD 1
    let c := fl.getLsbD 2
    let v := fl.getLsbD 3
    (condTrue 0 fl = true ↔ z = true) ∧ (condTrue 1 fl = true ↔ z = false) ∧
    (condTrue 2 fl = true ↔ c = true) ∧ (condTrue 3 fl = true ↔ c = false) ∧
    (condTrue 4 fl = true ↔ n = true) ∧ (condTrue 5 fl = true ↔ n = false) ∧
    (condTrue 6 fl = true ↔ v = true) ∧ (condTrue 7 fl = true ↔ v = false) ∧
    (condTrue 8 fl = true ↔ c = true ∧ z = false) ∧ (condTrue 9 fl = true ↔ c = false ∨ z = true) ∧
    (condTrue 10 fl = true ↔ n = v) ∧ (condTrue 11 fl = true ↔ n ≠ v) ∧
    (condTrue 12 fl = true ↔ z = false ∧ n = v) ∧ (condTrue 13 fl = true ↔ z = true ∨ n ≠ v) ∧
    condTrue 14 fl = true ∧ condTrap 14 fl = none ∧ condTrap 15 fl = some 4 ∧
    (∀ k : BitVec 4, k.toNat < 14 → condTrap k fl = if fl.getLsbD 9 then some 3 else none)

/-- Scalar binary32 instructions (R137): each goes on to a next state in which the result of binary32 arithmetic, poisoned
when a source is, and its sticky fields land after three cycles; FABS and FNEG give a word the sign asked for, with the one
NaN and with subnormal numbers read as zero. Where a clause goes beyond the words of the rules, it is the model's choice: log
entries 12 and 13. -/
def Obligations.FloatResults : Prop :=
  ∀ (n : NibId) (dd da db : BitVec 5) (s s1 : State),
    let a := ((s1.nib n).rd da).v
    let b := ((s1.nib n).rd db).v
    let d := ((s1.nib n).rd dd).v
    let pa := ((s1.nib n).rd da).psn
    let p := pa || ((s1.nib n).rd db).psn
    let two (i : Instr) (r : QRes) : Prop :=
      Fetches n i s s1 → ∃ t, exec i s = .next t ∧ FloatDone n dd ⟨r.w, p⟩ r.st s1 t
    let one (i : Instr) (r : QRes) : Prop :=
      Fetches n i s s1 → ∃ t, exec i s = .next t ∧ FloatDone n dd ⟨r.w, pa⟩ r.st s1 t
    two (.fadd n dd da db) (f32Add a b).q ∧ two (.fsub n dd da db) (f32Sub a b).q ∧
    two (.fmul n dd da db) (f32Mul a b).q ∧ two (.fcmp n dd da db) (f32Cmp a b).q ∧
    two (.fmin n dd da db) ⟨f32MinMax false a b, 0⟩ ∧ two (.fmax n dd da db) ⟨f32MinMax true a b, 0⟩ ∧
    one (.fabs n dd da) ⟨f32Signed a false, 0⟩ ∧ one (.fneg n dd da) ⟨f32Signed a (!a.getLsbD 31), 0⟩ ∧
    one (.fcvtqf n dd da) ⟨q31ToF32 a, 0⟩ ∧ one (.fcvtfq n dd da) (f32ToQ31 a).q ∧
    (Fetches n (.fma n dd da db) s s1 → ∃ t, exec (.fma n dd da db) s = .next t ∧
      FloatDone n dd ⟨(f32Fma d a b).w, ((s1.nib n).rd dd).psn || p⟩ (f32Fma d a b).q.st s1 t) ∧
    (∀ g, f32Signed a g = if 255 = a.toNat / 2 ^ 23 % 256 ∧ a.toNat % 2 ^ 23 ≠ 0 then 0x7FC00000
      else if a.toNat / 2 ^ 23 % 256 = 0 then (if g then 0x80000000 else 0)
      else BitVec.ofNat 32 (a.toNat % 2 ^ 31 + if g then 2 ^ 31 else 0))

/-- The rounding of RMODE (R95): to nearest with ties to even for 0 and 3, towards minus infinity, towards zero. -/
def Obligations.RoundingModes : Prop :=
  ∀ (x : Int) (k : Nat),
    let u : Int := 2 ^ k
    (∀ m : BitVec 2, m = 0 ∨ m = 3 →
      let r := roundMode m x k
      2 * (x - r * u).natAbs ≤ u.natAbs ∧ (2 * (x - r * u).natAbs = u.natAbs → r % 2 = 0)) ∧
    (roundMode 1 x k * u ≤ x ∧ x < (roundMode 1 x k + 1) * u) ∧
    ((0 ≤ x → roundMode 2 x k * u ≤ x ∧ x < (roundMode 2 x k + 1) * u) ∧
      (x ≤ 0 → x ≤ roundMode 2 x k * u ∧ (roundMode 2 x k - 1) * u < x))

/-- Quad arithmetic (R144, R145): every lane whose mask bit is 1 takes its result after 2 or 3 cycles, poisoned by its own
sources; saturation sets SV; the other lanes take nothing. Where a clause goes beyond the words of the rules, it is the
model's choice: log entry 12. -/
def Obligations.QuadResults : Prop :=
  ∀ (n : NibId) (mask : BitVec 4) (qd qa : BitVec 3) (b : QSrc) (s s1 : State),
    let x := s1.nib n
    let a := fun l => (x.rq qa l).v.toInt
    let c := fun l => (x.src b l).v.toInt
    let aw := fun l => (x.rq qa l).v
    let cw := fun l => (x.src b l).v
    let d := fun l => x.rq qd l
    let pa := fun l => (x.rq qa l).psn
    let pb := fun l => (x.src b l).psn
    let p2 := fun l => pa l || pb l
    let goes (i : Instr) (lat : Nat) (v : Nat → PVal) (m : Nat → BitVec 16) : Prop :=
      Fetches n i s s1 → ∃ t, exec i s = .next t ∧ QuadDone n lat mask qd v m s1 t
    let sat (i : Instr) (lat : Nat) (p : Nat → Bool) (r : Nat → Int) : Prop :=
      goes i lat (fun l => ⟨satQ (r l), p l⟩) (fun l => svQ (r l))
    let flt (i : Instr) (p : Nat → Bool) (r : Nat → QRes) : Prop :=
      goes i 3 (fun l => ⟨(r l).w, p l⟩) (fun l => (r l).st)
    sat (.qadds n mask qd qa b) 2 p2 (fun l => a l + c l) ∧
    sat (.qsubs n mask qd qa b) 2 p2 (fun l => a l - c l) ∧
    sat (.qmulr n mask qd qa b) 3 p2 (fun l => roundMode x.cur.rmode (a l * c l) 31) ∧
    sat (.qabss n mask qd qa) 2 pa (fun l => ((a l).natAbs : Int)) ∧
    sat (.qnegs n mask qd qa) 2 pa (fun l => -(a l)) ∧
    goes (.qmax n mask qd qa b) 2 (fun l => ⟨if a l ≤ c l then cw l else aw l, p2 l⟩) (fun _ => 0) ∧
    goes (.qmin n mask qd qa b) 2 (fun l => ⟨if a l ≤ c l then aw l else cw l, p2 l⟩) (fun _ => 0) ∧
    sat (.qshl n mask qd qa b) 3 p2 (fun l =>
      let k := ((cw l).setWidth 6).toInt
      if 0 ≤ k then a l * 2 ^ k.toNat else roundMode x.cur.rmode (a l) (-k).toNat) ∧
    goes (.qmov n mask qd b) 2 (fun l => x.src b l) (fun _ => 0) ∧
    flt (.faddq n mask qd qa b) p2 (fun l => (f32Add (aw l) (cw l)).q) ∧
    flt (.fsubq n mask qd qa b) p2 (fun l => (f32Sub (aw l) (cw l)).q) ∧
    flt (.fmulq n mask qd qa b) p2 (fun l => (f32Mul (aw l) (cw l)).q) ∧
    flt (.fmaq n mask qd qa b) (fun l => p2 l || (d l).psn) (fun l => (f32Fma (d l).v (aw l) (cw l)).q) ∧
    flt (.fcvtqfq n mask qd qa) pa (fun l => ⟨q31ToF32 (aw l), 0⟩) ∧
    flt (.fcvtfqq n mask qd qa) pa (fun l => (f32ToQ31 (aw l)).q)

/-- QMAC (R92 to R94, R107, R146, R147): each lane of AC(X) takes the doubled product, added to or subtracted from its
previous value, saturated to 72 bits with AV; a parallel load goes on beside it, through Pk with its next address, and a bad
address of it traps. Where a clause goes beyond the words of the rules, it is the model's choice: log entries 12 and 14. -/
def Obligations.AccumulateResults : Prop :=
  ∀ (n : NibId) (ax : Bool) (qa : BitVec 3) (b : QSrc) (ld : ParLoad) (s s1 : State),
    let x := s1.nib n
    let r := fun l => BitVec.ofNat 3 ((if ax then 4 else 0) + l)
    let old := fun l => x.acMac (r l).toNat
    let prod := fun l => 2 * ((x.rq qa l).v.toInt * (x.src b l).v.toInt)
    let p := fun l => (x.rq qa l).psn || (x.src b l).psn
    let goes (i : Instr) (v : Nat → Int) (q : Nat → Bool) (more : List (Nat × Landing)) (f : Nib → Nib) : Prop :=
      Fetches n i s s1 → ∃ t, exec i s = .next t ∧ Sends n (([0, 1, 2, 3].flatMap fun l =>
        accResult (r l) ⟨satAcc (v l), q l⟩ ++ stickyResult x.bank 1 (if fitsAcc (v l) then 0 else 0x20)) ++ more) f s1 t
    let each3 (more : List (Nat × Landing)) (f : Nib → Nib) : Prop :=
      goes (.mpy n ax qa b ld) prod p more f ∧
      goes (.mac n ax qa b ld) (fun l => (old l).v.toInt + prod l) (fun l => p l || (old l).psn) more f ∧
      goes (.msu n ax qa b ld) (fun l => (old l).v.toInt - prod l) (fun l => p l || (old l).psn) more f
    let traps (c : Nat) : Prop :=
      ∀ i ∈ [Instr.mpy n ax qa b ld, .mac n ax qa b ld, .msu n ax qa b ld], Fetches n i s s1 →
        exec i s = .next (s1.trap n c)
    (ld = .none → each3 [] id) ∧
    (∀ d k, ld = .word d k →
      (∀ c, accessAt n (x.ra (regP k)) 4 = .bad c → traps c) ∧
      (∀ a, accessAt n (x.ra (regP k)) 4 = .own a → Quiet s1 a →
        each3 (moveP x k ++ loadResult s1 x.bank (d.setWidth 6) a) id) ∧
      (∀ a, accessAt n (x.ra (regP k)) 4 = .quire a →
        each3 (moveP x k) (fun y => { y with loads := y.loads ++ [[⟨a, d.setWidth 6⟩]] }))) ∧
    (∀ d k, ld = .quad d k →
      (∀ c, accessAt n (x.ra (regP k)) 16 = .bad c → traps c) ∧
      (∀ a, accessAt n (x.ra (regP k)) 16 = .own a → (∀ l < 4, Quiet s1 (a + 4 * l)) →
        each3 (moveP x k ++ [0, 1, 2, 3].flatMap fun l => loadResult s1 x.bank (regQ d l) (a + 4 * l)) id) ∧
      (∀ a, accessAt n (x.ra (regP k)) 16 = .quire a →
        each3 (moveP x k) (fun y => { y with loads := y.loads ++ [[0, 1, 2, 3].map fun l => ⟨a + 4 * l, regQ d l⟩] })))

/-- EXT, ACLD and ACST (R95, R96, R104, R148, R149): EXT rounds, shifts and saturates each masked lane to Q1.31, or rounds it
to binary32, with BEXP and the clearing of lanes where asked; ACLD and ACST move a lane through three D registers. Where a
clause goes beyond the words of the rules, it is the model's choice: log entry 12. -/
def Obligations.ExtractAndMove : Prop :=
  ∀ (n : NibId) (fmt ax : Bool) (qd : BitVec 3) (mask : BitVec 4) (sh : BitVec 5) (bx clr : Bool) (lane : BitVec 2)
    (dj : BitVec 5) (s s1 : State),
    let x := s1.nib n
    let r := fun l => BitVec.ofNat 3 ((if ax then 4 else 0) + l)
    let a := fun l => x.acExt (r l).toNat
    let q := fun l => roundMode x.cur.rmode ((a l).v.toInt * 2 ^ (sh.toInt + 8).toNat) 40
    let w := fun l => if fmt then (f32Round ⟨decide ((a l).v.toInt < 0), (a l).v.toInt.natAbs, -63⟩).1 else satQ (q l)
    (Fetches n (.ext n fmt ax qd mask sh bx clr) s s1 → ∃ t, exec (.ext n fmt ax qd mask sh bx clr) s = .next t ∧
      Sends n ([0, 1, 2, 3].flatMap fun l =>
        if mask.getLsbD l then
          regResult x.bank 2 (regQ qd l) ⟨w l, (a l).psn⟩ ++ stickyResult x.bank 2 (if fmt then 0 else svQ (q l)) ++
          (if bx && !(a l).psn then [(3, .bexpMin (BitVec.ofNat 6 (rsb (w l))))] else []) ++
          (if clr then accResult (r l) ⟨0, false⟩ else [])
        else []) id s1 t) ∧
    (Fetches n (.acld n ax lane dj) s s1 → ∃ t, exec (.acld n ax lane dj) s = .next t ∧
        Sends n (accResult (r lane.toNat)
          ⟨BitVec.ofNat 72 ((x.rd (dj + 2)).v.toNat % 256 * 2 ^ 64 + (x.rd (dj + 1)).v.toNat * 2 ^ 32 + (x.rd dj).v.toNat),
            (x.rd dj).psn || (x.rd (dj + 1)).psn || (x.rd (dj + 2)).psn⟩) id s1 t) ∧
    (Fetches n (.acst n ax lane dj) s s1 → ∃ t, exec (.acst n ax lane dj) s = .next t ∧
        let v := a lane.toNat
        Sends n (regResult x.bank 2 (dj.setWidth 6) ⟨BitVec.ofNat 32 v.v.toNat, v.psn⟩ ++
          regResult x.bank 2 ((dj + 1).setWidth 6) ⟨BitVec.ofNat 32 (v.v.toNat / 2 ^ 32), v.psn⟩ ++
          regResult x.bank 2 ((dj + 2).setWidth 6) ⟨BitVec.ofInt 32 (v.v.toInt / 2 ^ 64), v.psn⟩) id s1 t)

/-- Where a load or store of the nib goes (R77, R102, R109, R119, R139, R140): the causes in their order, data RAM, quire
SRAM; and the address that each mode forms. Post-modification (R100, R101, R103): linear, circular with one correction, and
bit-reversed by the width that AMODE gives; a poisoned register of the computation poisons the new pointer (R109). -/
def Obligations.AddressFormation : Prop :=
  (∀ (n : Nat) (x : Nib) (k : BitVec 3) (dj : BitVec 5) (i : BitVec 12) (a : PVal) (align : Nat),
      let p := x.ra (regP k)
      let d := x.ra (dj.setWidth 6)
      x.effAddr k .plain = p ∧ x.effAddr k .post = p ∧
      x.effAddr k (.index dj) = ⟨p.v + d.v, p.psn || d.psn⟩ ∧
      x.effAddr k (.offset i) = ⟨p.v + i.signExtend 32 * 4, p.psn⟩ ∧
      let v := a.v.toNat
      let own := v < 0x10000
      let quire := 0x800000 ≤ v ∧ v < 0xA00000
      (a.psn = true → accessAt n a align = .bad 3) ∧
      (a.psn = false → ¬ own → ¬ quire → accessAt n a align = .bad 1) ∧
      (a.psn = false → own ∨ quire → v % align ≠ 0 → accessAt n a align = .bad 2) ∧
      (a.psn = false → own → v % align = 0 → accessAt n a align = .own (nibWin n + 0x10000 + v)) ∧
      (a.psn = false → quire → v % align = 0 → accessAt n a align = .quire (quireSram (quireOf n) + (v - 0x800000)))) ∧
  (∀ (x : Nib) (k : BitVec 3),
      let p := x.ra (regP k)
      let m := x.ra (regM k)
      let l := x.ra (regL k)
      let b := x.ra (regB k)
      let rev := x.cur.amodeA.getLsbD (8 + k.toNat)
      let psn := p.psn || m.psn || l.psn
      (rev = false → l.v = 0 → x.nextAddr k = ⟨p.v + m.v, psn⟩) ∧
      (rev = false → l.v ≠ 0 → (b.v + l.v).toNat ≤ (p.v + m.v).toNat → x.nextAddr k = ⟨p.v + m.v - l.v, psn || b.psn⟩) ∧
      (rev = false → l.v ≠ 0 → (p.v + m.v).toNat < (b.v + l.v).toNat → (p.v + m.v).toNat < b.v.toNat →
        x.nextAddr k = ⟨p.v + m.v + l.v, psn || b.psn⟩) ∧
      (rev = false → l.v ≠ 0 → (p.v + m.v).toNat < (b.v + l.v).toNat → b.v.toNat ≤ (p.v + m.v).toNat →
        x.nextAddr k = ⟨p.v + m.v, psn || b.psn⟩) ∧
      (rev = true →
        let w := brWidth x.cur.amodeA
        let sum := (revBits ((p.v - b.v).toNat / 4) w + revBits (m.v.toNat / 4) w) % 2 ^ w
        1 ≤ w ∧ w ≤ 16 ∧ x.nextAddr k = ⟨b.v + BitVec.ofNat 32 (4 * revBits sum w), p.psn || m.psn || b.psn⟩))

/-- Loads (R85, R106, R139 to R143): from data RAM whose words need no correction, the words as stored, poison included, land
after three cycles and memory stays as it is; from quire SRAM the core waits with the access noted; Pk takes its next address
where the form asks; a bad address traps. LD2 (R119, R142, R143): of two bad accesses the first cause in the order of R119
traps; two data RAM accesses both land, with one more cycle counted when they conflict; accesses to quire SRAM are noted in
order. Where a clause goes beyond the words of the rules, it is the model's choice: log entries 14 and 15. -/
def Obligations.Loads : Prop :=
  (∀ (n : NibId) (dd : BitVec 5) (qd p : BitVec 3) (mode : MemMode) (s s1 : State),
      let x := s1.nib n
      let ea := x.effAddr p mode
      let mod : List (Nat × Landing) := if mode = .post then moveP x p else []
      (∀ c, accessAt n ea 4 = .bad c → Fetches n (.ld n dd p mode) s s1 → exec (.ld n dd p mode) s = .next (s1.trap n c)) ∧
      (∀ c, accessAt n ea 16 = .bad c → Fetches n (.ldq n qd p mode) s s1 →
        exec (.ldq n qd p mode) s = .next (s1.trap n c)) ∧
      (∀ a, accessAt n ea 4 = .own a → Quiet s1 a → Fetches n (.ld n dd p mode) s s1 →
        ∃ t, exec (.ld n dd p mode) s = .next t ∧
        Sends n (mod ++ loadResult s1 x.bank (dd.setWidth 6) a) id s1 t ∧ OnlyBytes [] s1 t) ∧
      (∀ a, accessAt n ea 16 = .own a → (∀ l < 4, Quiet s1 (a + 4 * l)) → Fetches n (.ldq n qd p mode) s s1 →
        ∃ t, exec (.ldq n qd p mode) s = .next t ∧
        Sends n (mod ++ [0, 1, 2, 3].flatMap fun l => loadResult s1 x.bank (regQ qd l) (a + 4 * l)) id s1 t ∧
        OnlyBytes [] s1 t) ∧
      (∀ a, accessAt n ea 4 = .quire a → Fetches n (.ld n dd p mode) s s1 → ∃ t, exec (.ld n dd p mode) s = .next t ∧
        Sends n mod (fun y => { y with loads := y.loads ++ [[⟨a, dd.setWidth 6⟩]] }) s1 t) ∧
      (∀ a, accessAt n ea 16 = .quire a → Fetches n (.ldq n qd p mode) s s1 → ∃ t, exec (.ldq n qd p mode) s = .next t ∧
        Sends n mod (fun y => { y with loads := y.loads ++ [[0, 1, 2, 3].map fun l => ⟨a + 4 * l, regQ qd l⟩] }) s1 t)) ∧
  (∀ (n : NibId) (a0 a1 : DualAcc) (s s1 : State), Fetches n (.ld2 n a0 a1) s s1 →
      let x := s1.nib n
      let loc := fun (a : DualAcc) => accessAt n (x.ra (regP a.p)) (if a.quad then 16 else 4)
      let words := fun (a : DualAcc) (b : Nat) =>
        if a.quad then [0, 1, 2, 3].map fun l => (⟨b + 4 * l, regQ (a.dst.setWidth 3) l⟩ : QLoad) else [⟨b, a.dst.setWidth 6⟩]
      let mods := (if a0.pm then moveP x a0.p else []) ++ (if a1.pm then moveP x a1.p else [])
      let lands := fun (l : List QLoad) => l.flatMap fun q => loadResult s1 x.bank q.dst q.addr
      let bads := fun c => loc a0 = .bad c ∨ loc a1 = .bad c
      (bads 3 → exec (.ld2 n a0 a1) s = .next (s1.trap n 3)) ∧
      (¬ bads 3 → bads 1 → exec (.ld2 n a0 a1) s = .next (s1.trap n 1)) ∧
      (¬ bads 3 → ¬ bads 1 → bads 2 → exec (.ld2 n a0 a1) s = .next (s1.trap n 2)) ∧
      (∀ b c, loc a0 = .own b → loc a1 = .own c → (∀ q ∈ words a0 b ++ words a1 c, Quiet s1 q.addr) →
        let conflict := a0.quad = true ∨ a1.quad = true ∨ b / 4 % 4 = c / 4 % 4
        ∃ t, exec (.ld2 n a0 a1) s = .next t ∧
          (conflict → Sends n (mods ++ lands (words a0 b) ++ lands (words a1 c)) id (s1.stall n 1) t) ∧
          (¬ conflict → Sends n (mods ++ lands (words a0 b) ++ lands (words a1 c)) id s1 t)) ∧
      (∀ b c, loc a0 = .quire b → loc a1 = .quire c → ∃ t, exec (.ld2 n a0 a1) s = .next t ∧
        Sends n mods (fun y => { y with loads := y.loads ++ [words a0 b] ++ [words a1 c] }) s1 t) ∧
      (∀ b c, loc a0 = .own b → loc a1 = .quire c → (∀ q ∈ words a0 b, Quiet s1 q.addr) →
        ∃ t, exec (.ld2 n a0 a1) s = .next t ∧
          Sends n (mods ++ lands (words a0 b)) (fun y => { y with loads := y.loads ++ [words a1 c] }) s1 t) ∧
      (∀ b c, loc a0 = .quire b → loc a1 = .own c → (∀ q ∈ words a1 c, Quiet s1 q.addr) →
        ∃ t, exec (.ld2 n a0 a1) s = .next t ∧
          Sends n (mods ++ lands (words a1 c)) (fun y => { y with loads := y.loads ++ [words a0 b] }) s1 t))

/-- Stores (R85, R108, R139 to R141, R563): the words that the registers hold go to the stored bytes and to no other; Pk, BEXP
and SP take what the form asks; a store to quire SRAM is posted, and the seventeenth blocks the core; a bad address traps
without storing. The armed injection of R566 stays out by hypothesis, and so do words of quire SRAM that need a correction.
Where a clause goes beyond the words of the rules, it is the model's choice: log entry 15. -/
def Obligations.StoreResults : Prop :=
  ∀ (n : NibId) (ds : BitVec 5) (qs p : BitVec 3) (mode : MemMode) (bx : Bool) (s s1 : State),
    (∀ g < 21, s1.on (MEM_FLIP_STAT g) MEM_FLIP_STAT_ARMED = false) →
    let x := s1.nib n
    let ea := x.effAddr p mode
    let mod : List (Nat × Landing) := if mode = .post then moveP x p else []
    let v := x.rd ds
    let w := fun l => x.rq qs l
    let bex := fun (v : PVal) => if bx && !v.psn then [((3 : Nat), Landing.bexpMin (BitVec.ofNat 6 (rsb v.v)))] else []
    let bytes := fun a k => (List.range k).map (a + ·)
    let keeps := fun (t : State) (r : List (Nat × Landing)) (f : Nib → Nib) =>
      OnlyNib n s1 ((t.withMem s1.mem).withMarks s1.marks |>.withMir s1.mir |>.withRegs s1.regs |>.withGroups s1.groups) ∧
      t.nib n = (f { x with flight := x.flight ++ r }).next ∧ (∀ b, (∀ g < 21, b ≠ MEM_FLIP_STAT g) → t.reg b = s1.reg b)
    let holds := fun (t : State) a (v : PVal) => t.bytesLE a 4 = v.v.toNat
    (∀ c, accessAt n ea 4 = .bad c → Fetches n (.st n ds p mode bx) s s1 →
      exec (.st n ds p mode bx) s = .next (s1.trap n c)) ∧
    (∀ c, accessAt n ea 16 = .bad c → Fetches n (.stq n qs p mode bx) s s1 →
      exec (.stq n qs p mode bx) s = .next (s1.trap n c)) ∧
    (∀ a, accessAt n ea 4 = .own a → Fetches n (.st n ds p mode bx) s s1 →
      ∃ t, exec (.st n ds p mode bx) s = .next t ∧ holds t a v ∧
      (t.markAt a).poison = v.psn ∧ OnlyBytes (bytes a 4) s1 t ∧
      keeps t (mod ++ bex v ++ stickyResult x.bank 1 (if v.psn then 0x100 else 0)) id) ∧
    (∀ a, accessAt n ea 16 = .own a → Fetches n (.stq n qs p mode bx) s s1 → ∃ t, exec (.stq n qs p mode bx) s = .next t ∧
      (∀ l < 4, holds t (a + 4 * l) (w l) ∧ (t.markAt (a + 4 * l)).poison = (w l).psn) ∧ OnlyBytes (bytes a 16) s1 t ∧
      keeps t (mod ++ ([0, 1, 2, 3].flatMap fun l => bex (w l)) ++
        stickyResult x.bank 1 (if (w 0).psn || (w 1).psn || (w 2).psn || (w 3).psn then 0x100 else 0)) id) ∧
    (∀ a, accessAt n ea 4 = .quire a → x.posted < 16 → Quiet s1 (a / 8 * 8) → Fetches n (.st n ds p mode bx) s s1 →
      ∃ t, exec (.st n ds p mode bx) s = .next t ∧
      holds t a v ∧ OnlyBytes (bytes a 4) s1 t ∧
      keeps t (mod ++ bex v ++ stickyResult x.bank 1 (if v.psn then 0x100 else 0)) (fun y => { y with posted := y.posted + 1 })) ∧
    (∀ a, accessAt n ea 16 = .quire a → x.posted < 16 → Fetches n (.stq n qs p mode bx) s s1 →
      ∃ t, exec (.stq n qs p mode bx) s = .next t ∧
      (∀ l < 4, holds t (a + 4 * l) (w l)) ∧ OnlyBytes (bytes a 16) s1 t ∧
      keeps t (mod ++ ([0, 1, 2, 3].flatMap fun l => bex (w l)) ++
        stickyResult x.bank 1 (if (w 0).psn || (w 1).psn || (w 2).psn || (w 3).psn then 0x100 else 0))
        (fun y => { y with posted := y.posted + 1 })) ∧
    (∀ a, accessAt n ea 4 = .quire a → 16 ≤ x.posted → Fetches n (.st n ds p mode bx) s s1 →
      exec (.st n ds p mode bx) s = .next (s1.setNib n { x with blocked := some (.st ds p mode bx) })) ∧
    (∀ a, accessAt n ea 16 = .quire a → 16 ≤ x.posted → Fetches n (.stq n qs p mode bx) s s1 →
      exec (.stq n qs p mode bx) s = .next (s1.setNib n { x with blocked := some (.stq qs p mode bx) }))

/-- Branches, repeat, NOP and FENCE (R110, R150, R151, R152): BR and BDNZ leave two delay slots before their target, BDNZ
counts Dk down, REP makes the next instruction run N times, NOP does nothing, FENCE goes on at once while no posted store
waits and blocks the core otherwise. BR, BDNZ, REP, HALT and RETI trap in a delay slot (R151). The sequencing after an
instruction (R110, R151, R152): the address one on, wrapping at 8,191; after the second delay slot the target of a taken
branch; inside a repeat the same instruction until its iterations are done. -/
def Obligations.ControlFlow : Prop :=
  (∀ (n : NibId) (c : BitVec 4) (dk : BitVec 5) (target : BitVec 13) (count1 : BitVec 12) (s s1 : State),
      let x := s1.nib n
      let fl := x.cur.fl
      let branch := fun (f : List (Nat × Landing)) (tgt : Option (BitVec 13)) (t : State) =>
        OnlyNib n s1 t ∧ t.nib n = { x with flight := x.flight ++ f, pc := x.pc + 1, slots := 2, target := tgt }
      (x.slots = 0 → c = 14 ∨ (c.toNat < 14 ∧ fl.getLsbD 9 = false) → Fetches n (.br n c target) s s1 →
        ∃ t, exec (.br n c target) s = .next t ∧
        branch [] (if condTrue c fl then some target else none) t) ∧
      (x.slots = 0 → c.toNat < 14 → fl.getLsbD 9 = true → Fetches n (.br n c target) s s1 →
        exec (.br n c target) s = .next (s1.trap n 3)) ∧
      (x.slots = 0 → (x.rd dk).psn = false → Fetches n (.bdnz n dk target) s s1 →
        ∃ t, exec (.bdnz n dk target) s = .next t ∧
        branch (regResult x.bank 1 (dk.setWidth 6) ⟨(x.rd dk).v - 1, false⟩)
          (if (x.rd dk).v = 1 then none else some target) t) ∧
      (x.slots = 0 → (x.rd dk).psn = true → Fetches n (.bdnz n dk target) s s1 →
        exec (.bdnz n dk target) s = .next (s1.trap n 3)) ∧
      (x.slots = 0 → Fetches n (.rep n count1) s s1 → ∃ t, exec (.rep n count1) s = .next t ∧ OnlyNib n s1 t ∧
        (t.nib n).pc = x.pc + 1 ∧
          (t.nib n).cur = { x.cur with repc := BitVec.ofNat 13 (count1.toNat + 1), repAt := some (x.pc + 1) } ∧
        (t.nib n).bk (!x.bank) = x.bk (!x.bank) ∧ (t.nib n).flight = x.flight) ∧
      (Fetches n (.nop n) s s1 → ∃ t, exec (.nop n) s = .next t ∧ Sends n [] id s1 t) ∧
      (x.posted = 0 → Fetches n (.fence n) s s1 → ∃ t, exec (.fence n) s = .next t ∧ Sends n [] id s1 t) ∧
      (x.posted ≠ 0 → Fetches n (.fence n) s s1 → exec (.fence n) s = .next (s1.setNib n { x with blocked := some .fence }))) ∧
  (∀ (n : NibId) (c : BitVec 4) (dk : BitVec 5) (target : BitVec 13) (count1 : BitVec 12) (s s1 : State),
      (s1.nib n).slots ≠ 0 →
      ∀ i ∈ [Instr.br n c target, .bdnz n dk target, .rep n count1, .halt n, .reti n], Fetches n i s s1 →
        exec i s = .next (s1.trap n 4)) ∧
  (∀ (x : Nib),
      (x.cur.repAt = none → x.slots = 0 → x.next.pc = x.pc + 1 ∧ x.next.slots = 0) ∧
      (x.cur.repAt = none → 2 ≤ x.slots → x.next.pc = x.pc + 1 ∧ x.next.slots = x.slots - 1 ∧ x.next.target = x.target) ∧
      (x.cur.repAt = none → x.slots = 1 → x.next.slots = 0 ∧ x.next.target = none ∧
        (∀ a, x.target = some a → x.next.pc = a) ∧ (x.target = none → x.next.pc = x.pc + 1)) ∧
      (x.cur.repAt ≠ none → 2 ≤ x.cur.repc.toNat → x.next.pc = x.pc ∧ x.next.cur = { x.cur with repc := x.cur.repc - 1 }) ∧
      (x.cur.repAt ≠ none → x.cur.repc.toNat ≤ 1 →
        x.next.pc = x.pc + 1 ∧ x.next.cur = { x.cur with repc := 0, repAt := none }) ∧
      x.next.flight = x.flight ∧ x.next.bank = x.bank ∧ x.next.bk (!x.bank) = x.bk (!x.bank) ∧
      x.next.imask = x.imask ∧ x.next.irq = x.irq ∧ x.next.ac = x.ac ∧ x.next.acx = x.acx ∧ x.next.bexp = x.bexp ∧
      x.next.epc = x.epc ∧ x.next.loads = x.loads ∧ x.next.posted = x.posted)

/-- A result under way lands after its latency and no sooner, in the bank of its instruction, whatever earlier results land
with it; every other register of the nib is as it would be without it (R158, R161). -/
def Obligations.ResultsLand : Prop :=
  ∀ (x : Nib) (b : Bool) (l : Nat) (r : BitVec 6) (v : PVal), 1 ≤ l → l ≤ 3 →
    let y := { x with flight := x.flight ++ regResult b l r v }
    let s := fun (z : Nib) (k : BitVec 6) => SMap.get (fun _ => PVal.zero) (z.bk b).s k.toNat
    let sa := fun (z : Nib) (k : BitVec 6) => SMap.get (fun _ => PVal.zero) (z.bk b).sa k.toNat
    s (y.after l) r = v ∧ sa (y.after (l + 1)) r = v ∧
    (∀ k < l, s (y.after k) r = s (x.after k) r) ∧ (∀ k ≤ l, sa (y.after k) r = sa (x.after k) r) ∧
    (∀ k, ∀ q, q ≠ r → s (y.after k) q = s (x.after k) q ∧ sa (y.after k) q = sa (x.after k) q) ∧
    (∀ k, (y.after k).bk (!b) = (x.after k).bk (!b) ∧ (y.after k).ac = (x.after k).ac ∧
      (y.after k).bexp = (x.after k).bexp ∧ ((y.after k).bk b).fl = ((x.after k).bk b).fl)

/-- HALT (R89, R153): with no posted store outstanding the slice ends with END = 1 and the sticky fields of both banks go to
NIB_STICKY; otherwise the core waits. RETI (R120, R154): from the shadow bank back to the primary one at EPC; in the primary
bank it traps. Where a clause goes beyond the words of the rules, it is the model's choice: log entries 16 and 100. -/
def Obligations.SliceEndAndReturn : Prop :=
  ∀ (n : NibId) (s s1 : State), (s1.nib n).slots = 0 →
    let x := s1.nib n
    let y := x.drain
    (x.posted = 0 → Fetches n (.halt n) s s1 →
      ∃ t, exec (.halt n) s = .next t ∧ (t.nib n).run = false ∧ (t.nib n).ended = 1 ∧ (t.nib n).flight = [] ∧
      t.reg (NIB_STICKY n) = s1.reg (NIB_STICKY n) ||| stickyBits y.prim.fl ||| stickyBits y.shad.fl ∧
      (∀ a, a ≠ NIB_STICKY n → t.reg a = s1.reg a) ∧ (∀ m, m ≠ n.val → t.nib m = s1.nib m) ∧
      (t.entrySt x.entry).running = false ∧ t.mem = s1.mem ∧ (t.nib n).ac = y.ac ∧ (t.nib n).bexp = y.bexp) ∧
    (x.posted ≠ 0 → Fetches n (.halt n) s s1 → exec (.halt n) s = .next (s1.setNib n { x with blocked := some .halt })) ∧
    (x.bank = true → Fetches n (.reti n) s s1 →
      ∃ t, exec (.reti n) s = .next t ∧ OnlyNib n s1 t ∧ (t.nib n).bank = false ∧ (t.nib n).pc = y.epc ∧
      (t.nib n).shad = y.shad ∧ (t.nib n).prim.s = y.prim.s ∧ (t.nib n).prim.fl = y.prim.fl ∧
        (t.nib n).flight = y.flight) ∧
    (x.bank = false → Fetches n (.reti n) s s1 → exec (.reti n) s = .next (s1.trap n 4))

/-- Taking a trap of causes 1 to 4 (R119, R120, R121, R127): NIB_TRAP_CAUSE and NIB_TRAP_PC keep the first trap of the slice,
the quire's event and WHO bit set, and the shadow bank runs at the trap vector with EPC at the faulting instruction; in the
shadow bank the slice ends as a double trap. Words that spell no instruction trap with TRAP_ILLEGAL (R129, R130), the words of
the forms that R130, R136, R142, R143, R144, R148, R149 and R155 leave undefined among them. Where a clause goes beyond the
words of the rules, it is the model's choice: log entry 11. -/
def Obligations.Traps : Prop :=
  (∀ (n : NibId) (c : Nat) (s : State), 1 ≤ c → c ≤ 4 →
      let x := s.nib n
      let q := quireOf n
      let t := s.trap n c
      bitOf (t.reg (QRE_NIB_EVT_STATUS q)) 0 = true ∧ bitOf (t.reg (QRE_NIB_WHO0 q)) (nibInQuire n) = true ∧
      (s.fld (NIB_TRAP_CAUSE n) ⟨3, 0⟩ = 0 →
        t.fld (NIB_TRAP_CAUSE n) ⟨3, 0⟩ = c ∧ t.fld (NIB_TRAP_PC n) ⟨12, 0⟩ = x.pc.toNat ∧
        t.fld (NIB_TRAP_CAUSE n) ⟨31, 19⟩ = (if x.cur.repAt.isSome then x.cur.repc.toNat else 0)) ∧
      (s.fld (NIB_TRAP_CAUSE n) ⟨3, 0⟩ ≠ 0 →
        t.reg (NIB_TRAP_CAUSE n) = s.reg (NIB_TRAP_CAUSE n) ∧ t.reg (NIB_TRAP_PC n) = s.reg (NIB_TRAP_PC n)) ∧
      (x.bank = false → (t.nib n).bank = true ∧ (t.nib n).pc = x.trapVec ∧ (t.nib n).epc = x.pc ∧ (t.nib n).run = x.run ∧
        (t.nib n).prim = x.drain.prim ∧ (t.nib n).shad = x.drain.shad ∧ t.mem = s.mem ∧
        ∀ m, m ≠ n.val → t.nib m = s.nib m) ∧
      (x.bank = true → (t.nib n).run = false ∧ (t.nib n).ended = 3 ∧ bitOf (t.reg (QRE_NIB_EVT_STATUS q)) 1 = true ∧
        bitOf (t.reg (QRE_NIB_WHO1 q)) (nibInQuire n) = true ∧ (t.entrySt x.entry).tainted = true ∧ t.mem = s.mem)) ∧
  (∀ (n : NibId) (w : Word) (s s1 : State), FetchesWord n w s s1 →
      (nibDecode n w = none →
        exec (.undefinedEncoding n w) s = .next (s1.trap n 4) ∧ (s1.trap n 4).fld (NIB_TRAP_CNT n) ⟨31, 0⟩ ≠ 0) ∧
      (∀ i, nibEncode i = some w → i.wf = false → nibDecode n w = none))

/-- MOVC and IRQCLR (R105, R155, R156): the register that CREG names, the forms that trap, the poison rule; a read of BEXP
leaves 31, a write of TCMP arms TIMER. Where a clause goes beyond the words of the rules, it is the model's choice: log entry
100. -/
def Obligations.ControlRegisters : Prop :=
  ∀ (n : NibId) (creg : BitVec 4) (sa sd : BitVec 6) (clear : BitVec 3) (s s1 : State),
    let x := s1.nib n
    let v := x.rs sa
    let w := v.v.toNat
    let wr (r : List (Nat × Landing)) (f : Nib → Nib) : Prop :=
      Fetches n (.movcTo n creg sa) s s1 → ∃ t, exec (.movcTo n creg sa) s = .next t ∧ Sends n r f s1 t
    let rd (r : Word) (f : Nib → Nib) : Prop :=
      Fetches n (.movcFrom n creg sd) s s1 →
        ∃ t, exec (.movcFrom n creg sd) s = .next t ∧ Sends n (regResult x.bank 1 sd ⟨r, false⟩) f s1 t
    (creg = 7 → x.bank = false → Fetches n (.movcTo n creg sa) s s1 → exec (.movcTo n creg sa) s = .next (s1.trap n 4)) ∧
    (creg = 0 → wr [(1, .fl x.bank (BitVec.ofNat 16 (w % 1024) ||| if v.psn then 0x200 else 0))] id) ∧
    (1 ≤ creg.toNat ∧ creg.toNat ≤ 5 ∨ (creg = 7 ∧ x.bank = true) → v.psn = true → Fetches n (.movcTo n creg sa) s s1 →
      exec (.movcTo n creg sa) s = .next (s1.trap n 3)) ∧
    (v.psn = false →
      (creg = 1 → wr [(1, .amode x.bank (v.v &&& 0xFF1F)), (2, .amodeA x.bank (v.v &&& 0xFF1F))] id) ∧
      (creg = 2 → wr [(1, .rmode x.bank (BitVec.ofNat 2 w))] id) ∧
      (creg = 3 → wr [] (fun y => { y with imask := BitVec.ofNat 3 w })) ∧
      (creg = 4 → wr [] (fun y => { y with tcmp := v.v, armed := true })) ∧
      (creg = 5 → wr [(1, .bexp (BitVec.ofNat 6 w))] id) ∧
      (creg = 7 → x.bank = true → wr [(1, .epc (BitVec.ofNat 13 w))] id)) ∧
    (creg = 7 → x.bank = false → Fetches n (.movcFrom n creg sd) s s1 →
      exec (.movcFrom n creg sd) s = .next (s1.trap n 4)) ∧
    (creg = 0 → rd (BitVec.ofNat 32 x.cur.fl.toNat) id) ∧ (creg = 1 → rd x.cur.amode id) ∧
    (creg = 2 → rd (BitVec.ofNat 32 x.cur.rmode.toNat) id) ∧ (creg = 3 → rd (BitVec.ofNat 32 x.imask.toNat) id) ∧
    (creg = 4 → rd x.tcmp id) ∧
    (creg = 5 → rd (BitVec.ofNat 32 x.bexp.toNat) (fun y => { y with bexp := 31 })) ∧
    (creg = 6 → rd (BitVec.ofNat 32 x.cur.repc.toNat) id) ∧
    (creg = 7 → x.bank = true → rd (BitVec.ofNat 32 x.epc.toNat) id) ∧
    (creg = 8 → rd (BitVec.ofNat 32 x.irq.toNat) id) ∧
    (creg = 9 → rd (s1.nibCyc n) id) ∧
    (Fetches n (.irqclr n clear) s s1 →
      ∃ t, exec (.irqclr n clear) s = .next t ∧ Sends n [] (fun y => { y with irq := y.irq &&& ~~~ clear }) s1 t)

/-- An instruction word that is uncorrectable (R122): the slice ends with END = 3, EVT_NIB_IFETCH is raised and queued for
containment, the entry is tainted, and the instruction does nothing, whichever instruction it was to be. A nib that runs no
slice, waits, or has come to its deadline (R123, R124) issues nothing, and so does a command that is not the instruction of
the word fetched (the model's reading of a command that its core does not take; log entry 2). No instruction of a nib touches
another nib's registers, the program or data of another nib's window, the mode or the stroke. -/
def Obligations.NibFaultsAndIsolation : Prop :=
  (∀ (n : NibId) (i : Instr) (w : Word) (s s1 : State), nibOf i = some n →
      ((s.nib n).ready = false ∨ (s.nib n).cutAt ≤ s.phase → exec i s = .next s) ∧
      (FetchesWord n w s s1 → nibDecode n w ≠ some i → exec i s = .next s) ∧
      (s.issues n = true → (s.toFetch n).fetchWord n = ((w, true), s1) → ∃ t, exec i s = .next t ∧
        (t.nib n).run = false ∧ (t.nib n).ended = 3 ∧ bitOf (t.reg (QRE_NIB_EVT_STATUS (quireOf n))) 2 = true ∧
        bitOf (t.reg (QRE_NIB_WHO2 (quireOf n))) (nibInQuire n) = true ∧ t.mf.queue = s1.mf.queue ++ [.nib n] ∧
        (t.entrySt (s1.nib n).entry).tainted = true ∧ t.mem = s1.mem)) ∧
  (∀ (n : NibId) (i : Instr) (s t : State), nibOf i = some n → exec i s = .next t →
      (∀ m, m ≠ n.val → t.nib m = s.nib m) ∧ t.mode = s.mode ∧ t.tim = s.tim ∧
      ∀ m : NibId, m ≠ n → ∀ a, nibWin m ≤ a → a < nibWin m + 0x20000 → t.byte a = s.byte a)

/-- Interrupts of a nib (R113, R114, R116, R123, R156): an entry is taken only with a pending enabled bit, in the primary
bank, outside delay slots and repeats, before the deadline and where the next instruction does not trap; TIMER sets when
NIB_CYC equals TCMP while armed, and disarms; WARN sets when the lead is left to the deadline, unless it is 0. Stalls (R82,
R85, R132, R150): a guard cycle and a wait are counted in NIB_STALL_CNT, saturating; a load that returns brings the words of
its oldest access to their registers; an acknowledged store frees a posted place, and HALT and FENCE that waited for the last
go on. Where a clause goes beyond the words of the rules, it is the model's choice: log entries 11, 15 and 17. -/
def Obligations.InterruptsAndStalls : Prop :=
  (∀ (n : NibId) (s : State),
      let x := s.nib n
      (s.issues n = true → x.bank = false → x.slots = 0 → x.cur.repAt = none → x.irq &&& x.imask ≠ 0 → s.nextTrap n = none →
        ∃ t, exec (.interruptEntry n) s = .next t ∧ OnlyNib n s t ∧ (t.nib n).bank = true ∧ (t.nib n).pc = x.intVec ∧
          (t.nib n).epc = x.pc ∧ (t.nib n).irq = x.irq ∧ (t.nib n).prim = x.drain.prim ∧ (t.nib n).shad = x.drain.shad) ∧
      (s.issues n = false ∨ x.bank = true ∨ x.slots ≠ 0 ∨ x.cur.repAt ≠ none ∨ x.irq &&& x.imask = 0 ∨ s.nextTrap n ≠ none →
        exec (.interruptEntry n) s = .next s) ∧
      (x.run = true → x.armed = true → s.nibCyc n = x.tcmp →
        exec (.timerMatch n) s = .next (s.setNib n { x with irq := x.irq ||| 2, armed := false })) ∧
      (x.run = false ∨ x.armed = false ∨ s.nibCyc n ≠ x.tcmp → exec (.timerMatch n) s = .next s) ∧
      (x.run = true → x.lead ≠ 0 → s.phase + x.lead = x.cutAt →
        exec (.warnLeadReached n) s = .next (s.setNib n { x with irq := x.irq ||| 4 })) ∧
      (x.run = false ∨ x.lead = 0 ∨ s.phase + x.lead ≠ x.cutAt → exec (.warnLeadReached n) s = .next s)) ∧
  (∀ (n : NibId) (w : Nat) (s : State),
      let x := s.nib n
      let count := fun (t : State) (k : Nat) =>
        t.reg (NIB_STALL_CNT n) = BitVec.ofNat 32 (min ((s.reg (NIB_STALL_CNT n)).toNat + k) (2 ^ 32 - 1))
      (x.run = true → ∃ t, exec (.nibGuardCycle n) s = .next t ∧ count t 1 ∧
        OnlyRegs [NIB_STALL_CNT n, NIB_CNT_SAT n] s t) ∧
      (x.run = false → exec (.nibGuardCycle n) s = .next s) ∧
      (∀ q l, x.loads = [q] :: l → q.addr % 8 = 0 → wordLen q.addr = 8 → Quiet s q.addr →
        ∃ t, exec (.quireSramLoadReturn n w) s = .next t ∧ count t w ∧ (t.nib n).loads = l ∧
          (t.nib n).flight = x.flight ++
            regResult x.bank 1 q.dst ⟨(s.rawWord q.addr).setWidth 32, decide ((s.peek q.addr).row = .poisoned)⟩ ∧
          t.mem = s.mem ∧ ∀ m, m ≠ n.val → t.nib m = s.nib m) ∧
      (x.loads = [] → exec (.quireSramLoadReturn n w) s = .next s) ∧
      (x.posted ≠ 0 → x.blocked = none →
        exec (.postedStoreAck n w) s = .next (s.setNib n { x with posted := x.posted - 1 })) ∧
      (x.posted = 1 → x.blocked = some .fence → s.phase < x.cutAt →
        ∃ t, exec (.postedStoreAck n w) s = .next t ∧ count t w ∧
        t.nib n = ({ x with posted := 0, blocked := none } : Nib).next) ∧
      (x.posted = 1 → x.blocked = some .halt → s.phase < x.cutAt → ∃ t, exec (.postedStoreAck n w) s = .next t ∧ count t 0 ∧
        (t.nib n).run = false ∧ (t.nib n).ended = 1))

/-! ### Power, modes, faults and health -/

/-- Power-good and its loss (R26, R607, R639, R669, R685 to R687): at the rise, with the two copies of the OTP equal, every
register is at its reset value, memory at its reset contents, the mode DARK, ROOT runs and stroke 0 begins at count 0; ledger
and OTP outlast both, and the flash is open to a programmer of the board. RESET_N (R587, R595, R597, R650, R689): a pulse
below 100 ns, one in SEALED or from the start of a blot, does nothing; one from 100 ns up to 1 µs has an undefined outcome; a
longer one resets every domain but PD_AON: the grid, the system counter, the references and the key store go on, HUNG and
DEGRADE clear, MF_GRAVE stays, and the mode is DARK by transition 15. The release lets the boot start again. SCRIBE_RELEASE
(R26, R607, R633): after power-good or RESET_N, in DARK with ROOT running, the straps are sampled, the SRAMs of PD_CHIP are
zero, the scribe runs and transition 1 is decided. Where a clause goes beyond the words of the rules, it is the model's
choice: log entries 6, 88, 90, 91, 92 and 109. -/
def Obligations.PowerAndReset : Prop :=
  (∀ (s : State),
      (s.mf.power = false → s.sec.otpA = s.sec.otpB → s.boot.op = none → ∃ t, exec .powerGoodRise s = .next t ∧
        t.mf.power = true ∧ t.mf.root = true ∧ t.mf.scribeHeld = true ∧ t.mode = 0 ∧
        t.tim.sysCnt = 0 ∧ t.tim.bnd = 0 ∧ t.tim.strk = 0 ∧ (∀ a, t.reg a = regReset a) ∧ (∀ a, t.byte a = memDflt a) ∧
        t.boot.flash = [] ∧ t.boot.opened = s.boot.opened + 1 ∧ t.fb.ledger = s.fb.ledger ∧ t.sec.otpA = s.sec.otpA ∧ t.sec.otpB = s.sec.otpB ∧
        t.sec.keys = [] ∧ t.doms = []) ∧
      (s.mf.power = true → exec .powerGoodRise s = .next s) ∧
      (s.mf.power = true → s.boot.op = none → ∃ t, exec .powerGoodFall s = .next t ∧ t.mf.power = false ∧ t.mf.root = false ∧
        (∀ a, t.reg a = regReset a) ∧ (∀ a, t.byte a = memDflt a) ∧ t.boot.flash = [] ∧ t.boot.opened = s.boot.opened + 1 ∧
        t.fb.ledger = s.fb.ledger ∧ t.sec.otpA = s.sec.otpA ∧ t.sec.otpB = s.sec.otpB ∧ t.doms = []) ∧
      (s.mf.power = false → exec .powerGoodFall s = .next s)) ∧
  (∀ (s : State) (w : Nat),
      let acts := s.mf.power = true ∧ s.mode ≠ 7 ∧ s.fld SEC_STAT SEC_STAT_BLOT = 0
      (¬ acts ∨ w < 100 → exec (.resetNAssert w) s = .next s) ∧
      (acts → 100 ≤ w → w < 1000 → exec (.resetNAssert w) s = .fault .resetWidth) ∧
      (acts → 1000 ≤ w → s.boot.op = none → ∃ t, exec (.resetNAssert w) s = .next t ∧ t.mode = 0 ∧
        t.fld MF_MODE MF_MODE_TRANS = 15 ∧ t.fld MF_MODE MF_MODE_PREV = s.mode ∧ t.mf.inReset = true ∧ t.mf.scribeHeld = true ∧
        t.tim.sysCnt = s.tim.sysCnt ∧ t.tim.bnd = s.tim.bnd ∧ t.tim.strk = s.tim.strk ∧ t.tbs = s.tbs ∧ t.ref = s.ref ∧
        t.sec = s.sec ∧ t.boot.flash = [] ∧ t.boot.opened = s.boot.opened + 1 ∧ (∀ a, t.byte a = memDflt a) ∧ t.nibs = [] ∧ t.lanes = [] ∧ t.doms = [] ∧
        t.reg MF_GRAVE = s.reg MF_GRAVE ∧ t.fld MF_FAULT MF_FAULT_HUNG = 0 ∧ t.fld MF_FAULT MF_FAULT_DEGRADE = 0) ∧
      exec .resetNRelease s = .next (s.withMf { s.mf with inReset := false })) ∧
  (∀ (s : State) (swap head : Bool) (fw : BitVec 16),
      s.mf.power = true → s.mf.root = true → s.mf.inReset = false → s.mode = 0 → s.mf.scribeHeld = true →
      s.on MF_FAULT MF_FAULT_GRAVE = false → s.fld SEC_STAT SEC_STAT_BLOT = 0 → s.mf.decided = [] →
      ∃ t, exec (.scribeRelease swap head fw) s = .next t ∧ t.mf = { s.mf with scribeHeld := false, decided := [1] } ∧
        (t.fld BOOT_STAT BOOT_STAT_SWAP = 1 ↔ swap = true) ∧ t.reg BOOT_FWREV = fw.setWidth 32 ∧
        (t.fld MCH_STAT MCH_STAT_HEAD = 1 ↔ head = true) ∧ t.fld MCH_STAT MCH_STAT_ADDR = (if head then 1 else 0) ∧
        (∀ a, 0x04000000 ≤ a → a < 0x04080000 → t.byte a = memDflt a) ∧
        (∀ a, 0x08000000 ≤ a → a < 0x08200000 → t.byte a = memDflt a) ∧ t.tim = s.tim ∧
        OnlyRegs [BOOT_STAT, BOOT_FWREV, MCH_STAT] s (((t.withMem s.mem).withMarks s.marks).withMf s.mf))

/-- What the raising of a GRAVE source does within 64 ROOT cycles (R586): the status bit and MF_FAULT.GRAVE set, MF_GRAVE
records the line of the first, the ruling stops, every lane is DISABLED with its gates off and its relay open, every pulse is
disarmed and inactive, no stream frame waits, the scribe is held, and transition 14 is decided. -/
def Obligations.GraveSeals : Prop :=
  ∀ (s : State) (e : Evt), e ∈ [EVT_MF_LOCKSTEP, EVT_REF_ROOT_LOSS, EVT_SEC_REBREACH, EVT_MEM_SCRIBE 0] →
    s.on MF_FAULT MF_FAULT_GRAVE = false → s.mf.decided.contains 14 = false →
    let t := s.grave e
    bitOf (t.reg e.reg) e.bit = true ∧ t.on MF_FAULT MF_FAULT_GRAVE = true ∧ t.rul.stopped = true ∧ t.rulingRuns = false ∧
    (s.on MF_GRAVE MF_GRAVE_VALID = true → t.reg MF_GRAVE = s.reg MF_GRAVE) ∧
    (s.on MF_GRAVE MF_GRAVE_VALID = false → t.on MF_GRAVE MF_GRAVE_VALID = true ∧ t.fld MF_GRAVE MF_GRAVE_LINE = graveLine e) ∧
    (∀ k < 32, t.fld (LANE_STAT k) LANE_STAT_STATE = 0 ∧ t.fld (LANE_STAT k) LANE_STAT_RLY = 0 ∧ (t.lane k).drive = .off) ∧
    (∀ k < 16, t.fld (PUL_STAT k) PUL_STAT_ARMED = 0 ∧ (t.pulse k).ends = none) ∧
    (∀ x ∈ t.net.ports, x.2.queued = []) ∧ (∀ x ∈ t.saps, x.2.txq = []) ∧ t.mf.scribeHeld = true ∧
    t.mf.decided = s.mf.decided ++ [14] ∧ t.mem = s.mem ∧ t.tim = s.tim

/-- The scribe's health (R588 to R591): a lockstep mismatch of a running scribe raises EVT_MF_LOCKSTEP; only the scribe's own
MF_KICK restarts the count; a missing kick of 24 strokes sets HUNG; ALIVE inverts only while the check passes. Where a clause
goes beyond the words of the rules, it is the model's choice: log entry 71. -/
def Obligations.ScribeHealth : Prop :=
  ∀ (s : State) (port : Port),
    let passes := s.mf.kicked = true ∧ (s.reg MF_HEALTH).toNat ≤ 24 ∧ s.on MF_FAULT MF_FAULT_HUNG = false ∧
      s.on MF_FAULT MF_FAULT_GRAVE = false ∧ s.mode ≠ 0 ∧ s.mode ≠ 7
    (s.mf.scribeHeld = false → exec .lockstepMismatch s = .next (s.grave EVT_MF_LOCKSTEP)) ∧
    (s.mf.scribeHeld = true → exec .lockstepMismatch s = .next s) ∧
    (port = .chip 0 → s.mf.scribeHeld = false →
      exec (.mfKick port) s = .next ((s.setReg MF_HEALTH 0).withMf { s.mf with kicked := true })) ∧
    (port ≠ .chip 0 ∨ s.mf.scribeHeld = true → exec (.mfKick port) s = .next s) ∧
    (passes → exec .aliveToggle s = .next (s.withMf { s.mf with alive := !s.mf.alive })) ∧
    (¬ passes → exec .aliveToggle s = .next s) ∧
    (s.mf.kicked = true → 24 ≤ (s.reg MF_HEALTH).toNat → s.mf.scribeHeld = false → ∃ t, exec .healthFail s = .next t ∧
      t.on MF_FAULT MF_FAULT_HUNG = true ∧ t.fld MF_FAULT MF_FAULT_GRAVE = s.fld MF_FAULT MF_FAULT_GRAVE ∧
      t.fld MF_FAULT MF_FAULT_DEGRADE = s.fld MF_FAULT MF_FAULT_DEGRADE ∧ OnlyRegs [MF_FAULT] s t) ∧
    (s.mf.kicked = false ∨ (s.reg MF_HEALTH).toNat < 24 ∨ s.mf.scribeHeld = true → exec .healthFail s = .next s)

/-- The requests of MF_CTL (R594, R595): RUN counts in POISED, POISE decides transition 10 in LEAD, SHADOW and ISLAND, RELOAD
decides transition 12 in POISED and in a SERVICE that no blot entered; elsewhere they do nothing. The transitions between the
modes in which the ruling runs, and to SEALED (R595, R596, R605): of those decided for a boundary the first in the order of
R596 that still holds takes effect; MF_MODE names the new mode, the previous one and the transition; every decision is
discarded. The muted modes and the modes in which the ruling runs (R164, R592, R593). Where a clause goes beyond the words of
the rules, it is the model's choice: log entries 71 and 72. -/
def Obligations.Modes : Prop :=
  (∀ (s : State),
      let decide' := fun k => s.withMf { s.mf with decided := s.mf.decided ++ [k] }
      let reloads := s.mode = 2 ∨ (s.mode = 6 ∧ s.mf.blotted = false)
      let live := s.mode = 3 ∨ s.mode = 4 ∨ s.mode = 5
      (s.mode = 2 → exec .run s = .next (s.withMf { s.mf with run := true })) ∧ (s.mode ≠ 2 → exec .run s = .next s) ∧
      (live → 10 ∉ s.mf.decided → exec .poise s = .next (decide' 10)) ∧ (¬ live → exec .poise s = .next s) ∧
      (live → 10 ∈ s.mf.decided → exec .poise s = .next s) ∧
      (reloads → 12 ∉ s.mf.decided → exec .reload s = .next (decide' 12)) ∧ (¬ reloads → exec .reload s = .next s) ∧
      (reloads → 12 ∈ s.mf.decided → exec .reload s = .next s)) ∧
  (∀ (s : State) (k : Nat), k ∈ [3, 4, 5, 6, 7, 8, 9, 14] →
      modeOrder.find? (fun j => s.mf.decided.contains j && (s.withMf { s.mf with decided := [] }).mayMove j) = some k →
      let t := s.modePhase1.2
      let goal := if k = 14 then 7 else if k = 7 then 5 else if k = 3 ∨ k = 6 ∨ k = 8 then 3 else 4
      s.modePhase1.1 = true ∧ t.mode = goal ∧ t.fld MF_MODE MF_MODE_PREV = s.mode ∧ t.fld MF_MODE MF_MODE_TRANS = k ∧
      t.mf.decided = [] ∧ t.reg MF_MODE_STK_LO = BitVec.ofNat 32 s.tim.strk.toNat ∧ t.tim.strk = s.tim.strk ∧ t.mem = s.mem ∧
      bitOf (t.reg MF_EVT_STATUS) EVT_MF_MODE.bit = true) ∧
  (∀ (s : State),
      (s.muted = true ↔ s.mode = 2 ∨ s.mode = 6) ∧
      (s.rulingRuns = true ↔ (s.mode = 2 ∨ s.mode = 3 ∨ s.mode = 4 ∨ s.mode = 5) ∧ s.rul.stopped = false) ∧
      s.mode ≤ 15 ∧ modeTo 1 = 1 ∧ modeTo 2 = 2 ∧ modeTo 3 = 3 ∧ modeTo 4 = 4 ∧ modeTo 5 = 4 ∧ modeTo 6 = 3 ∧ modeTo 7 = 5 ∧
      modeTo 8 = 3 ∧ modeTo 9 = 4 ∧ modeTo 10 = 2 ∧ modeTo 11 = 6 ∧ modeTo 12 = 1 ∧ modeTo 13 = 6 ∧ modeTo 14 = 7 ∧ modeTo 15 = 0 ∧
      modeOrder = [14, 13, 12, 11, 10, 7, 5, 6, 3, 4, 8, 9, 1, 2])

/-- Self-test requests (R600 to R602, R606): the test of a nib without slices runs in place; one with slices runs when its
relief nib is free, which prepares a rotation step, and is REFUSED otherwise; a relief nib is tested when it is free; the full
test runs in an unblotted SERVICE, waits for SERVICE in POISED and is DEFERRED in LEAD, SHADOW and ISLAND with EVT_MF_BUSY;
CANCEL clears FULLPEND. Where a clause goes beyond the words of the rules, it is the model's choice: log entry 69. -/
def Obligations.TestRequests : Prop :=
  ∀ (s : State) (i : BitVec 9),
    let n := i.toNat
    let runs := fun (t : State) => t.fld MF_TEST_STAT MF_TEST_STAT_STATE = 1 ∧ t.fld MF_TEST_STAT MF_TEST_STAT_FULLPEND = 0 ∧
      t.reg MF_TEST_RES = 0 ∧ t.reg MF_TEST_ADDR = 0xFFFFFFFF
    let only := fun (t : State) => OnlyRegs [MF_TEST_STAT, MF_TEST_RES, MF_TEST_ADDR] s (t.withMf s.mf)
    (s.rulingRuns = true → n < 256 → s.nibEntries n = [] → ∃ t, exec (.testNib i) s = .next t ∧ runs t ∧ only t ∧
      t.fld MF_TEST_STAT MF_TEST_STAT_NIB = n ∧
      ∃ m : Fin 272, m.val = n ∧ t.mf = { s.mf with tests := s.mf.tests ++ [.inPlace m] }) ∧
    (s.rulingRuns = true → n < 256 → s.nibEntries n ≠ [] → ∀ q : Fin 16, q.val = n / 16 → s.reliefFree q = false →
      ∃ t, exec (.testNib i) s = .next t ∧ t.fld MF_TEST_STAT MF_TEST_STAT_STATE = 4 ∧
        t.fld MF_TEST_STAT MF_TEST_STAT_NIB = n ∧ OnlyRegs [MF_TEST_STAT] s t) ∧
    (s.rulingRuns = true → n < 256 → s.nibEntries n ≠ [] → ∀ q : Fin 16, q.val = n / 16 → s.reliefFree q = true →
      ∃ t, exec (.testNib i) s = .next t ∧ runs t ∧ t.relState q = 1 ∧ t.mf = s.mf ∧
        t.move q = some { home := Fin.ofNat 16 n, rotation := true }) ∧
    (s.rulingRuns = true → 256 ≤ n → ∀ m : Fin 272, m.val = n → s.reliefFree (nibQuire m) = true →
      ∃ t, exec (.testNib i) s = .next t ∧ runs t ∧ only t ∧ t.mf = { s.mf with tests := s.mf.tests ++ [.inPlace m] }) ∧
    (s.rulingRuns = true → 256 ≤ n → ∀ m : Fin 272, m.val = n → s.reliefFree (nibQuire m) = false →
      ∃ t, exec (.testNib i) s = .next t ∧ t.fld MF_TEST_STAT MF_TEST_STAT_STATE = 4 ∧ OnlyRegs [MF_TEST_STAT] s t) ∧
    (s.rulingRuns = false ∨ 272 ≤ n → exec (.testNib i) s = .next s) ∧
    (s.mode = 6 → s.mf.blotted = false → TestRun.full ∉ s.mf.tests → ∃ t, exec .testFull s = .next t ∧ runs t ∧ only t ∧
      t.mf = { s.mf with tests := s.mf.tests ++ [.full] }) ∧
    (s.mode = 2 → 11 ∉ s.mf.decided → ∃ t, exec .testFull s = .next t ∧ t.fld MF_TEST_STAT MF_TEST_STAT_FULLPEND = 1 ∧ only t ∧
      t.mf = { s.mf with decided := s.mf.decided ++ [11] }) ∧
    (s.mode = 3 ∨ s.mode = 4 ∨ s.mode = 5 → ∃ t, exec .testFull s = .next t ∧ t.fld MF_TEST_STAT MF_TEST_STAT_FULLPEND = 1 ∧
      t.fld MF_TEST_STAT MF_TEST_STAT_STATE = 5 ∧ bitOf (t.reg MF_EVT_STATUS) EVT_MF_BUSY.bit = true ∧ t.mf = s.mf) ∧
    (∃ t, exec .testCancel s = .next t ∧ t.fld MF_TEST_STAT MF_TEST_STAT_FULLPEND = 0 ∧ OnlyRegs [MF_TEST_STAT] s t ∧
      t.fld MF_TEST_STAT MF_TEST_STAT_STATE = (if s.fld MF_TEST_STAT MF_TEST_STAT_STATE = 5 then 0 else s.fld MF_TEST_STAT MF_TEST_STAT_STATE))

/-- The ends of self-tests (R185, R603, R604): a nib that passes in place gives PASSED; one that fails gives FAILED with the
address, goes out of its quire's rotation and raises EVT_RUL_ROT_FAIL; the full test gives PASSED, or FAILED with the address
and EVT_MF_SELFTEST. Where a clause goes beyond the words of the rules, it is the model's choice: log entries 69, 70 and 103.
-/
def Obligations.TestResults : Prop :=
  ∀ (s : State) (n : Fin 272) (r : TestResult),
    r.nib.toNat = n.val → s.mf.tests = [.inPlace n] → s.scribeActs = true →
    s.fld MF_TEST_STAT MF_TEST_STAT_STATE = 1 → s.fld MF_TEST_STAT MF_TEST_STAT_NIB = n.val →
    (r.step = 0 → ∃ t, exec (.nibTestComplete r) s = .next t ∧ t.fld MF_TEST_STAT MF_TEST_STAT_STATE = 2 ∧ t.mf.tests = [] ∧
      OnlyRegs [MF_TEST_STAT] s ((((t.withMf s.mf).withMem s.mem).withMarks s.marks).withFree s.free) ∧
      ∀ a, a < nibWin n ∨ nibWin n + 0x20000 ≤ a → t.byte a = s.byte a) ∧
    (r.step = 1 ∨ r.step = 2 ∨ r.step = 3 → n.val < 256 → ∃ t, exec (.nibTestComplete r) s = .next t ∧
      t.fld MF_TEST_STAT MF_TEST_STAT_STATE = 3 ∧ t.reg MF_TEST_ADDR = r.addr ∧ t.mf.tests = [] ∧
      bitOf (t.reg (RUL_RELIEF (n.val / 16))) (n.val % 16) = true ∧ bitOf (t.reg RUL_EVT_STATUS) EVT_RUL_ROT_FAIL.bit = true ∧
      n.val / 16 ∈ t.rul.rotFail) ∧
    ∀ u : State, u.mf.tests = [.full] →
      (r.step = 0 → ∃ t, exec (.fullSelftestComplete r) u = .next t ∧ t.fld MF_TEST_STAT MF_TEST_STAT_STATE = 2 ∧ t.mf.tests = []) ∧
      (r.step ≠ 0 → ∃ t, exec (.fullSelftestComplete r) u = .next t ∧ t.fld MF_TEST_STAT MF_TEST_STAT_STATE = 3 ∧
        t.reg MF_TEST_ADDR = r.addr ∧ bitOf (t.reg MF_EVT_STATUS) EVT_MF_SELFTEST.bit = true ∧ t.mf.tests = [])

/-! ### The stroke and its alignment -/

/-- The boundary of a stroke (R12, R34, R48, R51, R53, R54, R57, R66, R74, R173, R397): while ROOT runs its phases 0 to 5
follow each other. In phase 0 B(n + 1) lies 102,400 ROOT cycles after B(n), or 25,600 more for each step of an alignment
stroke, the stroke number goes up by one or to the target of the alignment, the copy that becomes current has no claims and no
STALE flags, no entry has started, and STK_ALIGN_LIM and STK_STEER are taken for the stroke; at the end of phase 5 what
PENDING reads is what is staged, and the fault summary that a register read gives is latched. Where a clause goes beyond the
words of the rules, it is the model's choice: log entries 25, 96 and 98. -/
def Obligations.StrokeBoundary : Prop :=
  ∀ (s : State),
    let t := s.phase0
    (s.tim.align.isCoarse = none → t.tim.strk = s.tim.strk + 1 ∧ t.tim.bnd = s.tim.bnd + 102400) ∧
    (∀ j m, s.tim.align.isCoarse = some (j, m) → t.tim.strk = m ∧ t.tim.bnd = s.tim.bnd + 102400 + 25600 * BitVec.ofNat 64 j.val) ∧
    t.tim.sysCnt = t.tim.bnd ∧ (∀ x < 16384, t.slot t.curCopy x = {} ∧ t.slot (1 - t.curCopy) x = s.slot (1 - t.curCopy) x) ∧
    (∀ i, (t.entrySt i).started = false) ∧ t.tim.lim = s.reg STK_ALIGN_LIM ∧ t.tim.steer = s.reg STK_STEER ∧
    let u := t.phase1.phase2.phase3.phase4.phase5 s.rul.cut s.rul.counted
    (s.mf.root = true → exec .strokeBoundary s = .next u ∧ u.stager.pend = u.stager.staged ∧
      u.stager.colophon.c1 = BitVec.ofNat 32 (u.tim.strk.toNat / 2 ^ 16) ∧
      u.mf.summary = MF_FAULT_CONTAIN.put (u.reg MF_FAULT) (if u.coffered then 1 else 0)) ∧
    (s.mf.root = false → exec .strokeBoundary s = .next s)

/-- A request of an alignment, the choice of its coarse step, and the end of its fine pull (R57, R58, R75). The measurement of
a boundary (R59, R61). The value of an error that 32 bits do not hold is free. Where a clause goes beyond the words of the
rules, it is the model's choice: log entries 67 and 68. -/
def Obligations.Alignment : Prop :=
  (∀ (s : State),
      let here := s.mode = 2 ∨ s.mode = 6
      let done := s.tim.align = .pull ∧ here ∧ s.on STK_STAT STK_STAT_MEAS = true ∧ (s.reg STK_ALIGN_ERR).toInt.natAbs ≤ s.alignLim
      let x := s.govStrokes s.tim.bnd
      (here → exec .realign s = .next (s.withTim { s.tim with due := true })) ∧ (¬ here → exec .realign s = .next s) ∧
      (here → s.govLock = false → s.alignStart.tim.align = s.tim.align) ∧
      (here → s.govLock = true → s.tim.due = true → ∃ j : Fin 4, ∃ m : Int,
        s.alignStart.tim = { s.tim with align := .coarse j (BitVec.ofInt 48 m), due := false } ∧ s.alignStart.aligned = false ∧
        8 * x + 7 * secUnits ≤ 8 * m * secUnits ∧ 8 * (m - 1) * secUnits < 8 * x + 7 * secUnits ∧
        (∀ k : Fin 4, coarseGap x m j.val ≤ coarseGap x m k.val) ∧ (∀ k : Fin 4, k < j → coarseGap x m j.val < coarseGap x m k.val)) ∧
      (done → ∃ t, exec .alignmentFinePullDone s = .next t ∧ t.aligned = true ∧ t.tim = { s.tim with align := .idle } ∧
        t.hasEvt EVT_STK_ALIGNED ∧ OnlyRegs [STK_STAT, STK_EVT_STATUS] s (t.withTim s.tim)) ∧
      (¬ done → exec .alignmentFinePullDone s = .next s)) ∧
  (∀ (s : State),
      let t := s.measureAlign
      let e := s.alignErr
      (s.govLock = false → t.on STK_STAT STK_STAT_MEAS = false ∧ OnlyRegs [STK_STAT] s t) ∧
      (s.govLock = true → t.on STK_STAT STK_STAT_MEAS = true) ∧
      (s.govLock = true → -2 ^ 31 ≤ e → e < 2 ^ 31 → t.reg STK_ALIGN_ERR = BitVec.ofInt 32 e) ∧
      (s.govLock = true → s.tim.align = .idle → s.aligned = true → s.alignLim < e.natAbs →
        t.aligned = false ∧ t.hasEvt EVT_STK_ALIGN ∧ t.on MF_FAULT MF_FAULT_DEGRADE = true) ∧
      (s.govLock = true → s.tim.align = .idle → s.aligned = true → e.natAbs ≤ s.alignLim → t.aligned = true) ∧
      (s.govLock = true → s.tim.align = .idle → s.aligned = false → s.live = true → e.natAbs ≤ s.alignLim → t.aligned = true) ∧
      (s.aligned = false → s.live = false ∨ s.alignLim < e.natAbs → t.aligned = false ∧
        bitOf (t.reg STK_EVT_STATUS) EVT_STK_ALIGN.bit = bitOf (s.reg STK_EVT_STATUS) EVT_STK_ALIGN.bit) ∧
      (s.tim.align ≠ .idle → t.aligned = s.aligned))

/-! ### The ruling -/

/-- The start of a ruling entry (R88, R156, R164, R173, R175, R188): an entry that may not start changes nothing; one in the
lost set, or of a unit that is off, does not run and is tainted; a slice is dispatched with everything cleared; rows, elements
and beats get done up to the deadline. The spillway and the completion of a SLU entry (R113, R174, R175, R537): a running
entry is cut at its deadline, reported, tainted; a SLU entry whose last write is acknowledged is done and sets DONE in the
nibs whose RAM it met. Where a clause goes beyond the words of the rules, it is the model's choice: log entries 86 and 116. -/
def Obligations.Entries : Prop :=
  (∀ (s : State) (idx limit acc : Nat),
      (s.rulingRuns = false ∨ (s.entrySt idx).started = true ∨ s.entry idx = none → exec (.rulingEntryStart idx limit acc) s = .next s) ∧
      ∀ e : Entry, s.entry idx = some e →
        (eType e = 5 → exec (.rulingEntryStart idx limit acc) s = .next s) ∧
        (s.rulingRuns = true → (s.entrySt idx).started = false → eType e ≠ 5 →
          let r := s.atRoot (eStart e)
          let out := r.suppressed e = true ∨ r.entryOpen e = false
          let n := r.runsOn (eUnit e)
          ∃ t, exec (.rulingEntryStart idx limit acc) s = .next t ∧
            (out → t.entrySt idx = { s.entrySt idx with started := true, running := false, tainted := true, done := 0 } ∧
              (s.rul.counted = false → t.hasEvt EVT_RUL_TAINT)) ∧
            (¬ out → eType e = 1 →
              (t.nib n).run = true ∧ (t.nib n).pc.toNat = eEntry e ∧ (t.nib n).bank = false ∧ (t.nib n).prim = { rmode := BitVec.ofNat 2 (eRmode e) } ∧
              (t.nib n).shad = { rmode := BitVec.ofNat 2 (eRmode e) } ∧ (t.nib n).ac = [] ∧ (t.nib n).bexp = 31 ∧ (t.nib n).imask = 0 ∧
              (t.nib n).tcmp = 0 ∧ (t.nib n).armed = false ∧ (t.nib n).epc = 0 ∧ (t.nib n).flight = [] ∧ (t.nib n).entry = idx ∧
              (t.nib n).start = t.tim.sysCnt ∧ (t.nib n).cutAt = eDeadline e ∧ t.reg (NIB_TRAP_CAUSE n) = 0 ∧ ((t.nib n).irq = 0 ∨ (t.nib n).irq = 4) ∧
              t.entrySt idx = { s.entrySt idx with started := true, running := true, tainted := (s.entrySt idx).tainted || r.depTainted e, done := 0 }) ∧
            (¬ out → eType e = 2 → (t.entrySt idx).running = true ∧ (t.entrySt idx).done ≤ Nat.min (Nat.min limit acc) (eBeats e)) ∧
            (¬ out → eType e = 3 →
              (t.entrySt idx).done = Nat.min limit (eCount e) ∧ ((t.entrySt idx).running = true ↔ limit < eCount e)) ∧
            (¬ out → eType e = 4 →
              (t.entrySt idx).done = Nat.min limit (bruElems e).length ∧ ((t.entrySt idx).running = true ↔ limit < (bruElems e).length)))) ∧
  (∀ (s : State) (idx : Nat) (e : Entry), s.entry idx = some e →
      ((s.entrySt idx).running = true → ∃ t, exec (.spillwayCut idx) s = .next t ∧ (t.entrySt idx).running = false ∧
        (t.entrySt idx).tainted = true ∧ t.rul.cut = true ∧ t.hasEvt EVT_RUL_SPILL ∧ bitOf (t.reg RUL_SPILL_WHO) (spillBit e) = true) ∧
      ((s.entrySt idx).running = false → exec (.spillwayCut idx) s = .next s) ∧
      (eType e = 2 → (s.entrySt idx).running = true → (s.entrySt idx).done = eBeats e →
        ∃ t, exec (.sluEntryComplete idx) s = .next t ∧ (t.entrySt idx).running = false ∧
          t.fld (SLU_CH_STAT (eChan e)) SLU_CH_STAT_STATE = 2 ∧ OnlyRegs [SLU_CH_STAT (eChan e)] s ((t.withRul s.rul).withNibs s.nibs) ∧
          (∀ n < 272, (t.nib n).irq = if eNotify e = true ∧ s.isOpen (26 + n) = true ∧
            (meetsNib n (eSrc e) (64 * eLen e) = true ∨ meetsNib n (eDst e) (64 * eLen e) = true) then (s.nib n).irq ||| 1 else (s.nib n).irq)) ∧
      (eType e ≠ 2 ∨ (s.entrySt idx).running = false ∨ (s.entrySt idx).done ≠ eBeats e → exec (.sluEntryComplete idx) s = .next s))

/-- A move to the relief nib (R179 to R181, R184, R193): the scribe writes the images of the home nib into the nib that will
carry the entries, commits, and the next boundary moves the entries, with COLD where the data RAM cannot be carried; on the
way back they go home. A rotation step, one PERIOD after the last at the earliest, takes the next nib in order that is not
out, and that needs no relief nib or finds it free. Where a clause goes beyond the words of the rules, it is the model's
choice: log entries 73 and 102. -/
def Obligations.ReliefMoves : Prop :=
  ∀ (s : State) (q : Fin 16) (home : Fin 256), s.scribeActs = true →
    let x := RUL_RELIEF q.val
    let can := fun h => bitOf (s.reg x) h = false ∧ (s.nibEntries (16 * q.val + h) = [] ∨ s.reliefFree q = true)
    let at_ := fun i => (s.fld x RUL_RELIEF_ROT_NEXT + i) % 16
    let may := s.on RUL_ROT_CTL RUL_ROT_CTL_EN = true ∧ s.rulingRuns = true ∧ s.relState q.val ≠ 3 ∧ s.rotating q = false ∧
      s.stepEarly q = false ∧ (s.dom (10 + q.val)).on = true ∧ q.val ∉ s.rul.rotFail
    (∀ m, s.move q.val = some m → home.val = 16 * q.val + m.home.val → m.commit = false →
      ∃ t, exec (.reliefPreparation q home) s = .next t ∧ t.move q.val = some { m with prepared := true } ∧
        let w := nibWin (m.target q).val
        let im := s.nibImage home.val
        (∀ a, a < w ∨ w + 0x20000 ≤ a → t.byte a = s.byte a) ∧
        ((∀ g < 21, s.on (MEM_FLIP_STAT g) MEM_FLIP_STAT_ARMED = false) →
          (∀ i < 8192, t.bytesLE (w + 4 * i) 4 = (im.prog.getD i 0).toNat) ∧
          ∀ i < 16384, t.bytesLE (w + 0x10000 + 4 * i) 4 = (im.data.getD i 0).toNat)) ∧
    (s.move q.val = none → exec (.reliefPreparation q home) s = .next s) ∧
    (∀ m, s.move q.val = some m → m.prepared = true → ∃ t, exec (.reliefCommit q) s = .next t ∧
      t.move q.val = some { m with commit := true } ∧ (∀ y ≠ q.val, t.move y = s.move y) ∧ t.withRul s.rul = s) ∧
    ((∀ m, s.move q.val = some m → m.prepared = false) → exec (.reliefCommit q) s = .next s) ∧
    (∀ m, s.move q.val = some m → m.commit = true → m.back = false → m.retire = false →
      let t := s.reliefApply q
      t.relState q.val = 2 ∧ t.fld x RUL_RELIEF_HOME = m.home.val ∧ (t.relPerm q.val = true ↔ m.rotation = false) ∧
      (t.on x RUL_RELIEF_COLD = true ↔ s.isOpen (26 + (16 * q.val + m.home.val)) = false) ∧ t.move q.val = none ∧
      t.hasEvt EVT_RUL_RELIEF ∧ t.runsOn (16 * q.val + m.home.val) = 256 + q.val) ∧
    (∀ m, s.move q.val = some m → m.commit = true → m.back = true → m.next = none → s.relState q.val = 2 →
      let t := s.reliefApply q
      t.relState q.val = 0 ∧ t.move q.val = none ∧ t.hasEvt EVT_RUL_RELIEF ∧
      (t.on x RUL_RELIEF_COLD = true ↔ s.isOpen (26 + (256 + q.val)) = false)) ∧
    (∀ d < 16, may → can (at_ d) → (∀ i < d, ¬ can (at_ i)) →
      ∃ t, exec (.reliefRotationStep q) s = .next t ∧ t.fld x RUL_RELIEF_ROT_NEXT = (at_ d + 1) % 16 ∧
        (s.nibEntries (16 * q.val + at_ d) = [] →
          ∃ n : Fin 272, n.val = 16 * q.val + at_ d ∧ t.mf.tests = s.mf.tests ++ [.inPlace n]) ∧
        (s.nibEntries (16 * q.val + at_ d) ≠ [] →
          t.relState q.val = 1 ∧ t.move q.val = some { home := Fin.ofNat 16 (at_ d), rotation := true })) ∧
    (¬ may ∨ (∀ i < 16, ¬ can i) → exec (.reliefRotationStep q) s = .next s)

/-- The reduced rulings (R163, R188, R189, R190, R664): of those that leave out every lost quire, those of the active ruling
and those of waiting retirements the one of lowest index is chosen; once its new nibs are prepared the scribe commits it, and
it becomes active at the next boundary; where none leaves out the lost quires, PARTIAL, and no ruling stays chosen. The
containment queue (R187, R524, R525, R583, R584, R664): its entries are taken in their order, while the scribe acts; a
cofferdam closes the gate for good, a nib's entries move or its quire is lost, and the next boundary records it. Where a
clause goes beyond the words of the rules, it is the model's choice: log entry 73. -/
def Obligations.ReducedRulingsAndContainment : Prop :=
  (∀ (s : State), s.scribeActs = true →
      let lost := BitVec.ofNat 16 (s.reg RUL_LOST).toNat
      let grown := lost &&& ~~~ s.activeExcl ≠ 0
      let covers := fun x i => ∃ r, s.rul.rulings.find? (fun r => rulIndex r == i) = some r ∧ x &&& ~~~ rulExcl r = 0
      let need := lost ||| s.activeExcl ||| s.retireQuires
      (¬ grown → s.rul.retire = [] → exec .reducedRulingSelect s = .next s) ∧
      (grown ∨ s.rul.retire ≠ [] → ∀ i, 1 ≤ i → i ≤ 4 → covers need i → (∀ j, 1 ≤ j → j < i → ¬ covers need j) →
        ∃ t, exec .reducedRulingSelect s = .next t ∧ t.rul.chosen = some i ∧ t.withRul s.rul = s ∧
          (s.rul.chosen ≠ some i → t.rul.commit = false ∧ (t.rul.prepared = true ↔ s.newNibs i = []))) ∧
      (grown → (∀ i, 1 ≤ i → i ≤ 4 → ¬ covers (lost ||| s.activeExcl) i) → ∃ t, exec .reducedRulingSelect s = .next t ∧
        t.on RUL_ACTIVE RUL_ACTIVE_PARTIAL = true ∧ t.hasEvt EVT_RUL_NOCOVER ∧ t.rul.chosen = none ∧ t.rul.commit = false ∧
        t.fld RUL_ACTIVE RUL_ACTIVE_INDEX = s.fld RUL_ACTIVE RUL_ACTIVE_INDEX) ∧
      (s.rul.chosen = none ∨ s.rul.prepared = false → exec .reducedRulingCommit s = .next s) ∧
      (∀ i, s.rul.chosen = some i → s.rul.prepared = true →
        exec .reducedRulingCommit s = .next (s.withRul { s.rul with commit := true }) ∧
        (i ≤ 4 → s.rul.retire = [] → let u := (s.withRul { s.rul with commit := true }).rulingApply
          u.fld RUL_ACTIVE RUL_ACTIVE_INDEX = i ∧ u.on RUL_ACTIVE RUL_ACTIVE_PARTIAL = false ∧ u.hasEvt EVT_RUL_REDUCED ∧
          u.rul.chosen = none ∧ u.rul.commit = false ∧ u.rul.rulings = s.rul.rulings))) ∧
  (∀ (s : State) (rest : List Contain),
      (s.scribeActs = false ∨ s.mf.queue = [] → exec .containmentAction s = .next s) ∧
      (s.scribeActs = true → s.mf.queue = .recorded :: rest → exec .containmentAction s = .next (s.withMf { s.mf with queue := rest })) ∧
      (∀ n : Fin 272, s.scribeActs = true → s.mf.queue = .nib n :: rest → s.deadNib n = false → ∃ t, exec .containmentAction s = .next t ∧
        t.mf.queue = rest ∧ t.deadNib n = true ∧ ((s.dom (26 + n.val)).on = true → (s.dom (26 + n.val)).draining = false → t.isOpen (26 + n.val) = false) ∧ t.fab.coffs = s.fab.coffs ++ [.nib n]) ∧
      (∀ x : Fin 16, s.scribeActs = true → s.mf.queue = .quire x :: rest → s.deadQuire x = false → ∃ t, exec .containmentAction s = .next t ∧
        t.mf.queue = rest ∧ t.deadQuire x = true ∧ ((s.dom (10 + x.val)).on = true → (s.dom (10 + x.val)).draining = false → t.isOpen (10 + x.val) = false) ∧ t.fab.coffs = s.fab.coffs ++ [.quire x] ∧ t.lostQuire x.val = true) ∧
      (∀ p : Fin 4, s.scribeActs = true → s.mf.queue = .polder p :: rest → s.deadPolder p = false → ∃ t, exec .containmentAction s = .next t ∧
        t.mf.queue = rest ∧ t.deadPolder p = true ∧ ((s.dom (6 + p.val)).on = true → (s.dom (6 + p.val)).draining = false → t.isOpen (6 + p.val) = false) ∧ t.fab.coffs = s.fab.coffs ++ [.polder p] ∧
        ∀ q < 4, t.lostQuire (4 * p.val + q) = true) ∧
      (∀ n : Fin 272, s.scribeActs = true → s.mf.queue = .retire n :: rest → s.deadNib n = false → n.val < 256 → s.nibEntries n.val = [] →
        ∃ t, exec .containmentAction s = .next t ∧ t.mf.queue = rest ∧ t.deadNib n = true ∧ ((s.dom (26 + n.val)).on = true → (s.dom (26 + n.val)).draining = false → t.isOpen (26 + n.val) = false) ∧
          n.val ∈ t.fb.retired ∧ bitOf (t.reg (RUL_RELIEF (n.val / 16))) (n.val % 16) = true))

/-- Repairs by the scribe and the tail sweep (R216, R224, R229, R245, R256, R260): a poisoned word 0 of a row, or a descriptor
with a poisoned word, is rewritten, clean, from the folio image, and nothing else is; the sweep, once in a stroke, gives tails
to elements of the polder's BRU entries, each complete by its entry's START. Where a clause goes beyond the words of the
rules, it is the model's choice: log entries 7, 24 and 110. -/
def Obligations.ScribeRewrites : Prop :=
  ∀ (s : State) (p : Fin 4) (row : Fin 16384) (e : Fin 512),
    let acts := s.scribeActs = true ∧ s.isOpen (6 + p.val) = true
    let calm := s.on (MEM_FLIP_STAT (1 + p.val)) MEM_FLIP_STAT_ARMED = false
    let a := rowAddr p.val row.val
    let b := elemAddr p.val e.val
    let image := fun lo n x => joinWords 64 (imageAt (s.imageRange lo n) (x + 4) &&& tableMask (x + 4))
      (imageAt (s.imageRange lo n) x &&& tableMask x)
    let sweeps := s.rulingRuns = true ∧ s.isOpen (6 + p.val) = true ∧ s.lostPolder p.val = false ∧ (s.bru p.val).sweepEnd = 0
    (acts → calm → (s.peek a).psn = true → ∃ t, exec (.inkRowRewrite p row) s = .next t ∧
      t.peek a = ⟨image a 8 a, false, .clean, false⟩ ∧ ∀ x, x < a ∨ a + 8 ≤ x → t.byte x = s.byte x) ∧
    (¬ acts ∨ (s.peek a).psn = false → exec (.inkRowRewrite p row) s = .next s) ∧
    (acts → calm → (∃ i < 8, (s.peek (b + 8 * i)).psn = true) → ∃ t, exec (.descriptorRewrite p e) s = .next t ∧
      (∀ i < 8, (t.peek (b + 8 * i)).psn = false ∧ (i ≠ 3 → t.peek (b + 8 * i) = ⟨image b 64 (b + 8 * i), false, .clean, false⟩)) ∧
      ∀ x, x < b ∨ b + 64 ≤ x → t.byte x = s.byte x) ∧
    (¬ acts ∨ (∀ i < 8, (s.peek (b + 8 * i)).psn = false) → exec (.descriptorRewrite p e) s = .next s) ∧
    (sweeps → ∃ t, exec (.tailSweep p) s = .next t ∧ 2048 ≤ (t.bru p.val).sweepEnd ∧ (∀ q, q ≠ p.val → t.bru q = s.bru q) ∧
      ∀ y ∈ (t.bru p.val).tails, y ∈ (s.bru p.val).tails ∨
        ∃ en ∈ s.entries, eType en = 4 ∧ ePolder en = p.val ∧ y.elem ∈ bruElems en ∧ y.cycle ≤ eStart en) ∧
    (¬ sweeps → exec (.tailSweep p) s = .next s)

/-! ### Serial audio ports -/

/-- A complete frame (R267 to R269) and a frame sync that stays out: the count, what the frame holds, LOCK after 8 valid
frames and its loss after 2 invalid ones. What does not start with the leading edge is no frame. The release point and the
transmit fetch (R273, R275, R277 to R280, R290, R592): every enabled port releases its block and stamps it; a port outside the
groups takes a new mapping with A = W, or slips by the frames R278 gives; position i of the stroke leaves in frame F(m, i) +
X. Where a clause goes beyond the words of the rules, it is the model's choice: log entries 27, 28 and 111. -/
def Obligations.SerialPorts : Prop :=
  (∀ (s : State) (k : Fin 16) (f : SapFrame),
      let lead := s.sapLead k
      let valid := f.bclks = 32 * s.sapSlots k ∧
        (s.sapFmt k = 2 ∨ ∀ i < 64, f.fs.getD i lead = if i < 32 then lead else !lead)
      let mine := s.sapOn k = true ∧ f.fs.head? = some lead
      let x := s.sap k
      (¬ mine → exec (.sapFrame k f) s = .next s) ∧ (s.sapOn k = false → exec (.sapFsTimeout k) s = .next s) ∧
      (mine → ∃ t, exec (.sapFrame k f) s = .next t ∧ (t.sap k).count = x.count + 1 ∧
        (valid → (t.sap k).good = x.good + 1 ∧ (t.sap k).bad = 0) ∧
        (¬ valid → (t.sap k).good = 0 ∧ (t.sap k).bad = x.bad + 1 ∧ t.hasEvt (EVT_SAP_FRAME k)) ∧
        (∃ r, (t.sap k).frames.getLast? = some r ∧ r.num = x.count ∧ r.edge = f.edge ∧ r.done = f.done ∧ r.slots.length = 32 ∧
          ∀ j < 32, (valid → j < s.sapSlots k → ∀ i < 32, bitOf (r.slots.getD j 0) (31 - i) = f.sdi.getD (32 * j + s.sapLag k + i) false) ∧
            (¬ valid ∨ s.sapSlots k ≤ j → r.slots.getD j 0 = 0)) ∧
        (t.sapLock k = true ↔ (s.sapLock k = true ∧ (valid ∨ x.bad = 0)) ∨ (s.sapLock k = false ∧ valid ∧ 7 ≤ x.good)) ∧
        (s.sapLock k = true → t.sapLock k = false → t.hasEvt (EVT_SAP_UNLOCK k)) ∧
        (s.sapLock k = false → t.sapLock k = true → t.hasEvt (EVT_SAP_LOCK k) ∧ (t.sap k).fresh = true)) ∧
      (s.sapOn k = true → ∃ t, exec (.sapFsTimeout k) s = .next t ∧ t.sapLock k = false ∧ (t.sap k).good = 0 ∧ (t.sap k).count = x.count ∧
        (s.sapLock k = true → t.hasEvt (EVT_SAP_UNLOCK k)))) ∧
  (∀ (s : State) (edges : List (Option (BitVec 64))),
      let off := s.mode = modeDark ∨ s.mode = modeSealed ∨ s.rul.stopped = true
      (¬ off → ∃ t, exec (.sapReleasePoint edges) s = .next t ∧ t.sapRemap = false ∧ t.tim = (s.atRoot 100352).tim ∧
        ∀ k < 16, s.sapOn k = true → (t.reg (SAP_STAMP_STK k)).toNat = s.tim.strk.toNat % 65536 ∧
          (s.on (SAP_CTL k) SAP_CTL_GRPEN = false → s.sapLock k = true →
            t.on (SAP_STAT k) SAP_STAT_REF = false ∧ (t.sap k).mapped = true ∧ (t.sap k).fresh = false ∧
            ((s.sap k).fresh = true ∨ s.sapRemap = true ∨ (s.sap k).mapped = false →
              (t.sap k).f0 = (s.sap k).f0 + BitVec.ofInt 32 (s.sapFill k - s.sapWin k)) ∧
            ((s.sap k).fresh = false → s.sapRemap = false → (s.sap k).mapped = true →
              (t.sap k).f0 = (s.sap k).f0 + BitVec.ofInt 32 (slipOf (s.sapWin k) (s.sapFill k)))) ∧
          (s.on (SAP_CTL k) SAP_CTL_GRPEN = false → s.sapLock k = false → t.on (SAP_STAT k) SAP_STAT_UNDER = true ∧
            t.hasEvt (EVT_SAP_UNDERRUN k) ∧ (t.sap k).f0 = (s.sap k).f0)) ∧
      (off → exec (.sapReleasePoint edges) s = .next (s.atRoot 100352)) ∧
      (∀ k < 16, ∀ shift : Int,
        let t := s.sapSlip k shift
        (t.sap k).f0 = (s.sap k).f0 + BitVec.ofInt 32 shift ∧ (t.sap k).count = (s.sap k).count ∧ t.hasEvt (EVT_SAP_SLIP k)) ∧
      (s.rulingRuns = true ∨ s.mode = modeService → ∃ t, exec .sapTxFetch s = .next t ∧ ∀ k < 16,
        let x := s.sap k
        if s.sapOn k = true ∧ s.on (SAP_CTL k) SAP_CTL_TXEN = true ∧ x.mapped = true then
          (t.sap k).txq.map (fun p => p.num) = x.txq.map (fun p => p.num) ++
            ((List.range s.samples).map fun i => s.sapFrame0 k + BitVec.ofNat 32 (i + x.x)).filter fun n => laterThan n x.count
        else t.sap k = x) ∧
      (s.rulingRuns = false → s.mode ≠ modeService → exec .sapTxFetch s = .next (s.atRoot 2048)))

/-! ### Drive lanes -/

/-- The stroke's samples and the carrier periods (R294, R296 to R299, R301, R302, R305, R314, R328): each running lane takes S
samples of its slot; a carrier period takes the bits its sense inputs gave, steps the dither, keeps the duty code within the
dead time, drives the two gates by it, those of a bridged pair's odd lane by its inverse, and ends the retry ramp. Where a
clause goes beyond the words of the rules, it is the model's choice: log entries 31, 32, 33 and 112. -/
def Obligations.LaneSamples : Prop :=
  ∀ (s : State) (k : Fin 32) (i : Fin 112) (isd vsd pair : BitVec 32),
    let e := s.leveeOf k
    let on := s.on (LANE_CFG k) LANE_CFG_EN = true ∧ e = k.val
    let seed := if s.reg (LANE_SEED k) = 0 then 1 else s.reg (LANE_SEED k)
    let is := (newestBits isd ++ (s.lane k).isd).take 94
    let vs := (newestBits vsd ++ (s.lane k).vsd).take 94
    (∃ t, exec .laneSlotRead s = .next t ∧ t.tim = (s.atRoot 3072).tim ∧
      if s.laneOn k = true ∧ e = k.val then
        ∃ l : List Word, l.length = s.samples ∧
          (t.lane k).hist = ((s.lane k).hist ++ l).drop ((s.lane k).hist.length + s.samples - 64)
      else t.lane k = s.lane k) ∧
    (s.isOpen 5 = false → exec (.carrierPeriod k i isd vsd pair) s = .next s) ∧
    (s.isOpen 5 = true → ∃ t, exec (.carrierPeriod k i isd vsd pair) s = .next t ∧
      t.tim = (s.atRoot (1600 * i.val + 50 * s.fld (LANE_DT k) LANE_DT_PHASE)).tim ∧
      (t.lane k).isd = is ∧ (t.lane k).vsd = (if e = k.val then vs else (s.lane k).vsd) ∧
      (t.lane k).slowV = sinc3 32 (t.lane k).vsd ∧
      (t.lane k).slowI = wrap 32 (sat 32 ((sinc3 32 is).toInt - (s.reg (LANE_IOFS k)).toInt)) ∧
      (¬ on → (t.lane k).drive = (s.lane k).drive ∧ t.laneState k = s.laneState k) ∧
      (on → (t.lane k).lfsr = some (ditherStep ((s.lane k).lfsr.getD seed)) ∧ (t.lane k).tripped = false ∧
        (s.laneRuns k = false → (t.lane k).drive = .off) ∧
        (s.laneRuns k = true → (t.lane k).rampLeft = (s.lane k).rampLeft - 1 ∧ ∃ d, (t.lane k).drive = .pwm d ∧
          s.deadTime k + 16 ≤ d ∧ d ≤ 1584 - s.deadTime k ∧
          (s.mode ≠ modeDark → s.mode ≠ modeLoad → ∀ c < 1600,
            ((t.laneGates k c).1 = true ↔ 800 - d / 2 + s.deadTime k ≤ c ∧ c < 800 + (d + 1) / 2) ∧
            ((t.lane k).ended ≠ some true →
              ((t.laneGates k c).2 = true ↔ c < 800 - d / 2 ∨ 800 + (d + 1) / 2 + s.deadTime k ≤ c)) ∧
            (s.bridged k = true → ((t.laneGates (k + 1) c).1 = true ↔
              800 - (1600 - d) / 2 + s.deadTime (k + 1) ≤ c ∧ c < 800 + (1600 - d + 1) / 2)))) ∧
        (t.laneState k = if s.laneState k = 4 ∧ (s.lane k).rampLeft ≤ 1 then 3 else s.laneState k)))

/-- Over-current, shorts and retries (R305, R312 to R316, R325): a filtered current above ILIM limits the period from that
cycle on; the third limited period in a row is a short, which latches the lane once its tries are used up; the wait ends in a
retry; 10 s of RUN forgive the tries; a clear arms a latched lane, but not at the boundary of a new DC latch and not past a
failed sense bitstream. Where a clause goes beyond the words of the rules, it is the model's choice: log entry 30. -/
def Obligations.LaneShorts : Prop :=
  ∀ (s : State) (k : Fin 32) (isd : BitVec 10) (c : Fin 1600),
    let e := s.leveeOf k
    let x := s.lane e
    let tries := s.fld (LANE_STAT e) LANE_STAT_TRY
    let value := (sinc3 4 (newestBits isd)).toInt
    let trips := s.laneOn e = true ∧ x.ran = true ∧ x.tripped = false ∧ 2 ^ 19 * s.fld (LANE_ILIM e) LANE_ILIM_ILIM < value.natAbs
    (¬ trips → exec (.ilimTrip k isd c) s = .next s) ∧
    (trips → x.limited < 2 → ∃ t, exec (.ilimTrip k isd c) s = .next t ∧ (t.lane e).limited = x.limited + 1 ∧ (t.lane e).tripped = true ∧
      t.hasEvt (EVT_LANE_ILIM e) ∧ t.reg (LANE_STAT e) = s.reg (LANE_STAT e) ∧
      (s.laneRuns e = false → (t.lane e).drive = x.drive) ∧
      (s.laneRuns e = true → ∃ d, (t.lane e).drive = .limited d (decide (value < 0) != decide (e ≠ k.val)) c ∧ (∀ d', x.drive = .pwm d' → d = d'))) ∧
    (trips → 2 ≤ x.limited → tries ≠ s.fld (LANE_RETRY e) LANE_RETRY_TRIES → s.laneState e ≠ 0 → s.laneState e ≠ 5 →
      ∃ t, exec (.ilimTrip k isd c) s = .next t ∧ t.laneState e = 1 ∧
      (t.lane e).causes.contains .short = true ∧ (t.lane e).drive = .off ∧ t.fld (LANE_STAT e) LANE_STAT_RLY = s.fld (LANE_STAT e) LANE_STAT_RLY ∧
      t.hasEvt (EVT_LANE_ILIM e) ∧ t.hasEvt (EVT_LANE_SHORT e) ∧ (x.causes = [] → t.fld (LANE_STAT e) LANE_STAT_CAUSE = 2)) ∧
    (trips → 2 ≤ x.limited → tries = s.fld (LANE_RETRY e) LANE_RETRY_TRIES → ∃ t, exec (.ilimTrip k isd c) s = .next t ∧ t.laneState e = 5 ∧
      t.fld (LANE_STAT e) LANE_STAT_CAUSE = (if s.laneState e = 5 ∧ s.fld (LANE_STAT e) LANE_STAT_CAUSE = 4 then 4 else 2) ∧
      t.fld (LANE_STAT e) LANE_STAT_RLY = 0 ∧ (t.lane e).drive = .off ∧ t.hasEvt (EVT_LANE_SHORT e) ∧ t.hasEvt (EVT_LANE_LATCH e)) ∧
    (s.laneState e = 1 → x.causes = [.short] → ∃ t, exec (.retryWaitExpiry k) s = .next t ∧ t.laneState e = 4 ∧
      t.fld (LANE_STAT e) LANE_STAT_RLY = 1 ∧ t.fld (LANE_STAT e) LANE_STAT_CAUSE = 0 ∧ (t.lane e).causes = [] ∧
      (t.lane e).rampLeft = 768 * s.fld (LANE_RAMP e) LANE_RAMP_RAMP ∧ (tries < 15 → t.fld (LANE_STAT e) LANE_STAT_TRY = tries + 1)) ∧
    (s.laneState e ≠ 1 ∨ SafeCause.short ∉ x.causes → exec (.retryWaitExpiry k) s = .next s) ∧
    (s.laneState e = 3 → x.rampLeft = 0 → ∃ t, exec (.tryReset k) s = .next t ∧ t.fld (LANE_STAT e) LANE_STAT_TRY = 0 ∧
      t.laneState e = 3 ∧ OnlyRegs [LANE_STAT e] s t) ∧
    (s.laneState e ≠ 3 ∨ x.rampLeft ≠ 0 → exec (.tryReset k) s = .next s) ∧
    (s.laneState e = 5 → x.dcNew = false → ∃ t, exec (.laneClr k) s = .next t ∧ t.fld (LANE_STAT e) LANE_STAT_TRY = 0 ∧
      t.fld (LANE_STAT e) LANE_STAT_RLY = 1 ∧ (t.lane e).drive = .off ∧
      (s.senseGood e = true → t.laneState e = 2 ∧ t.fld (LANE_STAT e) LANE_STAT_CAUSE = 0) ∧
      (s.senseGood e = false → t.laneState e = 1 ∧ t.fld (LANE_STAT e) LANE_STAT_CAUSE = 5)) ∧
    (s.laneState e ≠ 5 ∨ x.dcNew = true → exec (.laneClr k) s = .next s)

/-- Levees of a lane (R306, R307, R309, R310, R317, R318, R325): a DC offset that lasts latches the lane with its relay open;
a failed sense holds its users in SAFE until it recovers; auxiliary values are scaled each stroke; a temperature at TSD holds
the lane in SAFE; the relay's settling time ends in RUN with the ramp. Where a clause goes beyond the words of the rules, it
is the model's choice: log entries 34 and 36. -/
def Obligations.LaneLevees : Prop :=
  ∀ (s : State) (k : Fin 32) (x : Sense) (aux : List (List Bool)),
    let e := s.leveeOf k
    let dc := s.laneOn e = true ∧ 7680 * s.fld (LANE_DC e) LANE_DC_DC_T ≤ (s.lane e).dcOver ∧ s.laneState e ≠ 0 ∧
      (s.laneState e ≠ 5 ∨ s.fld (LANE_STAT e) LANE_STAT_CAUSE ≠ 4)
    (dc → ∃ t, exec (.dcLatch k) s = .next t ∧ t.laneState e = 5 ∧ t.fld (LANE_STAT e) LANE_STAT_CAUSE = 4 ∧
      t.fld (LANE_STAT e) LANE_STAT_RLY = 0 ∧ (t.lane e).drive = .off ∧ (t.lane e).dcOver = 0 ∧ t.hasEvt (EVT_LANE_DC e) ∧
      t.hasEvt (EVT_LANE_LATCH e)) ∧
    (¬ dc → exec (.dcLatch k) s = .next s) ∧
    (s.isOpen 5 = true → ∃ t, exec (.senseFail x) s = .next t ∧ t.senseBad.contains x = true ∧
      (∀ j ∈ s.senseUsers x, s.laneOn j = true → s.laneState j ≠ 0 → t.hasEvt (EVT_LANE_SENSE j) ∧
        (s.laneState j ≠ 5 → t.laneState j = 1 ∧ (t.lane j).causes.contains .sense = true ∧ (t.lane j).drive = .off) ∧
        (s.laneState j = 5 → t.laneState j = 5)) ∧
      (∀ j : Fin 8, x = .aux j → bitOf (t.reg AUX_STAT) j.val = true)) ∧
    (s.isOpen 5 = false → exec (.senseFail x) s = .next s) ∧
    (∃ t, exec (.senseRecover x) s = .next t ∧ t.senseBad = s.senseBad.filter (· != x) ∧ t.senseBad.contains x = false ∧
      (∀ j : Fin 8, x = .aux j → bitOf (t.reg AUX_STAT) j.val = false) ∧
      (e ∈ s.senseUsers x → s.senseBad = [x] → s.laneState e = 1 → (s.lane e).causes = [.sense] → t.laneState e = 2 ∧
        t.fld (LANE_STAT e) LANE_STAT_RLY = 1 ∧ (t.lane e).causes = [])) ∧
    (s.isOpen 5 = true → ∃ t, exec (.leveeStrokeUpdate aux) s = .next t ∧ ∀ j < 8,
      let bits := ((aux.getD j []).reverse ++ SMap.get (fun _ => []) s.auxBits j).take 6142
      SMap.get (fun _ => []) t.auxBits j = bits ∧
      t.reg (AUX_VAL j) = if s.on (AUX_CFG j) AUX_CFG_EN = true ∧ bitOf (s.reg AUX_STAT) j = false
        then auxValue (s.reg (AUX_GAIN j)) (s.reg (AUX_OFS j)) (sinc3 2048 bits) else s.reg (AUX_VAL j)) ∧
    (s.isOpen 5 = false → exec (.leveeStrokeUpdate aux) s = .next s) ∧
    (s.laneOn k = true → s.on (LANE_CFG k) LANE_CFG_TEN = true → bitOf (s.reg AUX_STAT) (s.fld (LANE_CFG k) LANE_CFG_TSRC) = false →
      65536 * (s.fld (LANE_THERM k) LANE_THERM_TSD : Int) ≤ (s.reg (AUX_VAL (s.fld (LANE_CFG k) LANE_CFG_TSRC))).toInt →
      s.laneState k ≠ 0 → s.laneState k ≠ 5 →
      let t := s.laneThermal k
      t.laneState k = 1 ∧ t.fld (LANE_STAT k) LANE_STAT_CAUSE = 3 ∧ (t.lane k).drive = .off ∧ t.hasEvt (EVT_LANE_THERM k)) ∧
    (s.laneState e = 2 → ∃ t, exec (.relaySettleExpiry k) s = .next t ∧ t.laneState e = 3 ∧ t.fld (LANE_STAT e) LANE_STAT_RLY = 1 ∧
      t.fld (LANE_STAT e) LANE_STAT_CAUSE = 0 ∧ (t.lane e).rampLeft = 768 * s.fld (LANE_RAMP e) LANE_RAMP_RAMP) ∧
    (s.laneState e ≠ 2 → exec (.relaySettleExpiry k) s = .next s)

/-- Load sense and calibration (R322 to R324, R327, R600): a window gives LOAD_Z and the load's class, with its event where
the class changes; the next runs only in RUN with LSEN and a quiet programme; a calibration runs at once in SAFE, LATCHED or
DISABLED and in the muted modes, and is deferred with EVT_MF_BUSY else; its end writes LANE_IOFS. Where a clause goes beyond
the words of the rules, it is the model's choice: log entry 35. -/
def Obligations.LoadSense : Prop :=
  ∀ (s : State) (k : Fin 32),
    let e := s.leveeOf k
    let want := s.laneOn e = true ∧ s.on (LANE_LS e) LANE_LS_LSEN = true ∧ s.laneState e = 3
    let quiet := quietLevel (s.lane e).sq (s.lane e).sqN (s.fld (LANE_LS e) LANE_LS_LEVEL) = true
    let still := s.laneState e = 1 ∨ s.laneState e = 5 ∨ s.laneState e = 0 ∨ s.live = false
    let full := (s.lane k).calibrating = true ∧ 76800 ≤ (s.lane k).calN
    (∃ t, exec (.loadSenseWindowEnd k) s = .next t ∧ (want ∧ quiet → (t.lane e).window = some {}) ∧
      (¬ (want ∧ quiet) → (t.lane e).window = none) ∧ (t.lane e).sq = 0 ∧ (t.lane e).sqN = 0 ∧
      (want → (t.on (LANE_STAT e) LANE_STAT_LSSKIP = true ↔ ¬ quiet)) ∧
      (∀ w, (s.lane e).window = some w →
        let z := loadZ w (s.fld (LANE_SCALE e) LANE_SCALE_VFS) (s.fld (LANE_SCALE e) LANE_SCALE_IFS)
        (z ≤ 65534 → (t.reg (LANE_LOAD_Z e)).toNat = z) ∧ (65534 < z → t.reg (LANE_LOAD_Z e) = 0xFFFF) ∧
        t.fld (LANE_STAT e) LANE_STAT_LOAD = (if 10 * s.fld (LANE_LS_TH e) LANE_LS_TH_OPEN < z then 1
          else if 200 ≤ z ∧ z ≤ 1600 then 2 else if z < 10 * s.fld (LANE_LS_TH e) LANE_LS_TH_SHORT then 3 else 4) ∧
        (t.fld (LANE_STAT e) LANE_STAT_LOAD ≠ s.fld (LANE_STAT e) LANE_STAT_LOAD → t.hasEvt (EVT_LANE_LOAD e))) ∧
      ((s.lane e).window = none → t.reg (LANE_LOAD_Z e) = s.reg (LANE_LOAD_Z e))) ∧
    (s.isOpen 5 = true → still → ∃ t, exec (.ical k) s = .next t ∧ (t.lane k).calibrating = true ∧ (t.lane k).calSum = 0 ∧
      (t.lane k).calN = 0 ∧ t.on (LANE_STAT k) LANE_STAT_CALPEND = false) ∧
    (s.isOpen 5 = true → ¬ still → ∃ t, exec (.ical k) s = .next t ∧ t.on (LANE_STAT k) LANE_STAT_CALPEND = true ∧ t.hasEvt EVT_MF_BUSY ∧
      t.lanes = s.lanes) ∧
    (s.isOpen 5 = false → exec (.ical k) s = .next s) ∧
    (full → ∃ t, exec (.calibrationDone k) s = .next t ∧
      t.reg (LANE_IOFS k) = wrap 32 (sat 32 ((s.lane k).calSum / (s.lane k).calN)) ∧ (t.lane k).calibrating = false ∧
      OnlyRegs [LANE_IOFS k] s (t.withLanes s.lanes)) ∧
    (¬ full → exec (.calibrationDone k) s = .next s)

/-! ### Memory protection -/

/-- What a read of an SRAM word delivers, by its syndrome (R559 to R561): a clean word as it is; one flipped bit corrected and
written back; two flipped bits poison, written back as stored poison; stored poison read back. Error injection (R566 to R568,
R601): an ARM is accepted or refused and deferred; the next write that does not carry poison stores its word with the mask's
bits flipped, and is recorded. Where a clause goes beyond the words of the rules, it is the model's choice: log entry 10. -/
def Obligations.CodeWordsAndInjection : Prop :=
  (∀ (s : State) (a g : Nat), groupOf a = some g → a % wordLen a = 0 →
      let m := s.markAt a
      let n := ones m.dflip + ones m.cflip
      let t := (s.readWord a).2
      let r := (s.readWord a).1
      (n = 0 → t = s ∧ r.w = s.rawWord a ∧ r.psn = m.poison) ∧
      (n = 1 → m.poison = false → r.psn = false ∧ r.w = s.rawWord a ^^^ m.dflip ∧ t.markAt a = {} ∧
        ((s.rawWord a ^^^ m.dflip).toNat < 256 ^ wordLen a → t.rawWord a = s.rawWord a ^^^ m.dflip) ∧
        (s.injected g a m = false → t.hasEvt (EVT_MEM_CE g)) ∧ (s.injected g a m = true → t.hasEvt (EVT_MEM_INJECTED g))) ∧
      ((n = 2 ∧ m.poison = false) ∨ (n = 1 ∧ m.poison = true) → r.psn = true ∧ t.markAt a = { poison := true } ∧ t.rawWord a = s.rawWord a ∧
        (s.injected g a m = false → t.hasEvt (EVT_MEM_UE g)) ∧ (s.injected g a m = true → t.hasEvt (EVT_MEM_INJECTED g))) ∧
      (∀ x, x < a ∨ a + wordLen a ≤ x → t.byte x = s.byte x)) ∧
  (∀ (s : State) (g : Fin 21),
      (s.armOk g = true → ∃ t, exec (.flipArm g) s = .next t ∧ t.on (MEM_FLIP_STAT g) MEM_FLIP_STAT_ARMED = true ∧
        t.on (MEM_FLIP_STAT g) MEM_FLIP_STAT_REFUSED = false ∧ (t.group g).armLater = false ∧ OnlyRegs [MEM_FLIP_STAT g] s (t.withGroups s.groups)) ∧
      (s.armOk g = false → ∃ t, exec (.flipArm g) s = .next t ∧ t.on (MEM_FLIP_STAT g) MEM_FLIP_STAT_REFUSED = true ∧
        t.on (MEM_FLIP_STAT g) MEM_FLIP_STAT_ARMED = s.on (MEM_FLIP_STAT g) MEM_FLIP_STAT_ARMED ∧ (t.group g).armLater = true ∧ t.hasEvt EVT_MF_BUSY) ∧
      (s.muted = true → s.armOk g = true) ∧ (s.muted = false → s.live = false → s.armOk g = false) ∧
      (s.live = true → s.on (MEM_FLIP_ADDR g) MEM_FLIP_ADDR_MATCH = false → s.armOk g = false) ∧
      (∃ t, exec (.flipDisarm g) s = .next t ∧ t.on (MEM_FLIP_STAT g) MEM_FLIP_STAT_ARMED = false ∧
        t.on (MEM_FLIP_STAT g) MEM_FLIP_STAT_RECORD = s.on (MEM_FLIP_STAT g) MEM_FLIP_STAT_RECORD ∧ (t.group g).armLater = false ∧
        OnlyRegs [MEM_FLIP_STAT g] s (t.withGroups s.groups)) ∧
      (∀ (a : Nat) (w : Word64), groupOf a = some g.val → a % 8 = 0 → wordLen a = 8 → a < 2 ^ 32 →
        s.on (MEM_FLIP_STAT g) MEM_FLIP_STAT_ARMED = true → s.flipTakes g a = true →
        let t := s.storeWord a w false false
        let d := (s.flipMask g a).1
        t.rawWord a = w ^^^ d ∧ t.markAt a = ⟨false, d, (s.flipMask g a).2⟩ ∧ t.on (MEM_FLIP_STAT g) MEM_FLIP_STAT_ARMED = false ∧
        t.on (MEM_FLIP_STAT g) MEM_FLIP_STAT_RECORD = true ∧ (t.reg (MEM_INJ_ADDR g)).toNat = a))

/-- Scrubs and patrols (R569 to R572): GO starts at the first word of the range, STOP ends it, each word in turn is read, and
the last sets DONE. Spare rows and the two maps of scribe SRAM (R565, R573, R574): a hard word's row goes to a spare while its
segment has one; a poisoned map word is rewritten clean. Where a clause goes beyond the words of the rules, it is the model's
choice: log entries 18, 19, 20 and 21. -/
def Obligations.ScrubbingAndRepairs : Prop :=
  (∀ (s : State) (g : Fin 21) (stuck : Bool),
      let lo := (s.reg (MEM_SCRUB_START g)).toNat
      let hi := (s.reg (MEM_SCRUB_END g)).toNat
      let a := (s.reg (MEM_SCRUB_POS g)).toNat
      let state := fun (t : State) => t.fld (MEM_SCRUB_STAT g) MEM_SCRUB_STAT_STATE
      ((s.group g).scrub = true → ∃ t, exec (.scrubGo g) s = .next t ∧ t.on (MEM_SCRUB_STAT g) MEM_SCRUB_STAT_BUSY = true ∧ OnlyRegs [MEM_SCRUB_STAT g] s t) ∧
      (∀ w, (s.group g).scrub = false → nextWord g lo = some w → lo ≤ hi → w ≤ hi → ∃ t, exec (.scrubGo g) s = .next t ∧ state t = 1 ∧
        (t.group g).scrub = true ∧ t.reg (MEM_SCRUB_POS g) = BitVec.ofNat 32 w ∧ t.reg (MEM_SUM_CE g) = 0 ∧ t.reg (MEM_SUM_UE g) = 0 ∧
        t.reg (MEM_SUM_POISON g) = 0 ∧ t.reg (MEM_SUM_INJ g) = 0 ∧ t.reg (MEM_SUM_SKIP g) = 0 ∧ t.reg (MEM_SUM_FIRST g) = 0xFFFFFFFF ∧
        t.reg (MEM_SUM_LAST g) = 0xFFFFFFFF) ∧
      ((s.group g).scrub = false → hi < lo ∨ nextWord g lo = none → ∃ t, exec (.scrubGo g) s = .next t ∧ state t = 4 ∧ (t.group g).scrub = false) ∧
      ((s.group g).scrub = true → ∃ t, exec (.scrubStop g) s = .next t ∧ state t = 3 ∧ (t.group g).scrub = false ∧
        OnlyRegs [MEM_SCRUB_STAT g] s (t.withGroups s.groups)) ∧
      ((s.group g).scrub = false → exec (.scrubStop g) s = .next s) ∧
      (∀ w, (s.group g).scrub = true → nextWord g (a + wordLen a) = some w → w < 2 ^ 32 → ∃ t, exec (.scrubWord g stuck) s = .next t ∧
        (t.reg (MEM_SCRUB_POS g)).toNat = w ∧ (w ≤ hi → state t = state s) ∧
        (hi < w → state t = 2 ∧ (t.group g).scrub = false ∧ t.hasEvt (EVT_MEM_SCRUB_DONE g))) ∧
      ((s.group g).scrub = true → nextWord g (a + wordLen a) = none → ∃ t, exec (.scrubWord g stuck) s = .next t ∧ state t = 2 ∧
        (t.group g).scrub = false ∧ t.hasEvt (EVT_MEM_SCRUB_DONE g)) ∧
      (∀ b, (s.group g).scrub = false → (s.group g).patrol = some b → ∃ t, exec (.scrubWord g stuck) s = .next t ∧
        (t.group g).patrol = nextWord g (b + wordLen b) ∧ (t.on (MEM_SCRUB_STAT g) MEM_SCRUB_STAT_PATROL = true ↔ (nextWord g (b + wordLen b)).isSome = true)) ∧
      ((s.group g).scrub = false → (s.group g).patrol = none → exec (.scrubWord g stuck) s = .next s) ∧
      (s.scribeActs = true → (s.group g).patrol = none → ∃ t, exec (.patrolStart g) s = .next t ∧ (t.group g).patrol = nextWord g 0 ∧
        OnlyRegs [MEM_SCRUB_STAT g] s (t.withGroups s.groups)) ∧
      (s.scribeActs = false ∨ (s.group g).patrol.isSome = true → exec (.patrolStart g) s = .next s)) ∧
  (∀ (s : State) (g : Fin 21) (addr : Word),
      let c := addr.toNat / 8 * 8
      let image := joinWords 64 (imageAt (s.imageRange c 8) (c + 4)) (imageAt (s.imageRange c 8) c)
      (∀ a rest x row, s.scribeActs = true → (s.group g).hard = a :: rest → segOf a = some (x, row) → s.on (MEM_REPAIR g) MEM_REPAIR_AUTO = true →
        s.segUsed x < 8 → ∃ t, exec (.rowRepairCommit g) s = .next t ∧ a ∉ (t.group g).hard ∧ t.hasEvt (EVT_MEM_REPAIR g)) ∧
      (∀ a rest x row, s.scribeActs = true → (s.group g).hard = a :: rest → segOf a = some (x, row) → s.on (MEM_REPAIR g) MEM_REPAIR_AUTO = true →
        8 ≤ s.segUsed x → ∃ t, exec (.rowRepairCommit g) s = .next t ∧ (t.group g).hard = rest ∧ t.withGroups s.groups = s) ∧
      (s.scribeActs = false ∨ (s.group g).hard = [] ∨ s.on (MEM_REPAIR g) MEM_REPAIR_AUTO = false → exec (.rowRepairCommit g) s = .next s) ∧
      (s.scribeActs = true → inScribeMap c = true → (s.peek c).psn = true → s.on (MEM_FLIP_STAT 0) MEM_FLIP_STAT_ARMED = false →
        ∃ t, exec (.scribeMapRewrite addr) s = .next t ∧ t.peek c = ⟨image, false, .clean, false⟩ ∧ ∀ x, x < c ∨ c + 8 ≤ x → t.byte x = s.byte x) ∧
      (s.scribeActs = false ∨ inScribeMap c = false ∨ (s.peek c).psn = false → exec (.scribeMapRewrite addr) s = .next s))

/-! ### References, time bases, PTP -/

/-- The reference inputs and the clean-up loop (R443, R446, R449, R451, R455, R458, R459, R464): edges and absence, the rows
that qualify an input, the loop without a reference, with a new one, and its narrowing. Where a clause goes beyond the words
of the rules, it is the model's choice: log entries 65 and 66. -/
def Obligations.References : Prop :=
  ∀ (s : State) (i : Fin 6) (c : BitVec 64),
    let x := s.refIn i
    let fast := (s.reg (MON_FAST i)).toInt
    let tbw : Rat := (bits (s.reg REF_LOOP) 5 0 : Rat) / 10
    (bitOf (s.reg REF_IN_CFG) i.val = true → ∃ t, exec (.referenceEdge i c) s = .next t ∧
      t.refIn i = { x with present := true, edge := (match x.edge with | some e => if s.oldStamp e then some c else some e | none => some c) } ∧ (∀ j, j ≠ i.val → t.refIn j = s.refIn j) ∧ t.regs = s.regs) ∧
    (bitOf (s.reg REF_IN_CFG) i.val = false → exec (.referenceEdge i c) s = .next s) ∧
    (∃ t, exec (.refInputAbsent i) s = .next t ∧ t.refIn i = { x with present := false, edge := none, stamps := [], whole := false } ∧
      (∀ j, j ≠ i.val → t.refIn j = s.refIn j) ∧ t.regs = s.regs) ∧
    (∃ t, exec .selectorEvaluation s = .next t ∧ (∀ j < 6, (t.refIn j).edge = none) ∧ t.ref.evals = s.ref.evals + 1 ∧
      t.tim = (s.atRoot 51200).tim ∧
      ((∀ j < 6, s.refPresent j = false) → (∀ j < 6, t.monState j = 0) ∧
        (s.loop = 3 → s.activeIn < 6 → t.loop = 4 ∧ t.activeIn = 6 ∧ t.hasEvt EVT_REF_HOLDOVER))) ∧
    (let t := s.qualify i;
      (s.refPresent i = false → t.monState i = 0 ∧ (s.monState i ≠ 0 → t.on (MON_STAT i) MON_STAT_LOSS = true)) ∧
      (s.refPresent i = true → fast < -100000 ∨ 100000 < fast → t.monState i = 1 ∧ t.on (MON_STAT i) MON_STAT_HARD = true) ∧
      (s.refPresent i = true → -100000 ≤ fast → fast ≤ 100000 → s.monState i = 3 →
        (t.monState i = 1 ↔ bits (s.reg REF_QUAL) 23 16 ≤ s.fld (MON_STAT i) MON_STAT_OUT) ∧ (t.monState i = 1 ∨ t.monState i = 3)) ∧
      (s.refPresent i = true → -100000 ≤ fast → fast ≤ 100000 → s.monState i ≠ 3 →
        (t.monState i = 3 ↔ bits (s.reg REF_QUAL) 15 8 ≤ s.fld (MON_STAT i) MON_STAT_IN ∨ (x.judged = false ∧ 2 ≤ s.fld (MON_STAT i) MON_STAT_IN))) ∧
      (bitOf (t.reg REF_STAT) (8 + i.val) = true ↔ t.monState i = 3) ∧
      (s.monState i = 3 → t.monState i ≠ 3 → t.hasEvt EVT_REF_DISQ) ∧ (s.monState i ≠ 3 → t.monState i = 3 → t.hasEvt EVT_REF_QUAL)) ∧
    (s.loop = 3 → let t := s.enterHoldover
      t.loop = 4 ∧ t.activeIn = 6 ∧ t.on REF_STAT REF_STAT_LOCKED = false ∧ t.reg REF_HOLDTIME = 0 ∧ t.hasEvt EVT_REF_HOLDOVER ∧
      t.hasEvt EVT_REF_SWITCH ∧ (s.on REF_STAT REF_STAT_LOCKED = true → t.hasEvt EVT_REF_UNLOCK) ∧
      (s.on REF_STAT REF_STAT_HISTOK = false → t.ref.y = s.ref.y) ∧
      (s.on REF_STAT REF_STAT_HISTOK = true → t.ref.y = max (-yLimit) (min yLimit s.ref.h))) ∧
    (s.loop = 0 → let t := s.activate i
      t.loop = 1 ∧ t.activeIn = i.val ∧ t.hasEvt EVT_REF_SWITCH ∧ t.ref.y = s.ref.y) ∧
    (s.loop = 4 → let t := s.activate i
      t.loop = 3 ∧ t.activeIn = i.val ∧ t.hasEvt EVT_REF_SWITCH ∧ t.ref.fresh = true ∧ t.ref.y = max (-yLimit) (min yLimit (ppbToY (s.reg (MON_FREQ i))))) ∧
    (s.loop = 2 → ∃ t, exec .narrowStepExpiry s = .next t ∧ t.ref.band = max tbw (s.ref.band / 4) ∧
      t.loop = (if s.ref.band / 4 ≤ tbw then 3 else 2) ∧
      t.fld REF_STAT REF_STAT_STEP = min 7 (s.fld REF_STAT REF_STAT_STEP + 1)) ∧
    (s.loop ≠ 2 → exec .narrowStepExpiry s = .next s)

/-- The time bases (R57, R470, R472 to R476): a triad moves a base by the nominal advance and RATE + P within the slew limit,
and P by what that takes up; a SET takes effect at B(n) where a step is allowed, and is refused elsewhere; TB_ADJ adds to the
P of TB3. Where a clause goes beyond the words of the rules, it is the model's choice: log entries 63 and 115. -/
def Obligations.TimeBases : Prop :=
  (∀ (b : TimeBase) (rate slew : Int), 0 ≤ slew →
    let a := max (-slew) (min slew (rate + b.p))
    b.run rate slew 1 = { v := tbMove b.v (triadUnits + a), p := max (-pendLimit) (min pendLimit (b.p - (a - rate))), tri := b.tri + 1 }) ∧
  ∀ (s : State) (i : Fin 4) (w : Word),
    (s.tim.sysCnt.toNat + 3 < 2 ^ 64 → ∃ t, exec .triadAdvance s = .next t ∧ t.tim.sysCnt.toNat = (s.tim.sysCnt.toNat / 3 + 1) * 3 ∧
      t.tb i = (s.tb i).run (s.tbRate i) (s.tbSlew i) (s.tim.sysCnt.toNat / 3 + 1 - (s.tb i).tri) ∧ t.regs = s.regs) ∧
    (s.mayStep i = true → ∃ t, exec (.tbSet i) s = .next t ∧ t.hasEvt (EVT_TB_STEP i) ∧
      (s.tim.sysCnt = s.tim.bnd → t.tbNow i = s.tbSetValue i % tbModulus) ∧
      (s.governs i = true → s.mode = 2 ∨ s.mode = 6 → t.tim.due = true)) ∧
    (s.mayStep i = false → ∃ t, exec (.tbSet i) s = .next t ∧ t.hasEvt EVT_TB_REFUSE ∧ t.tbs = s.tbs ∧ t.tim = s.tim) ∧
    (s.mayStep i = true ↔ s.mode = 2 ∨ s.mode = 6 ∨ s.fld STK_STAT STK_STAT_GOV ≠ i.val) ∧
    (i = 3 → ∃ t, exec (.tbAdj i w) s = .next t ∧ (t.tb 3).p = max (-pendLimit) (min pendLimit (s.tbPend 3 + w.toInt * nsUnits)) ∧
      (∀ j, j ≠ 3 → t.tb j = s.tb j) ∧ t.tim = s.tim ∧ t.regs = s.regs) ∧
    (i ≠ 3 → exec (.tbAdj i w) s = .next s)

/-- PTP messages (R477 to R484): one that its instance does not take changes nothing more; a Sync of the parent in SLAVE state
gives the offset from master, at once or with its Follow_Up; the responses to a delay request give the mean path delay; a
better Announce makes its sender the parent. The delay mechanisms (R477, R478, R480, R483): a master answers a request, a peer
a peer request; the answer to this instance's own request gives the mean path delay, end to end from the last Sync, or from
peer to peer. PTP timeouts and messages sent (R478, R479, R482, R484): without Announce a clock that may be master becomes
master, another listens; without offsets LOCK falls; a Sync is numbered and stamped, and its Follow_Up carries the stamp.
Where a clause goes beyond the words of the rules, it is the model's choice: log entries 60, 61, 62 and 115. -/
def Obligations.PtpInstances : Prop :=
  (∀ (s : State) (w : Fin 2) (y : PtpSync) (f : PtpFollowUp) (a : PtpAnnounce),
      let offset := fun (u : State) (t1 : PtpTime) (corr : Int) (rx : BitVec 64) =>
        BitVec.ofInt 32 (sat 32 ((u.rxTime w rx - (ptpUnits t1 + 2 ^ 16 * corr) - (u.ptp w).delay - (u.reg (PTP_ASYM w)).toInt * nsUnits) / nsUnits))
      let measures := fun (u : State) => u.ptpState w = 9 ∧ (u.ptp w).delayOk = true ∧ (u.ptp w).discard = false
      (let u := (s.ptpIn w y.wire).2
        let takes := (s.ptpIn w y.wire).1 = true ∧ u.ptpState w = 9 ∧ u.ptpParent w y.wire = true
        (¬ takes → exec (.ptpSync w y) s = .next u) ∧
        (takes → y.twoStep = true → ∃ t, exec (.ptpSync w y) s = .next t ∧ (t.ptp w).waiting = some y ∧ t.tbs = u.tbs) ∧
        (takes → y.twoStep = false → ∃ t, exec (.ptpSync w y) s = .next t ∧ (t.ptp w).waiting = none ∧
          (t.ptp w).sync = some (ptpUnits y.origin + 2 ^ 16 * y.corr, u.rxTime w y.rx) ∧
          (measures u → t.reg (PTP_OFFSET w) = offset u y.origin y.corr y.rx))) ∧
      (let u := (s.ptpIn w f.wire).2
        let takes := (s.ptpIn w f.wire).1 = true ∧ u.ptpParent w f.wire = true
        (¬ takes ∨ (u.ptp w).waiting = none → exec (.ptpFollowUp w f) s = .next u) ∧
        (∀ z, takes → (u.ptp w).waiting = some z → z.seq ≠ f.seq → exec (.ptpFollowUp w f) s = .next u) ∧
        (∀ z, takes → (u.ptp w).waiting = some z → z.seq = f.seq → ∃ t, exec (.ptpFollowUp w f) s = .next t ∧
          (t.ptp w).waiting = none ∧ (measures u → t.reg (PTP_OFFSET w) = offset u f.origin (z.corr + f.corr) z.rx))) ∧
      (let u := (s.ptpIn w a.wire).2
        let slaveOnly := u.on (PTP_CFG w) PTP_CFG_MASTER = false
        ((s.ptpIn w a.wire).1 = false → exec (.ptpAnnounce w a) s = .next u) ∧
        ((s.ptpIn w a.wire).1 = true → slaveOnly → ((u.ptp w).parent = none ∨
            ∃ g n, (u.ptp w).parent = some (g, n) ∧ (g = a.wire.sender ∨ a.dataset.toNat < n.toNat)) →
          ∃ t, exec (.ptpAnnounce w a) s = .next t ∧ t.ptpState w = 9 ∧ (t.ptp w).parent = some (a.wire.sender, a.dataset) ∧
            joinWords 64 (t.reg (PTP_GM_HI w)) (t.reg (PTP_GM_LO w)) = a.gm ∧ (t.reg (PTP_STAT w)).toNat % 2 ^ 16 = a.utc.toNat) ∧
        (∀ g n, (s.ptpIn w a.wire).1 = true → slaveOnly → (u.ptp w).parent = some (g, n) → g ≠ a.wire.sender → n.toNat ≤ a.dataset.toNat →
          exec (.ptpAnnounce w a) s = .next u))) ∧
  (∀ (s : State) (w : Fin 2) (d : PtpDelay),
      let u := (s.ptpIn w d.wire).2
      let p2p := u.ptpP2p w = true
      let mine := (s.ptpIn w d.wire).1 = true ∧ d.port = u.portId w
      let sends := (s.ptpIn w d.wire).1 = true ∧ u.portLive (u.activePort w) = true ∧ u.isSealing = false
      let sent := fun (t : State) => (t.netPort (u.activePort w)).sent
      let gives := fun (delay : Int) => ∃ t, exec (.ptpDelayMessage w d) s = .next t ∧ (t.ptp w).delayOk = true ∧
        (t.ptp w).delay = delay ∧ (t.ptp w).req = none ∧ (u.fld (PTP_CFG w) PTP_CFG_PROFILE = 2 → t.on (PTP_STAT w) PTP_STAT_ASCAPABLE = true)
      ((s.ptpIn w d.wire).1 = false → exec (.ptpDelayMessage w d) s = .next u) ∧
      (∀ rx, d.body = .req rx → sends → ¬ p2p → u.ptpState w = 6 → ∃ t, exec (.ptpDelayMessage w d) s = .next t ∧
        Frame.ptp .delayResp d.seq (some (unitsPtp (u.rxTime w rx).toNat)) d.port ∈ sent t) ∧
      (∀ receive t1 t2 t3, d.body = .resp receive → mine → ¬ p2p → u.ptpParent w d.wire = true → (u.ptp w).sync = some (t1, t2) →
        (u.ptp w).req = some (d.seq, t3) → gives (((t2 - t1) + (ptpUnits receive - t3) - 2 ^ 16 * d.corr) / 2)) ∧
      (∀ rx, d.body = .pdelayReq rx → sends → p2p → ∃ t, exec (.ptpDelayMessage w d) s = .next t ∧
        Frame.ptp .pdelayResp d.seq (some (unitsPtp (u.rxTime w rx).toNat)) d.port ∈ sent t ∧
        Frame.ptp .pdelayRespFollowUp d.seq (some (unitsPtp (u.txTime w u.tim.sysCnt))) d.port ∈ sent t) ∧
      (∀ receipt rx t1, d.body = .pdelayResp false receipt rx → mine → p2p → (u.ptp w).req = some (d.seq, t1) →
        gives ((u.rxTime w rx - t1 - 2 ^ 16 * d.corr) / 2)) ∧
      (∀ receipt rx t1, d.body = .pdelayResp true receipt rx → mine → p2p → (u.ptp w).req = some (d.seq, t1) →
        ∃ t, exec (.ptpDelayMessage w d) s = .next t ∧ (t.ptp w).peer = some (d.seq, ptpUnits receipt - 2 ^ 16 * d.corr, u.rxTime w rx) ∧
          (t.ptp w).delay = (u.ptp w).delay) ∧
      (∀ origin t1 t2 t4, d.body = .pdelayRespFollowUp origin → mine → p2p → (u.ptp w).peer = some (d.seq, t2, t4) →
        (u.ptp w).req = some (d.seq, t1) → gives (((t4 - t1) - (ptpUnits origin - t2) - 2 ^ 16 * d.corr) / 2))) ∧
  (∀ (s : State) (w : Fin 2) (k : PtpKind),
      (s.ptpRuns w = true → ∃ t, exec (.announceReceiptTimeout w) s = .next t ∧ (t.ptp w).parent = none ∧ t.on (PTP_STAT w) PTP_STAT_LOCK = false ∧
        t.ptpState w = (if s.on (PTP_CFG w) PTP_CFG_MASTER = true then 6 else 4)) ∧
      (s.ptpRuns w = false → exec (.announceReceiptTimeout w) s = .next s) ∧
      (∃ t, exec (.syncTimeout w) s = .next t ∧ t.on (PTP_STAT w) PTP_STAT_LOCK = false ∧ t.on (TB_STAT w) TB_STAT_LOCK = false ∧
        t.ptpState w = s.ptpState w ∧ (s.on (PTP_STAT w) PTP_STAT_LOCK = true → t.hasEvt (EVT_TB_UNLOCK w))) ∧
      (let sends := s.ptpRuns w = true ∧ s.ptpSends w k = true ∧ s.portLive (s.activePort w) = true ∧ s.isSealing = false
        let q := SMap.get (fun _ => 0) (s.ptp w).seqs (ptpKindIx k)
        let f := if k = .followUp then Frame.ptp k (s.ptp w).lastSync (s.ptp w).stamp (s.portId w) else .ptp k q none (s.portId w)
        (¬ sends → exec (.ptpMessageDue w k) s = .next s) ∧
        (sends → ∃ t, exec (.ptpMessageDue w k) s = .next t ∧ f ∈ (t.netPort (s.activePort w)).sent ∧
          ((s.netPort (s.activePort w)).queued = [] → (t.netPort (s.activePort w)).sent = (s.netPort (s.activePort w)).sent ++ [f]) ∧
          (k ≠ .followUp → SMap.get (fun _ => 0) (t.ptp w).seqs (ptpKindIx k) = q + 1) ∧
          (k = .sync → (t.ptp w).lastSync = q ∧ (t.ptp w).stamp = some (unitsPtp (s.txTime w s.tim.sysCnt))) ∧
          (k = .delayReq ∨ k = .pdelayReq → (t.ptp w).req = some (q, (s.txTime w s.tim.sysCnt : Int))) ∧
          (k = .followUp → t.ptp w = s.ptp w))))

/-- Pulses and captures (R488 to R496): an arm outside the modes in which pulses run does nothing, one of a grid pulse whose Q
does not fit leaves it disarmed; a pulse counts the edges passed, starts one width at an edge and stays armed; a capture takes
an edge of its kind that is not closer than 64 cycles, up to 4 entries, and a pop delivers the oldest. Where a clause goes
beyond the words of the rules, it is the model's choice: log entry 64. -/
def Obligations.PulsesAndCaptures : Prop :=
  ∀ (s : State) (k : Fin 16) (c : Fin 8) (rising : Bool) (stamp : BitVec 64) (port : Port),
    let n := s.pulPassed k
    let bad := s.pulBase k = 4 ∧ s.pulQOk k = false
    (s.pulsesRun = false ∨ 4 < s.pulBase k → exec (.pulseArm k) s = .next s) ∧
    (bad → exec (.pulseArm k) s = .next s) ∧
    (s.pulsesRun = true → s.pulBase k ≤ 4 → ¬ bad → ∃ t, exec (.pulseArm k) s = .next t ∧ t.pulArmed k = true ∧ (t.pulse k).passed = n ∧
      (t.on (PUL_STAT k) PUL_STAT_LATE = true ↔ s.pulOnce k = true ∧ n ≠ 0)) ∧
    (∃ t, exec (.pulseDisarm k) s = .next t ∧ t.pulArmed k = false ∧ OnlyRegs [PUL_STAT k] s t) ∧
    (s.pulArmed k = true → (s.pulse k).passed < n → ∃ t, exec (.pulseEdge k) s = .next t ∧
      t.pulse k = { passed := n, ends := some (s.tim.sysCnt + BitVec.ofNat 64 (max 1 (s.fld (PUL_WIDTH k) PUL_WIDTH_WIDTH))) } ∧ t.pulArmed k = true) ∧
    (s.pulArmed k = false ∨ n ≤ (s.pulse k).passed → exec (.pulseEdge k) s = .next s) ∧
    ((s.pulse k).ends = none → exec (.pulseWidthEnd k) s = .next s) ∧
    (∀ e, (s.pulse k).ends = some e → ∃ t, exec (.pulseWidthEnd k) s = .next t ∧ (t.pulse k).ends = none ∧ (t.pulse k).passed = (s.pulse k).passed ∧ t.regs = s.regs) ∧
    (let takes := s.on (CAP_CFG c) CAP_CFG_EN = true ∧
        (s.fld (CAP_CFG c) CAP_CFG_EDGE = 3 ∨ (s.fld (CAP_CFG c) CAP_CFG_EDGE = 1 ∧ rising = true) ∨ (s.fld (CAP_CFG c) CAP_CFG_EDGE = 2 ∧ rising = false))
      let close := ∃ l, (s.capt c).last = some l ∧ (stamp - l).toNat < 64
      (¬ takes → exec (.captureEdge c rising stamp) s = .next s) ∧
      (takes → close → ∃ t, exec (.captureEdge c rising stamp) s = .next t ∧ t.capts = s.capts) ∧
      (takes → ¬ close → 4 ≤ (s.capt c).fifo.length → ∃ t, exec (.captureEdge c rising stamp) s = .next t ∧ t.capts = s.capts ∧ t.hasEvt EVT_TB_CAPT_OVF) ∧
      (takes → ¬ close → (s.capt c).fifo.length < 4 → ∃ t e, exec (.captureEdge c rising stamp) s = .next t ∧ (t.capt c).fifo = (s.capt c).fifo ++ [e] ∧
        (t.capt c).last = some stamp ∧ e.sys = stamp ∧ e.rise = rising ∧ e.strk = s.tim.strk.setWidth 16 ∧
        e.times = (List.range 4).map fun b => (tbNs (s.tbAt b stamp), tbSec (s.tbAt b stamp)))) ∧
    ((s.capt c).fifo = [] → ∃ t, exec (.capPop port c) s = .next t ∧ (s.capPop port c).1 = 0 ∧ t.capts = s.capts ∧ t.capWord port c 0x0C = 0) ∧
    (∀ e l, (s.capt c).fifo = e :: l → ∃ t, exec (.capPop port c) s = .next t ∧ (s.capPop port c).1 = loWord e.sys ∧ (t.capt c).fifo = l ∧
      t.capWord port c 0x10 = hiWord e.sys)

/-! ### Network, tags, mirror -/

/-- Links (R336, R337, R339, R371, R483): a link that comes up sends what waited; the loss of the active port's link makes the
standby port active, which announces itself twice, and the report that follows repeats what waited. Control protocols (R341 to
R343): what the VLAN and MAC filters let pass and is the network's own address is answered on the active port; a query waits
at most its maximum response time, and its report names the groups asked for; a frame that reaches no class is dropped and
counted by its reason. Where a clause goes beyond the words of the rules, it is the model's choice: log entries 37, 38, 39 and
113. -/
def Obligations.NetworkLinks : Prop :=
  (∀ (s : State) (i : Fin 4) (w : Fin 2),
      let active := s.activePort (netOf i) = i.val
      let o := (i.val + 2) % 4
      let sent := fun (t : State) (p : Nat) (l : List Frame) => (∀ f ∈ l, f ∈ (t.netPort p).sent) ∧
        ((s.netPort p).queued = [] → (t.netPort p).sent = (s.netPort p).sent ++ l)
      let live := s.portLive (s.activePort w) = true ∧ s.isSealing = false
      let comes := (s.dom i).on = true ∧ s.linkUp i = false ∧ s.on (PORT_CFG i) PORT_CFG_EN = true ∧ s.fld (PORT_CFG i) PORT_CFG_MODE ≠ 0
      let fails := active ∧ s.portLive o = true ∧ (o < 2 ∨ s.on (NW_CFG (netOf i)) NW_CFG_STBY = true)
      (comes → ∃ t, exec (.linkUp i) s = .next t ∧ t.linkUp i = true ∧ t.on (PORT_STAT i) PORT_STAT_LOCK = true ∧
        t.hasEvt EVT_NET_LINK_UP ∧ (active → (t.netPort i).queued = [] ∧
          (t.netPort i).sent = (s.netPort i).sent ++ (List.range 3).flatMap fun q => (s.netPort i).queued.filter fun f => frameQueue f == q) ∧
        (¬ active → t.net = s.net)) ∧
      (¬ comes → exec (.linkUp i) s = .next s) ∧
      (s.linkUp i = true → ∃ t, exec (.linkDown i) s = .next t ∧ t.linkUp i = false ∧ t.on (PORT_STAT i) PORT_STAT_LOCK = false ∧ t.hasEvt EVT_NET_LINK_DOWN ∧
        (fails → t.activePort (netOf i) = o ∧ t.hasEvt EVT_NET_FAILOVER ∧ (t.nw (netOf i)).announce = true ∧ (t.ptp (netOf i)).delayOk = false) ∧
        (¬ fails → t.activePort (netOf i) = s.activePort (netOf i) ∧ t.net = s.net)) ∧
      (s.linkUp i = false → exec (.linkDown i) s = .next s) ∧
      ((s.nw w).announce = true → live → ∃ t, exec (.announceRepeat w) s = .next t ∧ (t.nw w).announce = false ∧ sent t (s.activePort w) (s.announceFrames w)) ∧
      ((s.nw w).announce = false → exec (.announceRepeat w) s = .next s) ∧
      (live → ∃ t, exec (.reportRepeat w) s = .next t ∧ (t.nw w).repeats = [] ∧ ((s.nw w).repeats ≠ [] → sent t (s.activePort w) (s.nw w).repeats))) ∧
  (∀ (s : State) (i : Fin 4) (w : Fin 2) (x : RxWire) (a4 b4 : BitVec 32) (a6 b6 : BitVec 128) (mac : BitVec 48) (q : GroupQuery) (l : List Byte),
      let n := netOf i
      let active := s.activePort n = i.val
      let sent := fun (t : State) (p : Nat) (l : List Frame) => (∀ f ∈ l, f ∈ (t.netPort p).sent) ∧
        ((s.netPort p).queued = [] → (t.netPort p).sent = (s.netPort p).sent ++ l)
      let live := s.portLive (s.activePort w) = true ∧ s.isSealing = false
      let own := a6 = s.nwV6 n false ∨ a6 = s.nwV6 n true
      let u := (s.takesFrame i x false).2
      (let v := (s.takesFrame i x true).2;
        ((s.takesFrame i x true).1 = false ∨ (a4 = s.reg (NW_IPV4 n) ∧ ¬ active) → exec (.arpRequest i x a4 b4 mac) s = .next v) ∧
        ((s.takesFrame i x true).1 = true → a4 ≠ s.reg (NW_IPV4 n) → exec (.arpRequest i x a4 b4 mac) s = .next (v.bump (CTR_PORT_RX_OTHER i))) ∧
        ((s.takesFrame i x true).1 = true → a4 = s.reg (NW_IPV4 n) → active → s.isSealing = false →
          ∃ t, exec (.arpRequest i x a4 b4 mac) s = .next t ∧ sent t i [.arpReply a4 b4 mac])) ∧
      ((s.takesFrame i x false).1 = false → exec (.neighbourSolicitation i x a6 b6 mac) s = .next u ∧ exec (.igmpQuery i x q) s = .next u ∧
        exec (.mldQuery i x q) s = .next u) ∧
      ((s.takesFrame i x false).1 = true →
        (own → ¬ active → exec (.neighbourSolicitation i x a6 b6 mac) s = .next u) ∧
        (¬ own → exec (.neighbourSolicitation i x a6 b6 mac) s = .next (u.bump (CTR_PORT_RX_OTHER i))) ∧
        (own → active → s.isSealing = false → ∃ t, exec (.neighbourSolicitation i x a6 b6 mac) s = .next t ∧ sent t i [.advert a6 (some (b6, mac))]) ∧
        (¬ active → exec (.igmpQuery i x q) s = .next u ∧ exec (.mldQuery i x q) s = .next u) ∧
        (active → ∃ d ≤ q.maxResp, (∃ t, exec (.igmpQuery i x q) s = .next t ∧
            (t.nw n).queries = (s.nw n).queries ++ [(false, q, s.tim.sysCnt + BitVec.ofNat 64 d)]) ∧
          ∃ t, exec (.mldQuery i x q) s = .next t ∧ (t.nw n).queries = (s.nw n).queries ++ [(true, q, s.tim.sysCnt + BitVec.ofNat 64 d)])) ∧
      ((s.portLive i = false ∨ s.dropReason n l = none) → exec (.frameDropped i l) s = .next s) ∧
      (∀ why, s.portLive i = true → s.dropReason n l = some why → ∃ t, exec (.frameDropped i l) s = .next t ∧ t.net = s.net ∧ t.mem = s.mem ∧
        t.reg (PORT_RX_GOOD i) = (if why = .fcs then s.reg (PORT_RX_GOOD i) else (s.rxGood i l.length).reg (PORT_RX_GOOD i)) ∧
        (t.reg (PORT_RX_BYTES_LO i)).toNat = (s.rxBytes i l.length |>.reg (PORT_RX_BYTES_LO i)).toNat) ∧
      ((s.nw w).queries = [] → exec (.queryResponseDue w) s = .next s) ∧
      (∀ v d, (s.nw w).queries = [(v, q, d)] → ∃ t, exec (.queryResponseDue w) s = .next t ∧ (t.nw w).queries = [] ∧
        let g := (s.joined w v).filter fun g => match q.group with | some a => g.addr == a | none => true
        live → g ≠ [] → sent t (s.activePort w) [.report v false g []]))

/-- Streams sent (R348, R351 to R353): a flow's bit alone changes when it is enabled or disabled; a launch counts SEQ of each
enabled flow, and no frame of an earlier stroke stays queued. Streams received (R345, R356, R358, R359, R361): the checks in
their order, each with its counter or event; a first copy in time is buffered, one too early or late is not; a released
stroke's copies give up their data. Where a clause goes beyond the words of the rules, it is the model's choice: log entries
37, 40, 41, 42, 43, 44 and 101. -/
def Obligations.Streams : Prop :=
  (∀ (s : State) (f : Fin 2048) (on : Bool) (i : Fin 4),
      let fresh := fun (t : State) (p : Nat) => ∀ x ∈ (t.netPort p).queued, ∀ a m, frameFlow x = some (a, m) → m = s.tim.strk
      (s.flowEnabled f = on → exec (.flowEnable f on) s = .next s) ∧
      (s.flowEnabled f ≠ on → ∃ t, exec (.flowEnable f on) s = .next t ∧ t.flowEnabled f = on ∧ (∀ g < 2048, g ≠ f.val → t.flowEnabled g = s.flowEnabled g) ∧
        (1024 ≤ f.val → t.rxFlow f = {}) ∧ (f.val < 1024 → t.net = s.net)) ∧
      (∃ t, exec .flowLaunch s = .next t ∧ (∀ p < 4, fresh t p) ∧ t.tim = (s.atRoot 12288).tim ∧
        (s.rulingRuns = true → s.blotOn = false → ∀ g < 1024, s.flowEnabled g = true → s.ftNets g ≠ 0 → s.ftKind g = 0 → s.stateTx g = false →
          (t.txFlow g).seq = (s.txFlow g).seq + 1) ∧
        (s.rulingRuns = false ∨ s.blotOn = true → t.net.tx = s.net.tx)) ∧
      (∃ t, exec (.txPacketDrop i) s = .next t ∧ fresh t i ∧ (∀ p, p ≠ i.val → t.netPort p = s.netPort p) ∧
        ((∃ x ∈ (s.netPort i).queued, ∃ a m, frameFlow x = some (a, m) ∧ m ≠ s.tim.strk) → t.hasEvt EVT_NET_TXDROP))) ∧
  (∀ (s : State) (i : Fin 4) (p : GsfPacket) (r : RtpPacket),
      let okP := (s.takesFrame i ⟨p.mac, p.vid, p.bytes⟩ false).1 = true
      let u := (s.takesFrame i ⟨p.mac, p.vid, p.bytes⟩ false).2
      let okR := (s.takesFrame i ⟨r.mac, r.vid, r.bytes⟩ false).1 = true
      let v := (s.takesFrame i ⟨r.mac, r.vid, r.bytes⟩ false).2
      let w := netOf i
      (¬ okP → exec (.gsfPacket i p) s = .next u) ∧ (¬ okR → exec (.rtpPacket i r) s = .next v) ∧
      (okP → u.gsfMatch w p = none → exec (.gsfPacket i p) s = .next (u.bump (CTR_PORT_RX_NOFLOW i))) ∧
      (∀ f, okP → u.gsfMatch w p = some f →
        let mine := (u.peerRx f = true ∨ u.stateRx f = true) ∧ memberOf p = u.memberBit
        let known := (u.rxFlow f).copies.find? (fun c => c.pkt.stroke == p.stroke && (memberOf c.pkt == memberOf p))
        (mine → exec (.gsfPacket i p) s = .next u) ∧
        (¬ mine → u.formatOk f p = false → exec (.gsfPacket i p) s = .next (u.bump (CTR_RXF_FORMAT (f - 1024)))) ∧
        (¬ mine → u.formatOk f p = true → u.authOk f p = false → ∃ t, exec (.gsfPacket i p) s = .next t ∧ t.hasEvt EVT_NET_AUTH ∧ t.net = s.net) ∧
        (¬ mine → u.formatOk f p = true → u.authOk f p = true → u.peerRx f = false → known = none →
          (u.timing (u.ftJ f) p.stroke = .onTime → ∃ t c, exec (.gsfPacket i p) s = .next t ∧ (t.rxFlow f).copies = (s.rxFlow f).copies ++ [c] ∧
            c.pkt = p ∧ c.first = s.tim.sysCnt ∧ c.released = false ∧ (c.a.isSome = true ↔ w = 0) ∧ (c.b.isSome = true ↔ w = 1)) ∧
          (u.timing (u.ftJ f) p.stroke = .late → ∃ t, exec (.gsfPacket i p) s = .next t ∧ t.net = s.net ∧ t.hasEvt EVT_NET_LATE) ∧
          (u.timing (u.ftJ f) p.stroke = .early → ∃ t, exec (.gsfPacket i p) s = .next t ∧ t.net = s.net)) ∧
        (¬ mine → u.formatOk f p = true → u.authOk f p = true → known ≠ none → ∃ t, exec (.gsfPacket i p) s = .next t ∧
          (t.rxFlow f).copies.length = (s.rxFlow f).copies.length)) ∧
      (okR → v.rtpMatch w r = none → exec (.rtpPacket i r) s = .next (v.bump (CTR_PORT_RX_NOFLOW i))) ∧
      (∀ f, okR → v.rtpMatch w r = some f →
        (r.samples.length % v.ftCh f ≠ 0 ∨ r.odd ≠ 0 → exec (.rtpPacket i r) s = .next (v.bump (CTR_RXF_FORMAT (f - 1024)))) ∧
        (r.samples.length % v.ftCh f = 0 → r.odd = 0 → (∃ c ∈ (v.rxFlow f).rtp, c.ts = r.ts) → ∃ t, exec (.rtpPacket i r) s = .next t ∧
          (t.rxFlow f).rtp.length = (s.rxFlow f).rtp.length) ∧
        (r.samples.length % v.ftCh f = 0 → r.odd = 0 → (∀ c ∈ (v.rxFlow f).rtp, c.ts ≠ r.ts) →
          let x0 := nearestGrid ((v.tim.strk.toNat : Int) * v.samples) (r.ts - v.ft f 14)
          let inTime := ∃ k < r.samples.length / v.ftCh f, v.timing (v.ftJ f) (BitVec.ofInt 48 ((x0 + (k : Int)) / (v.samples : Int))) = .onTime
          (inTime → ∃ t c, exec (.rtpPacket i r) s = .next t ∧ (t.rxFlow f).rtp = (s.rxFlow f).rtp ++ [c] ∧ c.ts = r.ts ∧ c.x0 = x0 ∧
            c.first = s.tim.sysCnt ∧ (c.a.isSome = true ↔ w = 0) ∧ (c.b.isSome = true ↔ w = 1) ∧
            c.rows.length = r.samples.length / v.ftCh f) ∧
          (¬ inTime → ∃ t, exec (.rtpPacket i r) s = .next t ∧ t.net = s.net))) ∧
      (s.inputsWrite = false → exec .jitterRelease s = .next (s.atRoot 94208)) ∧
      (s.inputsWrite = true → ∃ t, exec .jitterRelease s = .next t ∧
        ∀ f, f ∈ s.rxFlows → s.ftNets f ≠ 0 → s.ftKind f = 0 → ∀ c ∈ (t.rxFlow f).copies, c.pkt.stroke = s.tim.strk - BitVec.ofNat 48 (s.ftJ f) →
          c.released = true ∧ c.pkt.samples = [] ∧ c.pkt.tags = []))

/-- Tags, the intake window and the queries (R378, R379, R383, R389, R397, R403): a tag out of sequence is dropped, and one
for another node is not judged; records expire with TAG_HOLD; a record that no ruling entry wrote is dropped; PENDING shows
what phase 5 latched for the word selected. Where a clause goes beyond the words of the rules, it is the model's choice: log
entries 51, 52 and 55. -/
def Obligations.Tags : Prop :=
  ∀ (s : State) (i : Fin 32) (g : RawTag) (idx : Nat) (slot : Fin 256) (l : List (Word × Bool)) (port : Port) (addr : Word),
    (s.tagSeqOk i g = false → s.judgeTag i g = s.bump CTR_TAG_DUP) ∧
    (s.tagSeqOk i g = true → tagNode g ≠ 0xFFFF → tagNode g ≠ bits (s.reg TAG_CFG) 31 16 → (s.judgeTag i g).stager.staged = s.stager.staged) ∧
    (s.tagSeqOk i g = true → SMap.get (fun _ => none) (s.judgeTag i g).stager.seqs i.val = some (tagSeq g)) ∧
    (∃ t, exec .historyExpiry s = .next t ∧
      (∀ h, h ∈ t.stager.hist ↔ h ∈ s.stager.hist ∧ (s.tim.strk - h.applied).toNat ≤ (s.reg TAG_HOLD).toNat % 2 ^ 14) ∧ t.withStager s.stager = s) ∧
    (∃ t, exec (.intakeRecordWrite none slot l) s = .next t ∧ t.stager = s.stager ∧ t.mem = s.mem) ∧
    (∀ e x, s.entry idx = some e → intakeSource e = some x → ∃ t r, exec (.intakeRecordWrite (some idx) slot l) s = .next t ∧
      t.stager.intake = s.stager.intake ++ [r] ∧ r.idx = idx ∧ r.slot = slot ∧ r.src = x ∧ r.words.length = 4 ∧ t.withStager s.stager = s) ∧
    (∃ t, exec (.tagPendAddr port addr) s = .next t ∧ t.withStager s.stager = s ∧
      ∀ c, c ∈ t.pendOf port ↔ c ∈ s.stager.pend ∧ c.target = addr &&& 0xFFFFFFFC)

/-- The mirror pair (R415, R418, R425, R441): the snapshot completes the digest of the stroke that ended; a handover needs an
eligible peer; a resync sends a SHADOW in CHECK or READY to SYNC. Where a clause goes beyond the words of the rules, it is the
model's choice: log entries 56, 58, 59 and 114. -/
def Obligations.Mirror : Prop :=
  ∀ (s : State),
    let gives := s.mode = 3 ∧ s.member = true ∧ s.on MIR_STAT MIR_STAT_PEER_ELIG = true ∧ 5 ∉ s.mf.decided
    let falls := s.mode = 4 ∧ s.member = true ∧ (s.mirState = 4 ∨ s.mirState = 5) ∧ s.mir.next ≠ some 3
    (∃ t, exec .stateDigestSnapshot s = .next t ∧ t.mir.ended = none ∧ (t.mir.sending = false → t.mir.snap = []) ∧
      ∀ n w x a p, s.mir.ended = some (n, w, x, a, p) →
        let d := mix (w ^^^ mix (x ^^^ n.setWidth 64))
        t.mir.digests.getLast? = some ⟨n, d, a, p⟩ ∧ joinWords 64 (t.reg MIR_DIG_HI) (t.reg MIR_DIG_LO) = d ∧
          joinWords 48 (t.reg MIR_DSTK_HI) (t.reg MIR_DSTK_LO) = n) ∧
    (gives → ∃ t, exec .handover s = .next t ∧ t.mf.decided = s.mf.decided ++ [5] ∧ t.mir.next = some 3 ∧ t.hasEvt EVT_MIR_HANDOVER) ∧
    (¬ gives → exec .handover s = .next s) ∧
    (falls → ∃ t, exec .resync s = .next t ∧ t.mir.next = some 3 ∧ t.hasEvt EVT_MIR_OOS ∧ t.mf = s.mf) ∧
    (¬ falls → exec .resync s = .next s)

/-! ### Fabric, sluice chains and registers -/

/-- Sluice gates (R46, R518, R520, R521, R26): a gate opens when its powered domain has been zeroed; a gate that has closed
and drained sets DRAINED and its domain goes off with all its contents; one that is forced raises EVT_FAB_GATE_FORCE first.
Only a scribe that runs maps its RAM. -/
def Obligations.SluiceGates : Prop :=
  ∀ (s : State) (d : Domain) (b : Bool),
    let x := s.dom (domKey d)
    let off := fun t : State => t.dom (domKey d) = { x with on := false, opened := false, draining := false } ∧
      (∀ l i, gateBit d = some (l, i) → bitOf (t.reg (FAB_GATE_STAT l)) (16 + i) = true) ∧
      (∀ n, d = .nib n → ∀ a, nibWin n.val ≤ a → a < nibWin n.val + 0x20000 → t.byte a = memDflt a)
    (x.on = true → x.opened = false → x.draining = false → ∃ t, exec (.sluiceGateOpen d) s = .next t ∧ t.isOpen (domKey d) = true ∧
      (∀ l i, gateBit d = some (l, i) → bitOf (t.reg (FAB_GATE_STAT l)) i = false ∧ bitOf (t.reg (FAB_GATE_STAT l)) (16 + i) = false) ∧
      OnlyRegs [FAB_GATE_STAT 0, FAB_GATE_STAT 1, FAB_GATE_STAT 2, FAB_GATE_STAT 3, FAB_GATE_STAT 4] s (t.withDoms s.doms)) ∧
    (x.on = false ∨ x.opened = true ∨ x.draining = true → exec (.sluiceGateOpen d) s = .next s) ∧
    (x.on = true → x.draining = true → s.undrained d = false → ∃ t, exec (.gateDrained d) s = .next t ∧ off t) ∧
    (s.undrained d = true → exec (.gateDrained d) s = .next s) ∧
    (x.on = true → x.draining = true → ∃ t, exec (.gateForceDrain d) s = .next t ∧ off t ∧ t.hasEvt (EVT_FAB_GATE_FORCE (gateLevel d))) ∧
    (x.draining = false → exec (.gateDrained d) s = .next s ∧ exec (.gateForceDrain d) s = .next s) ∧
    (s.scribeActs = true → ∃ t, exec (.remap b) s = .next t ∧ (t.on (FAB_CTL 0) FAB_CTL_REMAP = b) ∧ OnlyRegs [FAB_CTL 0] s t) ∧
    (s.scribeActs = false → exec (.remap b) s = .next s)

/-- Requests and responses at a master port (R507 to R509, R514, R518): a request to an address that nothing answers, one
behind 16 outstanding and one behind a waiting request wait in order; a dry read is poisoned zeros, a dry response is recorded
at the level of the gate; a response delivers the oldest transaction of its ID. Tide timers (R515, R517, R522, R550): a port
that waits for nothing is not reset; the reset of one that waits abandons all its transactions, drops what it held, sets
EVT_FAB_TIDE and its WHO bit; a chain ends in TIMEOUT, and each command of the management chain that nothing has answered gets
its timeout. Where a clause goes beyond the words of the rules, it is the model's choice: log entries 83, 84, 89 and 116. -/
def Obligations.FabricTransactions : Prop :=
  (∀ (s : State) (port : Port) (limit : Nat) (r : FabReq) (id : BitVec 4),
      let x := s.port port
      (x.held ≠ [] ∨ s.target r.addr = none ∨ 16 ≤ x.outs.length ∨
          (∃ g, s.target r.addr = some g ∧ ∃ y ∈ x.outs, y.req.id = r.id ∧ y.tgt ≠ targetKey r.addr g) → ∃ t, exec (.fabricRequest port limit r) s = .next t ∧
        t.port port = { x with held := x.held ++ [r] } ∧ t.regs = s.regs ∧ t.mem = s.mem) ∧
      (∀ g, x.held = [] → x.outs.length < 16 → s.target r.addr = some g →
        (∀ y ∈ x.outs, y.req.id = r.id → y.tgt = targetKey r.addr g) → ∃ t tx, exec (.fabricRequest port limit r) s = .next t ∧
          (t.port port).outs.getLast? = some tx ∧ tx.req = r ∧ (tx.dry = true ↔ s.dryWhy port false r.write.isNone r.addr g ≠ none) ∧
          tx.beats.length = (if r.write.isNone then reqBeats r else 0) ∧
          (tx.dry = true → t.mem = s.mem ∧ ∀ y ∈ tx.beats, y.w = 0 ∧ y.psn = true) ∧
          (∀ l, r.write = some l → tx.dry = false → (∀ o, g ≠ .intake o) → tx.accepted + tx.rest.length = min (reqBeats r) l.length ∧
            tx.rest = (l.take (reqBeats r)).drop limit) ∧
          (∀ l, s.dryWhy port false r.write.isNone r.addr g = some (.gate l) →
            t.hasEvt (EVT_FAB_DRY l) ∧ bitOf (t.reg (FAB_DRY_WHO l)) (portBit port l) = true)) ∧
      ((∀ y ∈ x.outs, y.req.id ≠ id) → exec (.fabricResponse port id) s = .next s) ∧
      (∀ l m tx, x.outs = l ++ tx :: m → tx.req.id = id → (∀ y ∈ l, y.req.id ≠ id) → x.held = [] →
        ∃ t, exec (.fabricResponse port id) s = .next t ∧ (t.port port).outs = l ++ m ∧ (t.port port).held = [] ∧
          (t.port port).last = some tx ∧ (tx.rest = [] → t.regs = s.regs ∧ t.mem = s.mem))) ∧
  (∀ (s : State) (port : Port),
      (s.stalled port = none → exec (.tideExpiry port) s = .next s) ∧
      (∀ a, s.stalled port = some a → ∃ t, exec (.tideExpiry port) s = .next t ∧ (t.port port).outs = [] ∧ (t.port port).held = [] ∧
        t.hasEvt (EVT_FAB_TIDE (portLevel port)) ∧ bitOf (t.reg (FAB_TIDE_WHO (portLevel port))) (portBit port (portLevel port)) = true ∧
        (port = .chip 1 → ∀ c ∈ t.mch.run, c.res ≠ none) ∧
        (∀ p i, port = .pld p i → i.val < 16 → s.portEntry port = none → s.chainRuns (16 * p.val + i.val) = true →
          t.sluState (16 * p.val + i.val) = 4 ∧ t.chain (16 * p.val + i.val) = {} ∧ t.hasEvt (EVT_SLU_TIMEOUT p.val))))

/-- Starts and stops of a chain (R545 to R547, R556): a start begins at HEAD with MATCH and POISON afresh; a start of a
running chain raises EVT_SLU_OVERRUN and changes nothing of it; STOP discards what is buffered; a trigger starts the chain
when its cause holds; on a ruling channel, and outside POISED, LEAD, SHADOW and ISLAND, nothing starts. Where a clause goes
beyond the words of the rules, it is the model's choice: log entries 85 and 117. -/
def Obligations.ChainStarts : Prop :=
  ∀ (s : State) (c : Fin 64),
    let may := s.chainChannel c.val = true ∧ (s.mode = 2 ∨ s.mode = 3 ∨ s.mode = 4 ∨ s.mode = 5)
    let trig := s.fld (SLU_CH_CFG c.val) SLU_CH_CFG_TRIG
    let due := (trig = 1 ∧ s.firstPoised = true) ∨
      (trig = 2 ∧ s.tim.strk.toNat % (max 1 (s.fld (SLU_CH_PERIOD c.val) SLU_CH_PERIOD_PERIOD)) = 0)
    (¬ may → exec (.sluStart c) s = .next s) ∧
    (may → s.sluState c.val = 1 → ∃ t, exec (.sluStart c) s = .next t ∧ t.hasEvt (EVT_SLU_OVERRUN (c.val / 16)) ∧
      bitOf (t.reg (SLU_WHO (c.val / 16) 6)) (c.val % 16) = true ∧ t.sluState c.val = 1 ∧ t.chains = s.chains) ∧
    (may → s.sluState c.val ≠ 1 → ∃ t, exec (.sluStart c) s = .next t ∧ t.sluState c.val = 1 ∧
      t.on (SLU_CH_STAT c.val) SLU_CH_STAT_MATCH = true ∧ t.on (SLU_CH_STAT c.val) SLU_CH_STAT_POISON = false ∧
      t.fld (SLU_CH_STAT c.val) SLU_CH_STAT_HOPS = 0 ∧ bitOf (t.reg (SLU_ACTIVE (c.val / 16))) (c.val % 16) = true ∧
      t.chain c.val = { fetch := some (32 * ((s.reg (SLU_CH_HEAD c.val)).toNat / 32)) } ∧
      OnlyRegs [SLU_CH_STAT c.val, SLU_ACTIVE (c.val / 16)] s (t.withChains s.chains)) ∧
    (s.chainRuns c.val = true → ∃ t, exec (.sluStop c) s = .next t ∧ t.sluState c.val = 5 ∧ t.chain c.val = {} ∧
      OnlyRegs [SLU_CH_STAT c.val, SLU_ACTIVE (c.val / 16)] s (t.withChains s.chains)) ∧
    (s.chainRuns c.val = false → exec (.sluStop c) s = .next s) ∧
    (due → may → ∃ t, exec (.chainTrigger c) s = .next t ∧
      exec (.sluStart c) (s.atRoot (s.fld (SLU_CH_CFG c.val) SLU_CH_CFG_TRIG_CYC)) = .next t) ∧
    (¬ (due ∧ may) → exec (.chainTrigger c) s = .next s)

/-- Descriptors (R540, R541, R543, R549, R551): a descriptor that fails its checks ends the chain in ERROR, one that names
itself in LOOP; a good one runs, and at its end the chain goes on to NEXT, or ends DONE at END, or in LOOP when its hop budget
is used up; a compare reports its first difference; the first dry response ends the chain in DRY. Where a clause goes beyond
the words of the rules, it is the model's choice: log entries 85 and 117. -/
def Obligations.Descriptors : Prop :=
  ∀ (s : State) (c : Fin 64) (limit : Nat),
    let x := s.chain c.val
    let goes := s.chainRuns c.val = true ∧ x.dry = false
    let ends := fun (t : State) (st : Nat) (e : Nat → Evt) => t.sluState c.val = st ∧ t.chain c.val = {} ∧ t.hasEvt (e (c.val / 16)) ∧
      bitOf (t.reg (SLU_ACTIVE (c.val / 16))) (c.val % 16) = false
    (¬ goes ∨ x.fetch = none → exec (.descriptorFetch c limit) s = .next s) ∧
    (∀ a ws u, goes → x.fetch = some a → descWords c.val a 4 0 s = (some ws, u) → u.chain c.val = x →
      let w : Nat → Word64 := fun i => (ws.getD i (0, false)).1
      let d := descOf a (w 0) (w 1) (w 2) (w 3)
      let bad := (∃ y ∈ ws, y.2 = true) ∨ descBad d (w 0) (w 1) (w 2) = true
      let hops := u.fld (SLU_CH_STAT c.val) SLU_CH_STAT_HOPS + 1
      let budget := if hops = 1 then descHops (w 2) else x.budget
      (bad → ∃ t, exec (.descriptorFetch c limit) s = .next t ∧ ends t 6 EVT_SLU_ERROR ∧ t.mem = u.mem) ∧
      (¬ bad → d.next = a → d.fin = false → ∃ t, exec (.descriptorFetch c limit) s = .next t ∧ ends t 3 EVT_SLU_LOOP ∧ t.mem = u.mem) ∧
      (¬ bad → d.next ≠ a ∨ d.fin = true → hops < 2 ^ 16 → ∃ v, exec (.descriptorFetch c limit) s = .next (State.chainRun c.val d limit v) ∧
        v.chain c.val = { fetch := none, desc := some d, pos := 0, budget := budget, loops := !d.fin && hops == budget } ∧
        v.reg (SLU_CH_REMAIN c.val) = BitVec.ofNat 32 d.len ∧ v.fld (SLU_CH_STAT c.val) SLU_CH_STAT_HOPS = hops ∧ v.mem = u.mem)) ∧
    (∀ d b e u v, d.op = 2 → s.sluRead c.val false (x.pos / 8 == 0) (s.descSrc d (x.pos / 8)) = (.beat b, u) →
      u.sluRead c.val false (x.pos / 8 == 0) (s.descDst d (x.pos / 8)) = (.beat e, v) →
      ((s.chainWord c.val d).1 = true) ∧ (s.chainWord c.val d).2.mem = v.mem ∧
      (b.psn = false → e.psn = false → b.w = e.w → (s.chainWord c.val d).2.fld (SLU_CH_STAT c.val) SLU_CH_STAT_MATCH =
        v.fld (SLU_CH_STAT c.val) SLU_CH_STAT_MATCH) ∧
      (b.psn = true ∨ e.psn = true ∨ b.w ≠ e.w → (s.chainWord c.val d).2.on (SLU_CH_STAT c.val) SLU_CH_STAT_MATCH = false ∧
        (b.psn = true ∨ e.psn = true → (s.chainWord c.val d).2.on (SLU_CH_STAT c.val) SLU_CH_STAT_POISON = true) ∧
        (v.on (SLU_CH_STAT c.val) SLU_CH_STAT_MATCH = true → (s.chainWord c.val d).2.hasEvt (EVT_SLU_MISMATCH (c.val / 16)) ∧
          (s.chainWord c.val d).2.reg (SLU_CH_CMP c.val) = BitVec.ofNat 32 (d.src + 8 * (x.pos / 8))) ∧
        (v.on (SLU_CH_STAT c.val) SLU_CH_STAT_MATCH = false →
          (s.chainWord c.val d).2.reg (SLU_CH_CMP c.val) = v.reg (SLU_CH_CMP c.val)))) ∧
    (¬ goes ∨ x.desc = none → exec (.descriptorComplete c) s = .next s) ∧
    (∀ d, goes → x.desc = some d →
      let u := chainMove c.val d (d.len / 8) (s.flushSlu c.val)
      let whole := (u.chain c.val).dry = false ∧ d.len ≤ (u.chain c.val).pos
      (¬ whole → exec (.descriptorComplete c) s = .next u) ∧
      (whole → ∃ t, exec (.descriptorComplete c) s = .next t ∧ t.mem = u.mem ∧ (d.note = true → t.hasEvt (EVT_SLU_NOTE (c.val / 16))) ∧
        (d.fin = true → t.sluState c.val = 2 ∧ t.chain c.val = {}) ∧
        (d.fin = false → (u.chain c.val).loops = true → ends t 3 EVT_SLU_LOOP) ∧
        (d.fin = false → (u.chain c.val).loops = false →
          t.chain c.val = { u.chain c.val with fetch := some d.next, desc := none, pos := 0 }))) ∧
    (s.chainRuns c.val = true → x.dry = true → ∃ t, exec (.chainDryEnd c) s = .next t ∧ ends t 7 EVT_SLU_DRY ∧ t.mem = (s.flushSlu c.val).mem) ∧
    (s.chainRuns c.val = false ∨ x.dry = false → exec (.chainDryEnd c) s = .next s)

/-- Accesses of registers (R7, R8, R15 to R17, R67, R68, R394, R395): outside the map or behind a closed gate nothing happens;
a write of an item is staged for the next boundary and changes no register before it; a write of 1 to a W1C bit clears it, a
write of 0 leaves it; a read-only register keeps its value; a read delivers the register's value, and one of a register that a
read clears leaves 0. Where a clause goes beyond the words of the rules, it is the model's choice: log entries 53 and 83. -/
def Obligations.RegisterAccess : Prop :=
  ∀ (s : State) (port : Port) (addr data : Word),
    let a := addr.toNat
    let plain := a ≠ FAB_CTL 0 ∧ a ≠ MF_KICK ∧ a ≠ TAG_PEND_ADDR
    let c : Change := { path := .chain, target := addr, value := data, mask := 0xFFFFFFFF, apply := s.tim.strk + 1, due := s.tim.strk + 1 }
    let staged := fun u : State => u.withStager { u.stager with staged := u.stager.staged ++ [c] }
    let answers := isRegWord a = true ∧ s.gateDry port a = none
    (isRegWord a = false → exec (.registerWrite port addr data) s = .next s ∧ exec (.registerRead port addr) s = .next s) ∧
    (∀ l, isRegWord a = true → s.gateDry port a = some l → exec (.registerWrite port addr data) s = .next (s.noteDry port l) ∧
      exec (.registerRead port addr) s = .next ((s.noteDry port l).portLast port (wordTx a 0 true))) ∧
    (answers → s.actsNow port a = false → plain → port ≠ .chip 1 → s.stager.staged.length < 8192 →
      exec (.registerWrite port addr data) s = .next (staged s)) ∧
    (answers → s.actsNow port a = false → plain → port ≠ .chip 1 → 8192 ≤ s.stager.staged.length →
      ∃ t, exec (.registerWrite port addr data) s = .next t ∧ t.stager = s.stager ∧ t.hasEvt EVT_TAG_CAP) ∧
    (∀ e u, answers → s.isItem a = true → s.authRead a = (e, u) →
      (∀ x, e = some x → u.permits .chain x = true → u.stager.staged.length < 8192 →
        exec (.registerWrite (.chip 1) addr data) s = .next (staged u)) ∧
      ((∀ x, e = some x → u.permits .chain x = false) → ∃ t, exec (.registerWrite (.chip 1) addr data) s = .next t ∧
        t.hasEvt EVT_TAG_REFUSE ∧ t.stager.staged = u.stager.staged)) ∧
    (answers → s.actsNow port a = true → plain → port ≠ .chip 1 → regAcc a = some .w1c → ∃ t, exec (.registerWrite port addr data) s = .next t ∧
      t.reg a = s.reg a &&& ~~~(data &&& regMask a) ∧ t.withRegs s.regs = s ∧
      (∀ i b, bitOf (data &&& regMask a) i = true → whoOf a i = some b → t.reg b = 0) ∧
      (∀ b, b ≠ a → (∀ i, whoOf a i ≠ some b) → t.reg b = s.reg b)) ∧
    (answers → s.actsNow port a = true → regAcc a = some .ro → plain → port ≠ .chip 1 →
      exec (.registerWrite port addr data) s = .next s) ∧
    (answers → (∀ k < 8, a ≠ CAP_POP k) → wideOf a = none → ∃ t, exec (.registerRead port addr) s = .next t ∧
      (t.port port).last = some (wordTx a (s.view port a) false) ∧
      (regAcc a = some .rc → (a < 0x20040000 ∨ 0x20050000 ≤ a) → t.reg a = 0) ∧
      (regAcc a ≠ some .rc → t.regs = s.regs) ∧ t.mem = s.mem) ∧
    (∀ g, answers → (∀ k < 8, a ≠ CAP_POP k) → wideOf a = some (g, 0) → ∃ t, exec (.registerRead port addr) s = .next t ∧
      (t.port port).last = some (wordTx a (s.view port a) false) ∧
      SMap.get (fun _ => []) t.latch (latchKey port a) = (g.drop 1).map fun b => s.view port b)

/-! ### Boot, flash, management chain, security, freeboard -/

/-- The steps of the boot (R607, R609, R610, R614, R617 to R622): the flash is read and the slot of R610 begins; pass 1 judges
the header with its signature and takes the folio key; pass 2 judges the tags of the sections' chunks, the signature digest
and CDIGEST, and has opened the gates and loaded the sections and rulings; a folio that the checks accept is recorded, REMAP
sets, EVT_BOOT_DONE rises and transition 2 is decided; a step that fails records its code and raises the slot's event; with
both slots failed the boot stands at FAILED. Where a clause goes beyond the words of the rules, it is the model's choice: log
entries 5, 9, 75, 104, 105, 106, 107 and 108. -/
def Obligations.BootSteps : Prop :=
  ∀ (s : State) (i : FlashInfo) (x : Fin 2) (h : FolioHeader) (dg : BitVec 384) (sg : BitVec 768) (l : List StoredSection) (m : List FolioSection)
    (f : BitVec 8) (j c k : Nat), s.sec.otpA = s.sec.otpB →
    let goes := fun b : BootStep => s.mode = 1 ∧ s.scribeActs = true ∧ s.boot.step = b
    let fails := fun (t : State) (code sec check : Nat) =>
      t.reg (errReg x) = BitVec.ofNat 32 (2 ^ 24 * code + 2 ^ 16 * sec + 2 ^ 8 * check) ∧ t.hasEvt (slotEvt x) ∧ t.sec.keys = [] ∧
      ((1 - x) ∈ s.boot.failed → t.fld BOOT_STAT BOOT_STAT_STATE = 5 ∧ t.boot.step = .failed) ∧
      ((1 - x) ∉ s.boot.failed → t.fld BOOT_STAT BOOT_STAT_STATE = 2 + (1 - x).val ∧ t.boot.step = .pass1 (1 - x))
    let pass2 := fun (g : Option (BitVec 8)) (code sec : Nat) => ∃ t, exec (.pass2Done x l dg g) s = .next t ∧ fails t code sec 0
    (¬ goes .flashInit → exec (.flashInitDone i) s = .next s) ∧
    (goes .flashInit → i.responds = true → ∃ t, exec (.flashInitDone i) s = .next t ∧ t.boot.step = .pass1 s.firstSlot ∧
      t.fld BOOT_STAT BOOT_STAT_STATE = 2 + s.firstSlot.val ∧ (t.on BOOT_STAT BOOT_STAT_OCTAL = true ↔ i.mode = 0) ∧
      t.fld BOOT_FLASH BOOT_FLASH_JEDEC = i.jedec.toNat ∧ t.fld BOOT_FLASH BOOT_FLASH_LOG2SIZE = i.log2size.toNat ∧
      (i.mode ≠ 0 → t.hasEvt EVT_BOOT_FLASH) ∧ t.mem = s.mem) ∧
    (goes .flashInit → i.responds = false → ∃ t, exec (.flashInitDone i) s = .next t ∧ t.fld BOOT_STAT BOOT_STAT_STATE = 5 ∧
      t.boot.step = .failed ∧ t.reg BOOT_ERR_A = 0x01FF0000 ∧ t.reg BOOT_ERR_B = 0x01FF0000 ∧ t.hasEvt EVT_BOOT_SLOT_A ∧
      t.hasEvt EVT_BOOT_SLOT_B) ∧
    (¬ goes (.pass1 x) → exec (.pass1Done x h dg sg) s = .next s) ∧
    (goes (.pass1 x) → s.headerCode h dg sg = none → ∃ t key, exec (.pass1Done x h dg sg) s = .next t ∧ t.boot.step = .pass2 x ∧
      t.boot.header = some h ∧ t.boot.digest = dg ∧ folioKey h s.sec.otpA.root = some key ∧ t.key 256 = key) ∧
    (goes (.pass1 x) → s.headerCode h dg sg = some c → ∃ t, exec (.pass1Done x h dg sg) s = .next t ∧ fails t c 0xFF 0) ∧
    (¬ goes (.pass2 x) ∨ s.boot.header = none → exec (.pass2Done x l dg (some f)) s = .next s ∧ exec (.pass2Done x l dg none) s = .next s) ∧
    (goes (.pass2 x) → s.boot.header = some h → readSections (s.key 256) l = .inl j →
      pass2 none 6 j ∧ (j ≤ f.toNat → pass2 (some f) 6 j) ∧ (f.toNat < j → pass2 (some f) 10 f.toNat)) ∧
    (goes (.pass2 x) → s.boot.header = some h → readSections (s.key 256) l = .inr m → pass2 (some f) 10 f.toNat ∧
      (dg ≠ s.boot.digest → pass2 none 7 0xFF) ∧
      (dg = s.boot.digest → Config.sha384 (commonPart (s.key 256) l) ≠ h.cdigest → pass2 none 8 0xFF) ∧
      (dg = s.boot.digest → Config.sha384 (commonPart (s.key 256) l) = h.cdigest → ∃ t, exec (.pass2Done x l dg none) s = .next t ∧
        t.boot.step = .validate x ∧ t.rul.rulings = sectionRulings m ∧ t.boot.sections = m ∧
        ∀ p : Fin 4, (s.dom (domKey (.pld p))).on = true → (s.dom (domKey (.pld p))).draining = false → t.isOpen (domKey (.pld p)) = true)) ∧
    (goes (.validate x) → s.boot.header = some h → s.validate h = none → ∃ t, exec .validationDone s = .next t ∧
      t.boot.step = .loaded x ∧ t.fld BOOT_STAT BOOT_STAT_STATE = 4 ∧ t.fld BOOT_STAT BOOT_STAT_SLOT = x.val ∧
      t.reg BOOT_FID = BitVec.ofNat 32 (folioId h) ∧ t.reg BOOT_SERIAL = h.serial ∧ t.on (FAB_CTL 0) FAB_CTL_REMAP = true ∧
      t.hasEvt EVT_BOOT_DONE ∧ 2 ∈ t.mf.decided) ∧
    (goes (.validate x) → s.boot.header = some h → s.validate h = some (c, k) → ∃ t, exec .validationDone s = .next t ∧ fails t 9 k c) ∧
    ((∀ y, ¬ goes (.validate y)) ∨ s.boot.header = none → exec .validationDone s = .next s)

/-- The flash commands (R609, R626): BUSY turns a command away with EVT_BOOT_FLASH; ERASE and PROGRAM are refused in the slot
of the loaded folio, at an unaligned address, and in the modes of R626; else the device works, and its completion leaves an
erased sector at all ones, a programmed page with the bits of both, and ERROR where it failed. Reads of the folio image at run
time (R624, R625): without a loaded folio or a scribe that acts nothing happens; a failure is tried again once, the second
abandons the action with CODE 11 and the section's index; a rewrite touches only a word that still reads poisoned. Where a
clause goes beyond the words of the rules, it is the model's choice: log entries 5, 74 and 109. -/
def Obligations.FlashAndImageReads : Prop :=
  (∀ (s : State),
      let a := (s.reg BOOT_FL_ADDR).toNat
      let busy := s.fld BOOT_FL_STAT BOOT_FL_STAT_STATE = 1
      let refused := (∃ x, s.boot.step = .loaded x ∧ s.slotOf a = some x) ∨ s.mode = 0 ∨ (s.mode = 1 ∧ s.boot.step ≠ .failed) ∨ s.mode = 7 ∨
        (s.mode = 6 ∧ s.mf.blotted = true)
      let turned := fun t : State => t.fld BOOT_FL_STAT BOOT_FL_STAT_STATE = 3 ∧ OnlyRegs [BOOT_FL_STAT] s t
      let works := fun (t : State) (op : FlashOp) => t.fld BOOT_FL_STAT BOOT_FL_STAT_STATE = 1 ∧ t.boot = { s.boot with op := some op } ∧ t.mem = s.mem
      (busy → ∃ t, exec .flashErase s = .next t ∧ exec .flashProgram s = .next t ∧ exec .flashRetry s = .next t ∧ t.hasEvt EVT_BOOT_FLASH ∧
        t.boot = s.boot ∧ t.mem = s.mem) ∧
      (¬ busy → refused → ∃ t, exec .flashErase s = .next t ∧ turned t) ∧
      (¬ busy → refused ∨ a % 256 ≠ 0 → ∃ t, exec .flashProgram s = .next t ∧ turned t) ∧
      (¬ busy → ¬ refused → ∃ t, exec .flashErase s = .next t ∧ works t (.erase (65536 * (a / 65536)))) ∧
      (¬ busy → ¬ refused → a % 256 = 0 → ∃ t, exec .flashProgram s = .next t ∧
        works t (.program a ((List.range 64).map fun i => s.reg (BOOT_FL_BUF i)))) ∧
      (¬ busy → s.mode = 1 → s.boot.step = .failed → ∃ t, exec .flashRetry s = .next t ∧ t.reg BOOT_ERR_A = 0 ∧ t.reg BOOT_ERR_B = 0 ∧
        t.boot.step = .flashInit ∧ t.boot.failed = [] ∧ t.fld BOOT_STAT BOOT_STAT_STATE = 1) ∧
      (¬ busy → ¬ (s.mode = 1 ∧ s.boot.step = .failed) → exec .flashRetry s = .next s) ∧
      (∀ ok, s.boot.op = none → exec (.flashOpComplete ok) s = .next s) ∧
      (∀ b, s.boot.op = some (.erase b) → ∃ t, exec (.flashOpComplete true) s = .next t ∧ t.boot.op = none ∧
        t.fld BOOT_FL_STAT BOOT_FL_STAT_STATE = 2 ∧
        ∀ w, w % 4 = 0 → s.ledgerWord w = none → t.flashWord w = if b / 256 ≤ w / 256 ∧ w / 256 < b / 256 + 256 then 0xFFFFFFFF else s.flashWord w) ∧
      (∀ b l, s.boot.op = some (.program b l) → l.length = 64 → ∃ t, exec (.flashOpComplete true) s = .next t ∧ t.boot.op = none ∧
        t.fld BOOT_FL_STAT BOOT_FL_STAT_STATE = 2 ∧
        ∀ w, w % 4 = 0 → s.ledgerWord w = none → t.flashWord w = if w / 256 = b / 256 then s.flashWord w &&& l.getD (w % 256 / 4) 0 else s.flashWord w) ∧
      (∀ b, s.boot.op = some (.erase b) → ∃ t, exec (.flashOpComplete false) s = .next t ∧ t.boot.op = none ∧
        t.fld BOOT_FL_STAT BOOT_FL_STAT_STATE = 4 ∧ ∀ w, ¬ (b / 256 ≤ w / 256 ∧ w / 256 < b / 256 + 256) → t.flashWord w = s.flashWord w) ∧
      (s.scribeActs = true → s.mode ≠ 0 → ∃ t, exec .flashDqsTimeout s = .next t ∧ t.hasEvt EVT_BOOT_FLASH ∧ t.boot = s.boot) ∧
      (s.scribeActs = false ∨ s.mode = 0 → exec .flashDqsTimeout s = .next s)) ∧
  (∀ (s : State) (act : ImageAction) (sec : BitVec 8) (x : Fin 2) (a : Nat),
      let goes := s.scribeActs = true ∧ s.boot.step = .loaded x
      let b := fun y : ImageAction => s.withBoot { s.boot with retries := s.boot.retries.filter (· != y) }
      (s.scribeActs = false ∨ (∀ y, s.boot.step ≠ .loaded y) → exec (.imageReadDone act) s = .next s ∧ exec (.imageReadRetry act sec) s = .next s) ∧
      (goes → act ∉ s.boot.retries → exec (.imageReadRetry act sec) s =
        .next (s.withBoot { s.boot with retries := s.boot.retries ++ [act] })) ∧
      (∀ y, goes → y ∈ s.boot.retries → (∃ p e, y = .inkRow p e) ∨ (∃ p e, y = .element p e) ∨ y = .map a →
        ∃ t, exec (.imageReadRetry y sec) s = .next t ∧ t.boot = (b y).boot ∧ t.hasEvt EVT_BOOT_FLASH ∧
          t.reg (errReg x) = BitVec.ofNat 32 (11 * 2 ^ 24 + 2 ^ 16 * sec.toNat) ∧ t.mem = s.mem) ∧
      (∀ y, goes → y ∈ s.boot.retries → y = .reduced → ∃ t, exec (.imageReadRetry y sec) s = .next t ∧ t.rul.chosen = none ∧
        t.on RUL_ACTIVE RUL_ACTIVE_PARTIAL = true ∧ t.hasEvt EVT_RUL_NOCOVER) ∧
      (goes → inScribeMap a = true → (s.peek (a / 8 * 8)).psn = true →
        exec (.imageReadDone (.map a)) s = .next ((b (.map a)).loadPair (a / 8 * 8)
          (imageAt (s.imageRange (a / 8 * 8) 8) (a / 8 * 8)) (imageAt (s.imageRange (a / 8 * 8) 8) (a / 8 * 8 + 4)))) ∧
      (goes → inScribeMap a = false ∨ (s.peek (a / 8 * 8)).psn = false → exec (.imageReadDone (.map a)) s = .next (b (.map a))) ∧
      (goes → s.rul.chosen = none → exec (.imageReadDone .reduced) s = .next (b .reduced)) ∧
      (∀ p : Fin 4, ∀ e : Fin 16384, goes → s.isOpen (6 + p.val) = false → exec (.imageReadDone (.inkRow p e)) s = .next (b (.inkRow p e))))

/-- Frames of the management chain (R628 to R636): a chip that is not aligned sends EMPTY; one that is takes the READs and
WRITEs of its own address, executes broadcasts, takes its address from ENUM, answers in an EMPTY and forwards all else; a CRC
failure is counted and forwarded as EMPTY, the fourth in a row loses alignment. Where a clause goes beyond the words of the
rules, it is the model's choice: log entries 87 and 88. -/
def Obligations.ChainFrames : Prop :=
  ∀ (s : State) (f : MchFrame),
    let up := s.mf.power = true ∧ s.mf.inReset = false
    let al := s.on MCH_STAT MCH_STAT_FALIGN = true
    let u := s.mchSeen
    let r := { f with type := 1 }
    let w := { f with type := 2 }
    let e := { f with type := 3 }
    let n := { f with type := 0 }
    let mine := bitOf f.byte2 6 = false ∧ f.byte2.toNat % 64 ≠ 0 ∧ f.byte2.toNat % 64 = s.fld MCH_STAT MCH_STAT_ADDR
    let room := s.mch.run.length + s.mch.resp.length < 16
    let v := u.send emptyFrame
    let answered := fun (t : State) (g : MchFrame) (c : Nat) => t.mch.sent = some emptyFrame ∧ t.mch.run = s.mch.run ∧
      t.mch.resp = s.mch.resp ++ [{ type := 4, tag := g.tag, byte2 := 0, byte3 := BitVec.ofNat 8 (16 * c), address := g.address, data := 0, mask := loWord s.tim.strk }]
    (¬ up → exec (.mchRead f) s = .next s ∧ exec (.mchWrite f) s = .next s ∧ exec (.mchBroadcastWrite f) s = .next s ∧
      exec (.mchEnum f) s = .next s ∧ exec (.mchEmpty f) s = .next s ∧ exec (.mchForward f) s = .next s ∧ exec .mchCrcFail s = .next s ∧
      exec .mchUnalignedCadence s = .next s ∧ exec (.mchOrphan f) s = .next s) ∧
    (up → ¬ al → ∃ t, exec (.mchRead f) s = .next t ∧ exec (.mchWrite f) s = .next t ∧ exec (.mchBroadcastWrite f) s = .next t ∧
      exec (.mchEnum f) s = .next t ∧ exec (.mchEmpty f) s = .next t ∧ exec (.mchForward f) s = .next t ∧ t.mch.sent = some emptyFrame ∧
      t.mch.run = s.mch.run ∧ t.mch.resp = s.mch.resp ∧ (t.on MCH_STAT MCH_STAT_FALIGN = true ↔ 1 ≤ s.mch.syncs)) ∧
    (up → al → ¬ mine → (∃ t, exec (.mchRead f) s = .next t ∧ t.mch.sent = some r ∧ t.mch.run = s.mch.run ∧ t.mch.resp = s.mch.resp) ∧
      (∃ t, exec (.mchWrite f) s = .next t ∧ t.mch.sent = some w ∧ t.mch.run = s.mch.run ∧ t.mch.resp = s.mch.resp)) ∧
    (up → al → mine → ¬ room → (∃ t, exec (.mchRead f) s = .next t ∧ answered t r 6) ∧ (∃ t, exec (.mchWrite f) s = .next t ∧ answered t w 6)) ∧
    (up → al → mine → room → (∀ c, v.mchTurned r = some c → ∃ t, exec (.mchRead f) s = .next t ∧ answered t r c) ∧
      (∀ c, v.mchTurned w = some c → ∃ t, exec (.mchWrite f) s = .next t ∧ answered t w c)) ∧
    (up → al → mine → room → v.mchTurned r = none → v.mchStuck = false →
      exec (.mchRead f) s = .next ((State.mchReadWord f.address.toNat (v.bump CTR_MCH_CMD_CNT)).2.addRun r
        (State.mchReadWord f.address.toNat (v.bump CTR_MCH_CMD_CNT)).1)) ∧
    (up → al → mine → room → v.mchTurned w = none → ∀ c t, v.mchWriteWord f.address.toNat f.data f.mask = (c, t) →
      (c = 1 ∨ c = 8 → exec (.mchWrite f) s = .next (t.hold w c 0)) ∧
      (c ≠ 1 → c ≠ 8 → exec (.mchWrite f) s = .next ((t.bump CTR_MCH_CMD_CNT).addRun w (some (c, 0))))) ∧
    (up → al → room → (u.send w).mchTurned w = none → ∀ c t, (u.send w).mchWriteWord f.address.toNat f.data f.mask = (c, t) →
      exec (.mchBroadcastWrite f) s = .next (if c = 1 ∨ c = 8 then t else t.bump CTR_MCH_CMD_CNT)) ∧
    (up → al → ¬ room → ∃ t, exec (.mchBroadcastWrite f) s = .next t ∧ t.mch.sent = some w ∧ t.mch.run = s.mch.run ∧ t.mch.resp = s.mch.resp) ∧
    (up → al → s.on MCH_STAT MCH_STAT_HEAD = true → ∃ t, exec (.mchEnum f) s = .next t ∧ t.mch.sent = some { e with byte2 := 2 } ∧
      t.fld MCH_STAT MCH_STAT_ADDR = s.fld MCH_STAT MCH_STAT_ADDR) ∧
    (up → al → s.on MCH_STAT MCH_STAT_HEAD = false →
      let x := f.byte2.toNat % 128
      ∃ t, exec (.mchEnum f) s = .next t ∧
        (1 ≤ x → x ≤ 63 → t.mch.sent = some { e with byte2 := BitVec.ofNat 8 (x + 1) } ∧ t.fld MCH_STAT MCH_STAT_ADDR = x ∧
          t.on MCH_STAT MCH_STAT_ASSIGNED = true) ∧
        (x = 0 ∨ 64 ≤ x → t.mch.sent = some e ∧ t.fld MCH_STAT MCH_STAT_ADDR = 0 ∧ t.on MCH_STAT MCH_STAT_ASSIGNED = false) ∧
        (t.fld MCH_STAT MCH_STAT_ADDR ≠ s.fld MCH_STAT MCH_STAT_ADDR → t.hasEvt EVT_MCH_ADDR)) ∧
    (up → al → s.mch.resp = [] → ∃ t, exec (.mchEmpty f) s = .next t ∧ t.mch.sent = some n ∧ t.mch.resp = []) ∧
    (∀ g l, up → al → s.mch.resp = g :: l → ∃ t, exec (.mchEmpty f) s = .next t ∧ t.mch.resp = l ∧ t.mch.sent =
      some { g with byte2 := BitVec.ofNat 8 (s.fld MCH_STAT MCH_STAT_ADDR), byte3 := g.byte3 ||| (if u.attn then 8 else 0) }) ∧
    (up → al → ∃ t, exec (.mchForward f) s = .next t ∧ t.mch.sent = some f ∧ t.mch.run = s.mch.run ∧ t.mch.resp = s.mch.resp) ∧
    (up → al → ∃ t, exec .mchCrcFail s = .next t ∧ t.mch.sent = some emptyFrame ∧ t.hasEvt EVT_MCH_FRAME ∧
      (t.on MCH_STAT MCH_STAT_FALIGN = true ↔ s.mch.bad < 3)) ∧
    (up → ¬ al → (∃ t, exec .mchCrcFail s = .next t ∧ t.mch.sent = some emptyFrame ∧ t.mch.syncs = 0 ∧ t.regs = s.regs) ∧
      exec .mchUnalignedCadence s = .next (s.send emptyFrame)) ∧
    (al → exec .mchUnalignedCadence s = .next s) ∧
    (up → s.on MCH_STAT MCH_STAT_HEAD = false → s.mch.seen = false → ∃ t, exec (.mchOrphan f) s = .next t ∧
      t.on MCH_STAT MCH_STAT_ORPHAN = true ∧ t.hasEvt EVT_MCH_ORPHAN ∧ t.mch = s.mch) ∧
    (s.on MCH_STAT MCH_STAT_HEAD = true ∨ s.mch.seen = true → exec (.mchOrphan f) s = .next s) ∧
    (s.mch.run = [] ∨ (∃ g l, s.mch.run = g :: l ∧ g.res = none) → exec .mchCommandDone s = .next s) ∧
    (∀ g l st d, s.mch.run = g :: l → g.res = some (st, d) → ∃ t, exec .mchCommandDone s = .next t ∧ t.regs = s.regs ∧ t.mem = s.mem ∧
      t.mch = { s.mch with run := l, resp := s.mch.resp ++
        [respFrame g.fr st d (if g.fr.type = 1 then loWord s.tim.strk else g.stroke)] })

/-- The test port and the breach (R644 to R647, R652): the identity, the challenge and the status are shifted out; EXTEST and
the revocation of a signer act only once a breach is granted and are BYPASS before; a response is turned away where the engine
cannot verify it, fails without a challenge or after three failures, and seals the engine once a blot has begun; one that
verifies starts the blot. Where a clause goes beyond the words of the rules, it is the model's choice: log entries 9 and 80.
-/
def Obligations.BreachPort : Prop :=
  ∀ (s : State) (code : BitVec 8) (nonce : BitVec 256) (l : List Word) (i : Fin 4), s.sec.otpA = s.sec.otpB →
    let tap := fun (ir : TapIr) (dr : List Bool) => s.withSec { s.sec with tap := ⟨ir, dr⟩ }
    let blotted := s.fld SEC_STAT SEC_STAT_BLOT ≠ 0
    let away := s.mode = 0 ∨ s.mode = 7 ∨ s.sec.verifying ≠ none
    let fails := fun t : State => t.sec.attempts = s.sec.attempts + 1 ∧ t.sec.verifying = none ∧
      t.fld SEC_STAT SEC_STAT_FAILS = min 3 (s.sec.attempts + 1) ∧ t.on SEC_STAT SEC_STAT_BUSY = false ∧
      (2 ≤ s.sec.attempts → t.on SEC_STAT SEC_STAT_LOCKED = true) ∧ t.mem = s.mem
    (∃ dr, exec .idcode s = .next (tap .idcode dr) ∧ dr.length = 32 ∧ dr.head? = some true ∧
      (∀ k < 16, dr.getD (12 + k) false = (0x2048 : BitVec 16).getLsbD k) ∧ (∀ k < 11, dr.getD (1 + k) false = Config.jep106.getLsbD k)) ∧
    (∃ t, exec .samplePreload s = .next t ∧ t.sec.tap.ir = .sample ∧ t.regs = s.regs ∧ t.mem = s.mem ∧ t.lanes = s.lanes) ∧
    (code ∉ tapCodes → exec (.bypass code) s = .next (tap .bypass [false])) ∧
    (∃ t dr, exec (.brChal nonce) s = .next t ∧ t.sec = { s.sec with tap := ⟨.chal, dr⟩, chal := some (s.challenge nonce) } ∧ dr.length = 384 ∧
      (∀ k < 64, dr.getD k false = s.sec.otpA.chipId.getLsbD (63 - k)) ∧ (∀ k < 256, dr.getD (64 + k) false = nonce.getLsbD (255 - k)) ∧
      (∀ k < 16, dr.getD (320 + k) false = (BitVec.ofNat 16 s.sec.attempts).getLsbD (15 - k)) ∧
      t.regs = s.regs) ∧
    (∃ dr, exec .brStat s = .next (tap .stat dr) ∧ dr.length = 32 ∧ ∀ k < 32, dr.getD k false = (s.view (.chip 0) SEC_STAT).getLsbD k) ∧
    (s.on SEC_STAT SEC_STAT_GRANTED = true → ∃ t, exec .extest s = .next t ∧ t.sec.tap.ir = .extest ∧ t.regs = s.regs) ∧
    (s.on SEC_STAT SEC_STAT_GRANTED = false → exec .extest s = .next (tap .bypass [false]) ∧ exec (.signerRevoke i) s = .next (tap .bypass [false])) ∧
    (s.on SEC_STAT SEC_STAT_GRANTED = true → ∃ t, exec (.signerRevoke i) s = .next t ∧ t.sec.otpA = t.sec.otpB ∧
      (∀ k, bitOf t.sec.otpA.revoked k = (decide (k = i.val) || bitOf s.sec.otpA.revoked k)) ∧
      { t.sec.otpA with revoked := s.sec.otpA.revoked } = s.sec.otpA ∧ t.regs = s.regs) ∧
    (blotted → exec (.brResp l) s = .next ((tap .resp s.sec.tap.dr).grave EVT_SEC_REBREACH)) ∧
    (¬ blotted → away → ∃ t, exec (.brResp l) s = .next t ∧ t.on SEC_STAT SEC_STAT_BUSY = true ∧ t.sec.attempts = s.sec.attempts ∧
      t.sec.verifying = s.sec.verifying ∧ OnlyRegs [SEC_STAT] s (t.withSec s.sec)) ∧
    (¬ blotted → ¬ away → s.on SEC_STAT SEC_STAT_LOCKED = true ∨ s.sec.chal = none → ∃ t, exec (.brResp l) s = .next t ∧ fails t) ∧
    (∀ c, ¬ blotted → ¬ away → s.on SEC_STAT SEC_STAT_LOCKED = false → s.sec.chal = some c → ∃ t, exec (.brResp l) s = .next t ∧
      t.sec.verifying = some (l, c) ∧ t.sec.chal = none ∧ t.on SEC_STAT SEC_STAT_BUSY = true ∧ OnlyRegs [SEC_STAT] s (t.withSec s.sec)) ∧
    (s.sec.verifying = none ∨ s.scribeActs = false → exec .breachResponseVerified s = .next s) ∧
    (∀ c, s.sec.verifying = some (l, c) → s.scribeActs = true → s.answers l c = false → ∃ t, exec .breachResponseVerified s = .next t ∧ fails t) ∧
    (∀ c, s.sec.verifying = some (l, c) → s.scribeActs = true → s.answers l c = true → ∃ t, exec .breachResponseVerified s = .next t ∧ t.hasEvt EVT_SEC_BREACH ∧
      t.fld SEC_STAT SEC_STAT_BLOT = 1 ∧ t.fld SEC_STAT SEC_STAT_CAUSE = 1 ∧ t.sec.keys = [] ∧ t.mf.scribeHeld = true ∧
      (s.mode ≠ 0 → 13 ∈ t.mf.decided))

/-- The blot, the lid and the loss of ROOT (R445, R586, R648 to R650, R653, R595): the lid event of an enabled lid starts a
blot where none has begun and the engine is not sealed: keys, scribe SRAM and slate go to zero, the scribe is held, every lane
is off and transition 13 is decided; at its end the outer domains are down and a breach is granted; the loss of ROOT seals the
engine at once. Where a clause goes beyond the words of the rules, it is the model's choice: log entries 81 and 92. -/
def Obligations.BlotAndRoot : Prop :=
  ∀ (s : State), s.sec.otpA = s.sec.otpB →
    let lid := s.mf.power = true ∧ s.sec.otpA.lidEn = true
    let blotted := s.fld SEC_STAT SEC_STAT_BLOT ≠ 0
    let ends := s.fld SEC_STAT SEC_STAT_BLOT = 1
    let off := fun (t : State) (d : Domain) => (t.dom (domKey d)).on = false
    let root := s.mf.power = true ∧ s.mf.root = true
    (s.mf.power = false → exec .lidEvent s = .next s) ∧
    (s.mf.power = true → s.sec.otpA.lidEn = false → ∃ t, exec .lidEvent s = .next t ∧ OnlyRegs [SEC_STAT] s t) ∧
    (lid → ¬ blotted → s.mode ≠ 7 → ∃ t, exec .lidEvent s = .next t ∧ t.hasEvt EVT_SEC_LID ∧ t.fld SEC_STAT SEC_STAT_BLOT = 1 ∧
      t.fld SEC_STAT SEC_STAT_CAUSE = 2 ∧ t.sec.keys = [] ∧ t.reg SEC_KEYS = 0 ∧ t.mf.scribeHeld = true ∧
      t.on (FAB_CTL 0) FAB_CTL_REMAP = false ∧ (∀ k < 32, t.fld (LANE_STAT k) LANE_STAT_STATE = 0 ∧ (t.lane k).drive = .off) ∧
      (∀ a, 0x04000000 ≤ a → a < 0x04080000 → t.byte a = memDflt a) ∧ (∀ a, 0x08000000 ≤ a → a < 0x08200000 → t.byte a = memDflt a) ∧
      (s.mode ≠ 0 → 13 ∈ t.mf.decided)) ∧
    (lid → blotted → s.mode ≠ 7 → ∃ t, exec .lidEvent s = .next t ∧ t.hasEvt EVT_SEC_LID ∧ t.sec = s.sec ∧ t.mem = s.mem) ∧
    (lid → s.mode = 7 → ∃ t, exec .lidEvent s = .next t ∧ t.hasEvt EVT_SEC_LID ∧ t.sec.keys = [] ∧ t.mem = s.mem) ∧
    (¬ ends → exec .blotDone s = .next s) ∧
    (ends → ∃ t, exec .blotDone s = .next t ∧ t.fld SEC_STAT SEC_STAT_BLOT = 2 ∧ t.hasEvt EVT_SEC_BLOT ∧ t.sec.blot = none ∧
      (∀ p, off t (.pld p) ∧ off t (.net p)) ∧ off t .sap ∧ off t .lane ∧
      (s.fld SEC_STAT SEC_STAT_CAUSE = 1 → t.on SEC_STAT SEC_STAT_GRANTED = true) ∧
      (s.blotLeft = true → t.on MF_FAULT MF_FAULT_GRAVE = true) ∧
      (s.blotLeft = false → s.isSealing = true ∨ s.mf.root = false → t.mf.scribeHeld = s.mf.scribeHeld) ∧
      (s.blotLeft = false → s.isSealing = false → s.mf.root = true → t.mf.scribeHeld = false ∧ (s.mode = 0 → 13 ∈ t.mf.decided))) ∧
    (¬ root → exec .rootLoss s = .next s) ∧
    (root → ∃ t, exec .rootLoss s = .next t ∧ t.mode = 7 ∧ t.mf.root = false ∧ t.hasEvt EVT_REF_ROOT_LOSS ∧
      t.on MF_FAULT MF_FAULT_GRAVE = true ∧ (∀ k < 32, t.fld (LANE_STAT k) LANE_STAT_STATE = 0 ∧ (t.lane k).drive = .off) ∧
      (s.mode ≠ 7 → t.fld MF_MODE MF_MODE_TRANS = 14))

/-- Freeboard: read sets, adaptive voltage and the ledger's snapshot (R658, R660, R661, R669, R671): with adaptation off the
state is OFF; below the target the voltage rises by 5 mV at most to VMAX; at VMAX EVT_FB_CEIL rises; after ten good read sets
with LOWER it falls by 5 mV at most to VMIN; a step that the regulator does not confirm is a fault. Where a clause goes beyond
the words of the rules, it is the model's choice: log entries 78 and 79. -/
def Obligations.Freeboard : Prop :=
  ∀ (s : State) (l : List GaugeRead) (ack : Bool) (v : BitVec 16) (k : VStep),
    let goes := s.fb.reading = true ∧ s.scribeActs = true
    let u := ((s.withFb { s.fb with reading := false }).gaugesStore l).addLife
    let fmin := u.fld FB_STAT FB_STAT_FMIN
    let target := s.fld FB_MARGIN FB_MARGIN_TARGET
    let vdd := s.fld FB_VDD FB_VDD_REQ
    let vmax := s.fld FB_VLIM FB_VLIM_VMAX
    let vmin := s.fld FB_VLIM FB_VLIM_VMIN
    let adapts := goes ∧ s.on FB_CTL FB_CTL_EN = true ∧ u.validGauges ≠ [] ∧ s.fld FB_STAT FB_STAT_STATE ≠ 3
    let near := ack = true ∧ v.toNat ≤ vdd + 10 ∧ vdd ≤ v.toNat + 10
    (s.scribeActs = true → s.mode ≠ 0 → s.mode ≠ 7 → exec .readSetStart s = .next (s.withFb { s.fb with reading := true })) ∧
    (s.scribeActs = false ∨ s.mode = 0 ∨ s.mode = 7 → exec .readSetStart s = .next s) ∧
    (¬ goes → exec (.readSetDone l) s = .next s) ∧
    (goes → s.on FB_CTL FB_CTL_EN = false → ∃ t, exec (.readSetDone l) s = .next t ∧ t.fld FB_STAT FB_STAT_STATE = 0 ∧ OnlyRegs [FB_STAT] u t) ∧
    (goes → s.on FB_CTL FB_CTL_EN = true → u.validGauges = [] → exec (.readSetDone l) s = .next u) ∧
    (adapts → fmin < target → vdd < vmax → ∃ t, exec (.readSetDone l) s = .next t ∧ t.fld FB_VDD FB_VDD_REQ = min vmax (vdd + 5) ∧
      t.fb.step = some .raise ∧ t.fb.steps = 1 ∧ t.hasEvt EVT_FB_STEP ∧ t.mem = s.mem) ∧
    (adapts → fmin < target → vdd = vmax → ∃ t, exec (.readSetDone l) s = .next t ∧ t.fld FB_VDD FB_VDD_REQ = vdd ∧
      t.fld FB_STAT FB_STAT_STATE = 2 ∧ t.hasEvt EVT_FB_CEIL) ∧
    (adapts → target + s.fld FB_MARGIN FB_MARGIN_HYST ≤ fmin → s.on FB_CTL FB_CTL_LOWER = true → 9 ≤ s.fb.good → vmin < vdd →
      ∃ t, exec (.readSetDone l) s = .next t ∧ t.fld FB_VDD FB_VDD_REQ = max vmin (vdd - 5) ∧ t.fb.good = 0 ∧ t.fb.step = some .lower) ∧
    (goes → s.on FB_CTL FB_CTL_EN = true → u.validGauges ≠ [] → s.fld FB_STAT FB_STAT_STATE = 3 → ∃ t, exec (.readSetDone l) s = .next t ∧
      t.fld FB_VDD FB_VDD_REQ = vdd ∧ t.fb.step = some .retry) ∧
    (∀ r : GaugeRead, (s.gaugeStore r).reg (GA_TJ r.gauge.val) = r.tj.setWidth 32 ∧ (s.gaugeStore r).reg (GA_STK r.gauge.val) = loWord s.tim.strk ∧
      (s.gaugeStore r).reg (GA_DRIFT r.gauge.val) = (drift r.tref.toNat r.tstress.toNat).setWidth 32) ∧
    (s.fb.step = none ∨ s.scribeActs = false → exec (.voltageStepConfirm ack v l) s = .next s) ∧
    (s.fb.step = some k → s.scribeActs = true → ¬ near → ∃ t, exec (.voltageStepConfirm ack v l) s = .next t ∧
      t.fld FB_STAT FB_STAT_STATE = 3 ∧ t.hasEvt EVT_FB_PMBUS ∧ t.fb.step = none ∧ (ack = true → t.fld FB_VDD FB_VDD_READ = v.toNat)) ∧
    (s.fb.step = some k → k = .lower → s.scribeActs = true → near → ∃ t, exec (.voltageStepConfirm ack v l) s = .next t ∧
      t.fld FB_VDD FB_VDD_READ = v.toNat ∧ t.fld FB_VDD FB_VDD_REQ = vdd ∧ t.fld FB_STAT FB_STAT_STATE = s.fld FB_STAT FB_STAT_STATE ∧ t.fb.step = none) ∧
    (s.scribeActs = false ∨ s.fb.slots = [] → exec .ledgerSnapshot s = .next s) ∧
    (s.scribeActs = true → s.fb.slots ≠ [] → s.fb.ledger.length < 2048 → ∃ t r, exec .ledgerSnapshot s = .next t ∧
      t.fb.ledger = s.fb.ledger ++ [r] ∧ r.vdd.toNat = vdd ∧ r.life = joinWords 64 (s.reg FB_LIFE_HI) (s.reg FB_LIFE_LO) ∧ r.boots = s.reg FB_BOOTS ∧
      (∀ q, s.fb.ledger.getLast? = some q → r.seq = q.seq + 1) ∧ OnlyRegs [FB_LEDGER] s (t.withFb s.fb))

/-! ### The block as a whole -/

/-- A step of the block runs the command at the front of its queue on the machine with the rest of the queue. Where a clause
goes beyond the words of the rules, it is the model's choice: log entry 1. -/
def Obligations.StepRunsFrontCommand : Prop :=
  ∀ (s : State) (c : Instr) (rest : List Instr), s.pending = c :: rest → step s = exec c { s with pending := rest }

/-- The state after reset: no power, DARK, every register at its reset value, no command waiting, memory with its reset
contents, every switched domain off. Where a clause goes beyond the words of the rules, it is the model's choice: log entries
5 and 6. -/
def Obligations.ResetState : Prop :=
  (∀ a, State.reset.reg a = regReset a) ∧ (∀ a, State.reset.byte a = memDflt a) ∧ State.reset.pending = [] ∧ State.reset.mode = 0 ∧
  State.reset.mf.power = false ∧ State.reset.mf.scribeHeld = true ∧ (∀ d, (State.reset.dom d).on = false) ∧
  (∀ n, State.reset.nib n = {}) ∧ State.reset.stager.staged = [] ∧ Inv State.reset

/-- Every step keeps the canonical form of memory, from every state that has it. -/
def Obligations.InvariantKept : Prop :=
 ∀ (s t : State), Inv s → step s = .next t → Inv t

/-- No command but a RESET_N pulse (R689) ends a run: each answers a next state from every state, with every operand. Where a
clause goes beyond the words of the rules, it is the model's choice: log entry 91. -/
def Obligations.EveryCommandCompletes : Prop :=
  ∀ (s : State) (c : Instr), (∀ w, c ≠ .resetNAssert w) → ∃ t, exec c s = .next t

/-- Encoding and decoding of the nib's instructions agree (R128 to R156): a word decodes to the instruction it was encoded
from, with every operand at every value its field admits, and a word that decodes is the encoding of its instruction. -/
def Obligations.NibEncodeDecode : Prop :=
  ∀ (n : NibId) (i : Instr) (w : Word),
    (nibOf i = some n → i.wf = true → ∃ v, nibEncode i = some v ∧ nibDecode n v = some i) ∧
    (nibDecode n w = some i → nibOf i = some n ∧ i.wf = true ∧ nibEncode i = some w)
end

