-- ==== Sys2Proof/Laws/State.lean ====
section
/-! SUPPORT. Every field of the state under every replacement of one field: the field replaced reads as the new value,
every other field as before. -/

namespace Sys2Proof.Machine.State

section
variable (x : List Instr) (s : State)
@[simp] theorem withPending_pending : (s.withPending x).pending = x := by cases s; rfl
@[simp] theorem withPending_free : (s.withPending x).free = s.free := by cases s; rfl
@[simp] theorem withPending_tim : (s.withPending x).tim = s.tim := by cases s; rfl
@[simp] theorem withPending_regs : (s.withPending x).regs = s.regs := by cases s; rfl
@[simp] theorem withPending_latch : (s.withPending x).latch = s.latch := by cases s; rfl
@[simp] theorem withPending_mem : (s.withPending x).mem = s.mem := by cases s; rfl
@[simp] theorem withPending_marks : (s.withPending x).marks = s.marks := by cases s; rfl
@[simp] theorem withPending_groups : (s.withPending x).groups = s.groups := by cases s; rfl
@[simp] theorem withPending_nibs : (s.withPending x).nibs = s.nibs := by cases s; rfl
@[simp] theorem withPending_slate : (s.withPending x).slate = s.slate := by cases s; rfl
@[simp] theorem withPending_rul : (s.withPending x).rul = s.rul := by cases s; rfl
@[simp] theorem withPending_inkPrev : (s.withPending x).inkPrev = s.inkPrev := by cases s; rfl
@[simp] theorem withPending_brus : (s.withPending x).brus = s.brus := by cases s; rfl
@[simp] theorem withPending_bruLive : (s.withPending x).bruLive = s.bruLive := by cases s; rfl
@[simp] theorem withPending_doms : (s.withPending x).doms = s.doms := by cases s; rfl
@[simp] theorem withPending_saps : (s.withPending x).saps = s.saps := by cases s; rfl
@[simp] theorem withPending_sapHeld : (s.withPending x).sapHeld = s.sapHeld := by cases s; rfl
@[simp] theorem withPending_sapRemap : (s.withPending x).sapRemap = s.sapRemap := by cases s; rfl
@[simp] theorem withPending_sapMasks : (s.withPending x).sapMasks = s.sapMasks := by cases s; rfl
@[simp] theorem withPending_lanes : (s.withPending x).lanes = s.lanes := by cases s; rfl
@[simp] theorem withPending_senseBad : (s.withPending x).senseBad = s.senseBad := by cases s; rfl
@[simp] theorem withPending_auxBits : (s.withPending x).auxBits = s.auxBits := by cases s; rfl
@[simp] theorem withPending_net : (s.withPending x).net = s.net := by cases s; rfl
@[simp] theorem withPending_stager : (s.withPending x).stager = s.stager := by cases s; rfl
@[simp] theorem withPending_mir : (s.withPending x).mir = s.mir := by cases s; rfl
@[simp] theorem withPending_ref : (s.withPending x).ref = s.ref := by cases s; rfl
@[simp] theorem withPending_tbs : (s.withPending x).tbs = s.tbs := by cases s; rfl
@[simp] theorem withPending_ptps : (s.withPending x).ptps = s.ptps := by cases s; rfl
@[simp] theorem withPending_pulses : (s.withPending x).pulses = s.pulses := by cases s; rfl
@[simp] theorem withPending_capts : (s.withPending x).capts = s.capts := by cases s; rfl
@[simp] theorem withPending_capLatch : (s.withPending x).capLatch = s.capLatch := by cases s; rfl
@[simp] theorem withPending_fab : (s.withPending x).fab = s.fab := by cases s; rfl
@[simp] theorem withPending_chains : (s.withPending x).chains = s.chains := by cases s; rfl
@[simp] theorem withPending_fb : (s.withPending x).fb = s.fb := by cases s; rfl
@[simp] theorem withPending_sec : (s.withPending x).sec = s.sec := by cases s; rfl
@[simp] theorem withPending_boot : (s.withPending x).boot = s.boot := by cases s; rfl
@[simp] theorem withPending_mch : (s.withPending x).mch = s.mch := by cases s; rfl
@[simp] theorem withPending_mf : (s.withPending x).mf = s.mf := by cases s; rfl
end

section
variable (x : Nat) (s : State)
@[simp] theorem withFree_pending : (s.withFree x).pending = s.pending := by cases s; rfl
@[simp] theorem withFree_free : (s.withFree x).free = x := by cases s; rfl
@[simp] theorem withFree_tim : (s.withFree x).tim = s.tim := by cases s; rfl
@[simp] theorem withFree_regs : (s.withFree x).regs = s.regs := by cases s; rfl
@[simp] theorem withFree_latch : (s.withFree x).latch = s.latch := by cases s; rfl
@[simp] theorem withFree_mem : (s.withFree x).mem = s.mem := by cases s; rfl
@[simp] theorem withFree_marks : (s.withFree x).marks = s.marks := by cases s; rfl
@[simp] theorem withFree_groups : (s.withFree x).groups = s.groups := by cases s; rfl
@[simp] theorem withFree_nibs : (s.withFree x).nibs = s.nibs := by cases s; rfl
@[simp] theorem withFree_slate : (s.withFree x).slate = s.slate := by cases s; rfl
@[simp] theorem withFree_rul : (s.withFree x).rul = s.rul := by cases s; rfl
@[simp] theorem withFree_inkPrev : (s.withFree x).inkPrev = s.inkPrev := by cases s; rfl
@[simp] theorem withFree_brus : (s.withFree x).brus = s.brus := by cases s; rfl
@[simp] theorem withFree_bruLive : (s.withFree x).bruLive = s.bruLive := by cases s; rfl
@[simp] theorem withFree_doms : (s.withFree x).doms = s.doms := by cases s; rfl
@[simp] theorem withFree_saps : (s.withFree x).saps = s.saps := by cases s; rfl
@[simp] theorem withFree_sapHeld : (s.withFree x).sapHeld = s.sapHeld := by cases s; rfl
@[simp] theorem withFree_sapRemap : (s.withFree x).sapRemap = s.sapRemap := by cases s; rfl
@[simp] theorem withFree_sapMasks : (s.withFree x).sapMasks = s.sapMasks := by cases s; rfl
@[simp] theorem withFree_lanes : (s.withFree x).lanes = s.lanes := by cases s; rfl
@[simp] theorem withFree_senseBad : (s.withFree x).senseBad = s.senseBad := by cases s; rfl
@[simp] theorem withFree_auxBits : (s.withFree x).auxBits = s.auxBits := by cases s; rfl
@[simp] theorem withFree_net : (s.withFree x).net = s.net := by cases s; rfl
@[simp] theorem withFree_stager : (s.withFree x).stager = s.stager := by cases s; rfl
@[simp] theorem withFree_mir : (s.withFree x).mir = s.mir := by cases s; rfl
@[simp] theorem withFree_ref : (s.withFree x).ref = s.ref := by cases s; rfl
@[simp] theorem withFree_tbs : (s.withFree x).tbs = s.tbs := by cases s; rfl
@[simp] theorem withFree_ptps : (s.withFree x).ptps = s.ptps := by cases s; rfl
@[simp] theorem withFree_pulses : (s.withFree x).pulses = s.pulses := by cases s; rfl
@[simp] theorem withFree_capts : (s.withFree x).capts = s.capts := by cases s; rfl
@[simp] theorem withFree_capLatch : (s.withFree x).capLatch = s.capLatch := by cases s; rfl
@[simp] theorem withFree_fab : (s.withFree x).fab = s.fab := by cases s; rfl
@[simp] theorem withFree_chains : (s.withFree x).chains = s.chains := by cases s; rfl
@[simp] theorem withFree_fb : (s.withFree x).fb = s.fb := by cases s; rfl
@[simp] theorem withFree_sec : (s.withFree x).sec = s.sec := by cases s; rfl
@[simp] theorem withFree_boot : (s.withFree x).boot = s.boot := by cases s; rfl
@[simp] theorem withFree_mch : (s.withFree x).mch = s.mch := by cases s; rfl
@[simp] theorem withFree_mf : (s.withFree x).mf = s.mf := by cases s; rfl
end

section
variable (x : Timer) (s : State)
@[simp] theorem withTim_pending : (s.withTim x).pending = s.pending := by cases s; rfl
@[simp] theorem withTim_free : (s.withTim x).free = s.free := by cases s; rfl
@[simp] theorem withTim_tim : (s.withTim x).tim = x := by cases s; rfl
@[simp] theorem withTim_regs : (s.withTim x).regs = s.regs := by cases s; rfl
@[simp] theorem withTim_latch : (s.withTim x).latch = s.latch := by cases s; rfl
@[simp] theorem withTim_mem : (s.withTim x).mem = s.mem := by cases s; rfl
@[simp] theorem withTim_marks : (s.withTim x).marks = s.marks := by cases s; rfl
@[simp] theorem withTim_groups : (s.withTim x).groups = s.groups := by cases s; rfl
@[simp] theorem withTim_nibs : (s.withTim x).nibs = s.nibs := by cases s; rfl
@[simp] theorem withTim_slate : (s.withTim x).slate = s.slate := by cases s; rfl
@[simp] theorem withTim_rul : (s.withTim x).rul = s.rul := by cases s; rfl
@[simp] theorem withTim_inkPrev : (s.withTim x).inkPrev = s.inkPrev := by cases s; rfl
@[simp] theorem withTim_brus : (s.withTim x).brus = s.brus := by cases s; rfl
@[simp] theorem withTim_bruLive : (s.withTim x).bruLive = s.bruLive := by cases s; rfl
@[simp] theorem withTim_doms : (s.withTim x).doms = s.doms := by cases s; rfl
@[simp] theorem withTim_saps : (s.withTim x).saps = s.saps := by cases s; rfl
@[simp] theorem withTim_sapHeld : (s.withTim x).sapHeld = s.sapHeld := by cases s; rfl
@[simp] theorem withTim_sapRemap : (s.withTim x).sapRemap = s.sapRemap := by cases s; rfl
@[simp] theorem withTim_sapMasks : (s.withTim x).sapMasks = s.sapMasks := by cases s; rfl
@[simp] theorem withTim_lanes : (s.withTim x).lanes = s.lanes := by cases s; rfl
@[simp] theorem withTim_senseBad : (s.withTim x).senseBad = s.senseBad := by cases s; rfl
@[simp] theorem withTim_auxBits : (s.withTim x).auxBits = s.auxBits := by cases s; rfl
@[simp] theorem withTim_net : (s.withTim x).net = s.net := by cases s; rfl
@[simp] theorem withTim_stager : (s.withTim x).stager = s.stager := by cases s; rfl
@[simp] theorem withTim_mir : (s.withTim x).mir = s.mir := by cases s; rfl
@[simp] theorem withTim_ref : (s.withTim x).ref = s.ref := by cases s; rfl
@[simp] theorem withTim_tbs : (s.withTim x).tbs = s.tbs := by cases s; rfl
@[simp] theorem withTim_ptps : (s.withTim x).ptps = s.ptps := by cases s; rfl
@[simp] theorem withTim_pulses : (s.withTim x).pulses = s.pulses := by cases s; rfl
@[simp] theorem withTim_capts : (s.withTim x).capts = s.capts := by cases s; rfl
@[simp] theorem withTim_capLatch : (s.withTim x).capLatch = s.capLatch := by cases s; rfl
@[simp] theorem withTim_fab : (s.withTim x).fab = s.fab := by cases s; rfl
@[simp] theorem withTim_chains : (s.withTim x).chains = s.chains := by cases s; rfl
@[simp] theorem withTim_fb : (s.withTim x).fb = s.fb := by cases s; rfl
@[simp] theorem withTim_sec : (s.withTim x).sec = s.sec := by cases s; rfl
@[simp] theorem withTim_boot : (s.withTim x).boot = s.boot := by cases s; rfl
@[simp] theorem withTim_mch : (s.withTim x).mch = s.mch := by cases s; rfl
@[simp] theorem withTim_mf : (s.withTim x).mf = s.mf := by cases s; rfl
end

section
variable (x : SMap Word) (s : State)
@[simp] theorem withRegs_pending : (s.withRegs x).pending = s.pending := by cases s; rfl
@[simp] theorem withRegs_free : (s.withRegs x).free = s.free := by cases s; rfl
@[simp] theorem withRegs_tim : (s.withRegs x).tim = s.tim := by cases s; rfl
@[simp] theorem withRegs_regs : (s.withRegs x).regs = x := by cases s; rfl
@[simp] theorem withRegs_latch : (s.withRegs x).latch = s.latch := by cases s; rfl
@[simp] theorem withRegs_mem : (s.withRegs x).mem = s.mem := by cases s; rfl
@[simp] theorem withRegs_marks : (s.withRegs x).marks = s.marks := by cases s; rfl
@[simp] theorem withRegs_groups : (s.withRegs x).groups = s.groups := by cases s; rfl
@[simp] theorem withRegs_nibs : (s.withRegs x).nibs = s.nibs := by cases s; rfl
@[simp] theorem withRegs_slate : (s.withRegs x).slate = s.slate := by cases s; rfl
@[simp] theorem withRegs_rul : (s.withRegs x).rul = s.rul := by cases s; rfl
@[simp] theorem withRegs_inkPrev : (s.withRegs x).inkPrev = s.inkPrev := by cases s; rfl
@[simp] theorem withRegs_brus : (s.withRegs x).brus = s.brus := by cases s; rfl
@[simp] theorem withRegs_bruLive : (s.withRegs x).bruLive = s.bruLive := by cases s; rfl
@[simp] theorem withRegs_doms : (s.withRegs x).doms = s.doms := by cases s; rfl
@[simp] theorem withRegs_saps : (s.withRegs x).saps = s.saps := by cases s; rfl
@[simp] theorem withRegs_sapHeld : (s.withRegs x).sapHeld = s.sapHeld := by cases s; rfl
@[simp] theorem withRegs_sapRemap : (s.withRegs x).sapRemap = s.sapRemap := by cases s; rfl
@[simp] theorem withRegs_sapMasks : (s.withRegs x).sapMasks = s.sapMasks := by cases s; rfl
@[simp] theorem withRegs_lanes : (s.withRegs x).lanes = s.lanes := by cases s; rfl
@[simp] theorem withRegs_senseBad : (s.withRegs x).senseBad = s.senseBad := by cases s; rfl
@[simp] theorem withRegs_auxBits : (s.withRegs x).auxBits = s.auxBits := by cases s; rfl
@[simp] theorem withRegs_net : (s.withRegs x).net = s.net := by cases s; rfl
@[simp] theorem withRegs_stager : (s.withRegs x).stager = s.stager := by cases s; rfl
@[simp] theorem withRegs_mir : (s.withRegs x).mir = s.mir := by cases s; rfl
@[simp] theorem withRegs_ref : (s.withRegs x).ref = s.ref := by cases s; rfl
@[simp] theorem withRegs_tbs : (s.withRegs x).tbs = s.tbs := by cases s; rfl
@[simp] theorem withRegs_ptps : (s.withRegs x).ptps = s.ptps := by cases s; rfl
@[simp] theorem withRegs_pulses : (s.withRegs x).pulses = s.pulses := by cases s; rfl
@[simp] theorem withRegs_capts : (s.withRegs x).capts = s.capts := by cases s; rfl
@[simp] theorem withRegs_capLatch : (s.withRegs x).capLatch = s.capLatch := by cases s; rfl
@[simp] theorem withRegs_fab : (s.withRegs x).fab = s.fab := by cases s; rfl
@[simp] theorem withRegs_chains : (s.withRegs x).chains = s.chains := by cases s; rfl
@[simp] theorem withRegs_fb : (s.withRegs x).fb = s.fb := by cases s; rfl
@[simp] theorem withRegs_sec : (s.withRegs x).sec = s.sec := by cases s; rfl
@[simp] theorem withRegs_boot : (s.withRegs x).boot = s.boot := by cases s; rfl
@[simp] theorem withRegs_mch : (s.withRegs x).mch = s.mch := by cases s; rfl
@[simp] theorem withRegs_mf : (s.withRegs x).mf = s.mf := by cases s; rfl
end

section
variable (x : SMap (List Word)) (s : State)
@[simp] theorem withLatch_pending : (s.withLatch x).pending = s.pending := by cases s; rfl
@[simp] theorem withLatch_free : (s.withLatch x).free = s.free := by cases s; rfl
@[simp] theorem withLatch_tim : (s.withLatch x).tim = s.tim := by cases s; rfl
@[simp] theorem withLatch_regs : (s.withLatch x).regs = s.regs := by cases s; rfl
@[simp] theorem withLatch_latch : (s.withLatch x).latch = x := by cases s; rfl
@[simp] theorem withLatch_mem : (s.withLatch x).mem = s.mem := by cases s; rfl
@[simp] theorem withLatch_marks : (s.withLatch x).marks = s.marks := by cases s; rfl
@[simp] theorem withLatch_groups : (s.withLatch x).groups = s.groups := by cases s; rfl
@[simp] theorem withLatch_nibs : (s.withLatch x).nibs = s.nibs := by cases s; rfl
@[simp] theorem withLatch_slate : (s.withLatch x).slate = s.slate := by cases s; rfl
@[simp] theorem withLatch_rul : (s.withLatch x).rul = s.rul := by cases s; rfl
@[simp] theorem withLatch_inkPrev : (s.withLatch x).inkPrev = s.inkPrev := by cases s; rfl
@[simp] theorem withLatch_brus : (s.withLatch x).brus = s.brus := by cases s; rfl
@[simp] theorem withLatch_bruLive : (s.withLatch x).bruLive = s.bruLive := by cases s; rfl
@[simp] theorem withLatch_doms : (s.withLatch x).doms = s.doms := by cases s; rfl
@[simp] theorem withLatch_saps : (s.withLatch x).saps = s.saps := by cases s; rfl
@[simp] theorem withLatch_sapHeld : (s.withLatch x).sapHeld = s.sapHeld := by cases s; rfl
@[simp] theorem withLatch_sapRemap : (s.withLatch x).sapRemap = s.sapRemap := by cases s; rfl
@[simp] theorem withLatch_sapMasks : (s.withLatch x).sapMasks = s.sapMasks := by cases s; rfl
@[simp] theorem withLatch_lanes : (s.withLatch x).lanes = s.lanes := by cases s; rfl
@[simp] theorem withLatch_senseBad : (s.withLatch x).senseBad = s.senseBad := by cases s; rfl
@[simp] theorem withLatch_auxBits : (s.withLatch x).auxBits = s.auxBits := by cases s; rfl
@[simp] theorem withLatch_net : (s.withLatch x).net = s.net := by cases s; rfl
@[simp] theorem withLatch_stager : (s.withLatch x).stager = s.stager := by cases s; rfl
@[simp] theorem withLatch_mir : (s.withLatch x).mir = s.mir := by cases s; rfl
@[simp] theorem withLatch_ref : (s.withLatch x).ref = s.ref := by cases s; rfl
@[simp] theorem withLatch_tbs : (s.withLatch x).tbs = s.tbs := by cases s; rfl
@[simp] theorem withLatch_ptps : (s.withLatch x).ptps = s.ptps := by cases s; rfl
@[simp] theorem withLatch_pulses : (s.withLatch x).pulses = s.pulses := by cases s; rfl
@[simp] theorem withLatch_capts : (s.withLatch x).capts = s.capts := by cases s; rfl
@[simp] theorem withLatch_capLatch : (s.withLatch x).capLatch = s.capLatch := by cases s; rfl
@[simp] theorem withLatch_fab : (s.withLatch x).fab = s.fab := by cases s; rfl
@[simp] theorem withLatch_chains : (s.withLatch x).chains = s.chains := by cases s; rfl
@[simp] theorem withLatch_fb : (s.withLatch x).fb = s.fb := by cases s; rfl
@[simp] theorem withLatch_sec : (s.withLatch x).sec = s.sec := by cases s; rfl
@[simp] theorem withLatch_boot : (s.withLatch x).boot = s.boot := by cases s; rfl
@[simp] theorem withLatch_mch : (s.withLatch x).mch = s.mch := by cases s; rfl
@[simp] theorem withLatch_mf : (s.withLatch x).mf = s.mf := by cases s; rfl
end

section
variable (x : List Host.Cell) (s : State)
@[simp] theorem withMem_pending : (s.withMem x).pending = s.pending := by cases s; rfl
@[simp] theorem withMem_free : (s.withMem x).free = s.free := by cases s; rfl
@[simp] theorem withMem_tim : (s.withMem x).tim = s.tim := by cases s; rfl
@[simp] theorem withMem_regs : (s.withMem x).regs = s.regs := by cases s; rfl
@[simp] theorem withMem_latch : (s.withMem x).latch = s.latch := by cases s; rfl
@[simp] theorem withMem_mem : (s.withMem x).mem = x := by cases s; rfl
@[simp] theorem withMem_marks : (s.withMem x).marks = s.marks := by cases s; rfl
@[simp] theorem withMem_groups : (s.withMem x).groups = s.groups := by cases s; rfl
@[simp] theorem withMem_nibs : (s.withMem x).nibs = s.nibs := by cases s; rfl
@[simp] theorem withMem_slate : (s.withMem x).slate = s.slate := by cases s; rfl
@[simp] theorem withMem_rul : (s.withMem x).rul = s.rul := by cases s; rfl
@[simp] theorem withMem_inkPrev : (s.withMem x).inkPrev = s.inkPrev := by cases s; rfl
@[simp] theorem withMem_brus : (s.withMem x).brus = s.brus := by cases s; rfl
@[simp] theorem withMem_bruLive : (s.withMem x).bruLive = s.bruLive := by cases s; rfl
@[simp] theorem withMem_doms : (s.withMem x).doms = s.doms := by cases s; rfl
@[simp] theorem withMem_saps : (s.withMem x).saps = s.saps := by cases s; rfl
@[simp] theorem withMem_sapHeld : (s.withMem x).sapHeld = s.sapHeld := by cases s; rfl
@[simp] theorem withMem_sapRemap : (s.withMem x).sapRemap = s.sapRemap := by cases s; rfl
@[simp] theorem withMem_sapMasks : (s.withMem x).sapMasks = s.sapMasks := by cases s; rfl
@[simp] theorem withMem_lanes : (s.withMem x).lanes = s.lanes := by cases s; rfl
@[simp] theorem withMem_senseBad : (s.withMem x).senseBad = s.senseBad := by cases s; rfl
@[simp] theorem withMem_auxBits : (s.withMem x).auxBits = s.auxBits := by cases s; rfl
@[simp] theorem withMem_net : (s.withMem x).net = s.net := by cases s; rfl
@[simp] theorem withMem_stager : (s.withMem x).stager = s.stager := by cases s; rfl
@[simp] theorem withMem_mir : (s.withMem x).mir = s.mir := by cases s; rfl
@[simp] theorem withMem_ref : (s.withMem x).ref = s.ref := by cases s; rfl
@[simp] theorem withMem_tbs : (s.withMem x).tbs = s.tbs := by cases s; rfl
@[simp] theorem withMem_ptps : (s.withMem x).ptps = s.ptps := by cases s; rfl
@[simp] theorem withMem_pulses : (s.withMem x).pulses = s.pulses := by cases s; rfl
@[simp] theorem withMem_capts : (s.withMem x).capts = s.capts := by cases s; rfl
@[simp] theorem withMem_capLatch : (s.withMem x).capLatch = s.capLatch := by cases s; rfl
@[simp] theorem withMem_fab : (s.withMem x).fab = s.fab := by cases s; rfl
@[simp] theorem withMem_chains : (s.withMem x).chains = s.chains := by cases s; rfl
@[simp] theorem withMem_fb : (s.withMem x).fb = s.fb := by cases s; rfl
@[simp] theorem withMem_sec : (s.withMem x).sec = s.sec := by cases s; rfl
@[simp] theorem withMem_boot : (s.withMem x).boot = s.boot := by cases s; rfl
@[simp] theorem withMem_mch : (s.withMem x).mch = s.mch := by cases s; rfl
@[simp] theorem withMem_mf : (s.withMem x).mf = s.mf := by cases s; rfl
end

section
variable (x : SMap Mark) (s : State)
@[simp] theorem withMarks_pending : (s.withMarks x).pending = s.pending := by cases s; rfl
@[simp] theorem withMarks_free : (s.withMarks x).free = s.free := by cases s; rfl
@[simp] theorem withMarks_tim : (s.withMarks x).tim = s.tim := by cases s; rfl
@[simp] theorem withMarks_regs : (s.withMarks x).regs = s.regs := by cases s; rfl
@[simp] theorem withMarks_latch : (s.withMarks x).latch = s.latch := by cases s; rfl
@[simp] theorem withMarks_mem : (s.withMarks x).mem = s.mem := by cases s; rfl
@[simp] theorem withMarks_marks : (s.withMarks x).marks = x := by cases s; rfl
@[simp] theorem withMarks_groups : (s.withMarks x).groups = s.groups := by cases s; rfl
@[simp] theorem withMarks_nibs : (s.withMarks x).nibs = s.nibs := by cases s; rfl
@[simp] theorem withMarks_slate : (s.withMarks x).slate = s.slate := by cases s; rfl
@[simp] theorem withMarks_rul : (s.withMarks x).rul = s.rul := by cases s; rfl
@[simp] theorem withMarks_inkPrev : (s.withMarks x).inkPrev = s.inkPrev := by cases s; rfl
@[simp] theorem withMarks_brus : (s.withMarks x).brus = s.brus := by cases s; rfl
@[simp] theorem withMarks_bruLive : (s.withMarks x).bruLive = s.bruLive := by cases s; rfl
@[simp] theorem withMarks_doms : (s.withMarks x).doms = s.doms := by cases s; rfl
@[simp] theorem withMarks_saps : (s.withMarks x).saps = s.saps := by cases s; rfl
@[simp] theorem withMarks_sapHeld : (s.withMarks x).sapHeld = s.sapHeld := by cases s; rfl
@[simp] theorem withMarks_sapRemap : (s.withMarks x).sapRemap = s.sapRemap := by cases s; rfl
@[simp] theorem withMarks_sapMasks : (s.withMarks x).sapMasks = s.sapMasks := by cases s; rfl
@[simp] theorem withMarks_lanes : (s.withMarks x).lanes = s.lanes := by cases s; rfl
@[simp] theorem withMarks_senseBad : (s.withMarks x).senseBad = s.senseBad := by cases s; rfl
@[simp] theorem withMarks_auxBits : (s.withMarks x).auxBits = s.auxBits := by cases s; rfl
@[simp] theorem withMarks_net : (s.withMarks x).net = s.net := by cases s; rfl
@[simp] theorem withMarks_stager : (s.withMarks x).stager = s.stager := by cases s; rfl
@[simp] theorem withMarks_mir : (s.withMarks x).mir = s.mir := by cases s; rfl
@[simp] theorem withMarks_ref : (s.withMarks x).ref = s.ref := by cases s; rfl
@[simp] theorem withMarks_tbs : (s.withMarks x).tbs = s.tbs := by cases s; rfl
@[simp] theorem withMarks_ptps : (s.withMarks x).ptps = s.ptps := by cases s; rfl
@[simp] theorem withMarks_pulses : (s.withMarks x).pulses = s.pulses := by cases s; rfl
@[simp] theorem withMarks_capts : (s.withMarks x).capts = s.capts := by cases s; rfl
@[simp] theorem withMarks_capLatch : (s.withMarks x).capLatch = s.capLatch := by cases s; rfl
@[simp] theorem withMarks_fab : (s.withMarks x).fab = s.fab := by cases s; rfl
@[simp] theorem withMarks_chains : (s.withMarks x).chains = s.chains := by cases s; rfl
@[simp] theorem withMarks_fb : (s.withMarks x).fb = s.fb := by cases s; rfl
@[simp] theorem withMarks_sec : (s.withMarks x).sec = s.sec := by cases s; rfl
@[simp] theorem withMarks_boot : (s.withMarks x).boot = s.boot := by cases s; rfl
@[simp] theorem withMarks_mch : (s.withMarks x).mch = s.mch := by cases s; rfl
@[simp] theorem withMarks_mf : (s.withMarks x).mf = s.mf := by cases s; rfl
end

section
variable (x : SMap MemGroup) (s : State)
@[simp] theorem withGroups_pending : (s.withGroups x).pending = s.pending := by cases s; rfl
@[simp] theorem withGroups_free : (s.withGroups x).free = s.free := by cases s; rfl
@[simp] theorem withGroups_tim : (s.withGroups x).tim = s.tim := by cases s; rfl
@[simp] theorem withGroups_regs : (s.withGroups x).regs = s.regs := by cases s; rfl
@[simp] theorem withGroups_latch : (s.withGroups x).latch = s.latch := by cases s; rfl
@[simp] theorem withGroups_mem : (s.withGroups x).mem = s.mem := by cases s; rfl
@[simp] theorem withGroups_marks : (s.withGroups x).marks = s.marks := by cases s; rfl
@[simp] theorem withGroups_groups : (s.withGroups x).groups = x := by cases s; rfl
@[simp] theorem withGroups_nibs : (s.withGroups x).nibs = s.nibs := by cases s; rfl
@[simp] theorem withGroups_slate : (s.withGroups x).slate = s.slate := by cases s; rfl
@[simp] theorem withGroups_rul : (s.withGroups x).rul = s.rul := by cases s; rfl
@[simp] theorem withGroups_inkPrev : (s.withGroups x).inkPrev = s.inkPrev := by cases s; rfl
@[simp] theorem withGroups_brus : (s.withGroups x).brus = s.brus := by cases s; rfl
@[simp] theorem withGroups_bruLive : (s.withGroups x).bruLive = s.bruLive := by cases s; rfl
@[simp] theorem withGroups_doms : (s.withGroups x).doms = s.doms := by cases s; rfl
@[simp] theorem withGroups_saps : (s.withGroups x).saps = s.saps := by cases s; rfl
@[simp] theorem withGroups_sapHeld : (s.withGroups x).sapHeld = s.sapHeld := by cases s; rfl
@[simp] theorem withGroups_sapRemap : (s.withGroups x).sapRemap = s.sapRemap := by cases s; rfl
@[simp] theorem withGroups_sapMasks : (s.withGroups x).sapMasks = s.sapMasks := by cases s; rfl
@[simp] theorem withGroups_lanes : (s.withGroups x).lanes = s.lanes := by cases s; rfl
@[simp] theorem withGroups_senseBad : (s.withGroups x).senseBad = s.senseBad := by cases s; rfl
@[simp] theorem withGroups_auxBits : (s.withGroups x).auxBits = s.auxBits := by cases s; rfl
@[simp] theorem withGroups_net : (s.withGroups x).net = s.net := by cases s; rfl
@[simp] theorem withGroups_stager : (s.withGroups x).stager = s.stager := by cases s; rfl
@[simp] theorem withGroups_mir : (s.withGroups x).mir = s.mir := by cases s; rfl
@[simp] theorem withGroups_ref : (s.withGroups x).ref = s.ref := by cases s; rfl
@[simp] theorem withGroups_tbs : (s.withGroups x).tbs = s.tbs := by cases s; rfl
@[simp] theorem withGroups_ptps : (s.withGroups x).ptps = s.ptps := by cases s; rfl
@[simp] theorem withGroups_pulses : (s.withGroups x).pulses = s.pulses := by cases s; rfl
@[simp] theorem withGroups_capts : (s.withGroups x).capts = s.capts := by cases s; rfl
@[simp] theorem withGroups_capLatch : (s.withGroups x).capLatch = s.capLatch := by cases s; rfl
@[simp] theorem withGroups_fab : (s.withGroups x).fab = s.fab := by cases s; rfl
@[simp] theorem withGroups_chains : (s.withGroups x).chains = s.chains := by cases s; rfl
@[simp] theorem withGroups_fb : (s.withGroups x).fb = s.fb := by cases s; rfl
@[simp] theorem withGroups_sec : (s.withGroups x).sec = s.sec := by cases s; rfl
@[simp] theorem withGroups_boot : (s.withGroups x).boot = s.boot := by cases s; rfl
@[simp] theorem withGroups_mch : (s.withGroups x).mch = s.mch := by cases s; rfl
@[simp] theorem withGroups_mf : (s.withGroups x).mf = s.mf := by cases s; rfl
end

section
variable (x : SMap Nib) (s : State)
@[simp] theorem withNibs_pending : (s.withNibs x).pending = s.pending := by cases s; rfl
@[simp] theorem withNibs_free : (s.withNibs x).free = s.free := by cases s; rfl
@[simp] theorem withNibs_tim : (s.withNibs x).tim = s.tim := by cases s; rfl
@[simp] theorem withNibs_regs : (s.withNibs x).regs = s.regs := by cases s; rfl
@[simp] theorem withNibs_latch : (s.withNibs x).latch = s.latch := by cases s; rfl
@[simp] theorem withNibs_mem : (s.withNibs x).mem = s.mem := by cases s; rfl
@[simp] theorem withNibs_marks : (s.withNibs x).marks = s.marks := by cases s; rfl
@[simp] theorem withNibs_groups : (s.withNibs x).groups = s.groups := by cases s; rfl
@[simp] theorem withNibs_nibs : (s.withNibs x).nibs = x := by cases s; rfl
@[simp] theorem withNibs_slate : (s.withNibs x).slate = s.slate := by cases s; rfl
@[simp] theorem withNibs_rul : (s.withNibs x).rul = s.rul := by cases s; rfl
@[simp] theorem withNibs_inkPrev : (s.withNibs x).inkPrev = s.inkPrev := by cases s; rfl
@[simp] theorem withNibs_brus : (s.withNibs x).brus = s.brus := by cases s; rfl
@[simp] theorem withNibs_bruLive : (s.withNibs x).bruLive = s.bruLive := by cases s; rfl
@[simp] theorem withNibs_doms : (s.withNibs x).doms = s.doms := by cases s; rfl
@[simp] theorem withNibs_saps : (s.withNibs x).saps = s.saps := by cases s; rfl
@[simp] theorem withNibs_sapHeld : (s.withNibs x).sapHeld = s.sapHeld := by cases s; rfl
@[simp] theorem withNibs_sapRemap : (s.withNibs x).sapRemap = s.sapRemap := by cases s; rfl
@[simp] theorem withNibs_sapMasks : (s.withNibs x).sapMasks = s.sapMasks := by cases s; rfl
@[simp] theorem withNibs_lanes : (s.withNibs x).lanes = s.lanes := by cases s; rfl
@[simp] theorem withNibs_senseBad : (s.withNibs x).senseBad = s.senseBad := by cases s; rfl
@[simp] theorem withNibs_auxBits : (s.withNibs x).auxBits = s.auxBits := by cases s; rfl
@[simp] theorem withNibs_net : (s.withNibs x).net = s.net := by cases s; rfl
@[simp] theorem withNibs_stager : (s.withNibs x).stager = s.stager := by cases s; rfl
@[simp] theorem withNibs_mir : (s.withNibs x).mir = s.mir := by cases s; rfl
@[simp] theorem withNibs_ref : (s.withNibs x).ref = s.ref := by cases s; rfl
@[simp] theorem withNibs_tbs : (s.withNibs x).tbs = s.tbs := by cases s; rfl
@[simp] theorem withNibs_ptps : (s.withNibs x).ptps = s.ptps := by cases s; rfl
@[simp] theorem withNibs_pulses : (s.withNibs x).pulses = s.pulses := by cases s; rfl
@[simp] theorem withNibs_capts : (s.withNibs x).capts = s.capts := by cases s; rfl
@[simp] theorem withNibs_capLatch : (s.withNibs x).capLatch = s.capLatch := by cases s; rfl
@[simp] theorem withNibs_fab : (s.withNibs x).fab = s.fab := by cases s; rfl
@[simp] theorem withNibs_chains : (s.withNibs x).chains = s.chains := by cases s; rfl
@[simp] theorem withNibs_fb : (s.withNibs x).fb = s.fb := by cases s; rfl
@[simp] theorem withNibs_sec : (s.withNibs x).sec = s.sec := by cases s; rfl
@[simp] theorem withNibs_boot : (s.withNibs x).boot = s.boot := by cases s; rfl
@[simp] theorem withNibs_mch : (s.withNibs x).mch = s.mch := by cases s; rfl
@[simp] theorem withNibs_mf : (s.withNibs x).mf = s.mf := by cases s; rfl
end

section
variable (x : SMap SlotCopy) (s : State)
@[simp] theorem withSlate_pending : (s.withSlate x).pending = s.pending := by cases s; rfl
@[simp] theorem withSlate_free : (s.withSlate x).free = s.free := by cases s; rfl
@[simp] theorem withSlate_tim : (s.withSlate x).tim = s.tim := by cases s; rfl
@[simp] theorem withSlate_regs : (s.withSlate x).regs = s.regs := by cases s; rfl
@[simp] theorem withSlate_latch : (s.withSlate x).latch = s.latch := by cases s; rfl
@[simp] theorem withSlate_mem : (s.withSlate x).mem = s.mem := by cases s; rfl
@[simp] theorem withSlate_marks : (s.withSlate x).marks = s.marks := by cases s; rfl
@[simp] theorem withSlate_groups : (s.withSlate x).groups = s.groups := by cases s; rfl
@[simp] theorem withSlate_nibs : (s.withSlate x).nibs = s.nibs := by cases s; rfl
@[simp] theorem withSlate_slate : (s.withSlate x).slate = x := by cases s; rfl
@[simp] theorem withSlate_rul : (s.withSlate x).rul = s.rul := by cases s; rfl
@[simp] theorem withSlate_inkPrev : (s.withSlate x).inkPrev = s.inkPrev := by cases s; rfl
@[simp] theorem withSlate_brus : (s.withSlate x).brus = s.brus := by cases s; rfl
@[simp] theorem withSlate_bruLive : (s.withSlate x).bruLive = s.bruLive := by cases s; rfl
@[simp] theorem withSlate_doms : (s.withSlate x).doms = s.doms := by cases s; rfl
@[simp] theorem withSlate_saps : (s.withSlate x).saps = s.saps := by cases s; rfl
@[simp] theorem withSlate_sapHeld : (s.withSlate x).sapHeld = s.sapHeld := by cases s; rfl
@[simp] theorem withSlate_sapRemap : (s.withSlate x).sapRemap = s.sapRemap := by cases s; rfl
@[simp] theorem withSlate_sapMasks : (s.withSlate x).sapMasks = s.sapMasks := by cases s; rfl
@[simp] theorem withSlate_lanes : (s.withSlate x).lanes = s.lanes := by cases s; rfl
@[simp] theorem withSlate_senseBad : (s.withSlate x).senseBad = s.senseBad := by cases s; rfl
@[simp] theorem withSlate_auxBits : (s.withSlate x).auxBits = s.auxBits := by cases s; rfl
@[simp] theorem withSlate_net : (s.withSlate x).net = s.net := by cases s; rfl
@[simp] theorem withSlate_stager : (s.withSlate x).stager = s.stager := by cases s; rfl
@[simp] theorem withSlate_mir : (s.withSlate x).mir = s.mir := by cases s; rfl
@[simp] theorem withSlate_ref : (s.withSlate x).ref = s.ref := by cases s; rfl
@[simp] theorem withSlate_tbs : (s.withSlate x).tbs = s.tbs := by cases s; rfl
@[simp] theorem withSlate_ptps : (s.withSlate x).ptps = s.ptps := by cases s; rfl
@[simp] theorem withSlate_pulses : (s.withSlate x).pulses = s.pulses := by cases s; rfl
@[simp] theorem withSlate_capts : (s.withSlate x).capts = s.capts := by cases s; rfl
@[simp] theorem withSlate_capLatch : (s.withSlate x).capLatch = s.capLatch := by cases s; rfl
@[simp] theorem withSlate_fab : (s.withSlate x).fab = s.fab := by cases s; rfl
@[simp] theorem withSlate_chains : (s.withSlate x).chains = s.chains := by cases s; rfl
@[simp] theorem withSlate_fb : (s.withSlate x).fb = s.fb := by cases s; rfl
@[simp] theorem withSlate_sec : (s.withSlate x).sec = s.sec := by cases s; rfl
@[simp] theorem withSlate_boot : (s.withSlate x).boot = s.boot := by cases s; rfl
@[simp] theorem withSlate_mch : (s.withSlate x).mch = s.mch := by cases s; rfl
@[simp] theorem withSlate_mf : (s.withSlate x).mf = s.mf := by cases s; rfl
end

section
variable (x : Rul) (s : State)
@[simp] theorem withRul_pending : (s.withRul x).pending = s.pending := by cases s; rfl
@[simp] theorem withRul_free : (s.withRul x).free = s.free := by cases s; rfl
@[simp] theorem withRul_tim : (s.withRul x).tim = s.tim := by cases s; rfl
@[simp] theorem withRul_regs : (s.withRul x).regs = s.regs := by cases s; rfl
@[simp] theorem withRul_latch : (s.withRul x).latch = s.latch := by cases s; rfl
@[simp] theorem withRul_mem : (s.withRul x).mem = s.mem := by cases s; rfl
@[simp] theorem withRul_marks : (s.withRul x).marks = s.marks := by cases s; rfl
@[simp] theorem withRul_groups : (s.withRul x).groups = s.groups := by cases s; rfl
@[simp] theorem withRul_nibs : (s.withRul x).nibs = s.nibs := by cases s; rfl
@[simp] theorem withRul_slate : (s.withRul x).slate = s.slate := by cases s; rfl
@[simp] theorem withRul_rul : (s.withRul x).rul = x := by cases s; rfl
@[simp] theorem withRul_inkPrev : (s.withRul x).inkPrev = s.inkPrev := by cases s; rfl
@[simp] theorem withRul_brus : (s.withRul x).brus = s.brus := by cases s; rfl
@[simp] theorem withRul_bruLive : (s.withRul x).bruLive = s.bruLive := by cases s; rfl
@[simp] theorem withRul_doms : (s.withRul x).doms = s.doms := by cases s; rfl
@[simp] theorem withRul_saps : (s.withRul x).saps = s.saps := by cases s; rfl
@[simp] theorem withRul_sapHeld : (s.withRul x).sapHeld = s.sapHeld := by cases s; rfl
@[simp] theorem withRul_sapRemap : (s.withRul x).sapRemap = s.sapRemap := by cases s; rfl
@[simp] theorem withRul_sapMasks : (s.withRul x).sapMasks = s.sapMasks := by cases s; rfl
@[simp] theorem withRul_lanes : (s.withRul x).lanes = s.lanes := by cases s; rfl
@[simp] theorem withRul_senseBad : (s.withRul x).senseBad = s.senseBad := by cases s; rfl
@[simp] theorem withRul_auxBits : (s.withRul x).auxBits = s.auxBits := by cases s; rfl
@[simp] theorem withRul_net : (s.withRul x).net = s.net := by cases s; rfl
@[simp] theorem withRul_stager : (s.withRul x).stager = s.stager := by cases s; rfl
@[simp] theorem withRul_mir : (s.withRul x).mir = s.mir := by cases s; rfl
@[simp] theorem withRul_ref : (s.withRul x).ref = s.ref := by cases s; rfl
@[simp] theorem withRul_tbs : (s.withRul x).tbs = s.tbs := by cases s; rfl
@[simp] theorem withRul_ptps : (s.withRul x).ptps = s.ptps := by cases s; rfl
@[simp] theorem withRul_pulses : (s.withRul x).pulses = s.pulses := by cases s; rfl
@[simp] theorem withRul_capts : (s.withRul x).capts = s.capts := by cases s; rfl
@[simp] theorem withRul_capLatch : (s.withRul x).capLatch = s.capLatch := by cases s; rfl
@[simp] theorem withRul_fab : (s.withRul x).fab = s.fab := by cases s; rfl
@[simp] theorem withRul_chains : (s.withRul x).chains = s.chains := by cases s; rfl
@[simp] theorem withRul_fb : (s.withRul x).fb = s.fb := by cases s; rfl
@[simp] theorem withRul_sec : (s.withRul x).sec = s.sec := by cases s; rfl
@[simp] theorem withRul_boot : (s.withRul x).boot = s.boot := by cases s; rfl
@[simp] theorem withRul_mch : (s.withRul x).mch = s.mch := by cases s; rfl
@[simp] theorem withRul_mf : (s.withRul x).mf = s.mf := by cases s; rfl
end

section
variable (x : SMap Word) (s : State)
@[simp] theorem withInkPrev_pending : (s.withInkPrev x).pending = s.pending := by cases s; rfl
@[simp] theorem withInkPrev_free : (s.withInkPrev x).free = s.free := by cases s; rfl
@[simp] theorem withInkPrev_tim : (s.withInkPrev x).tim = s.tim := by cases s; rfl
@[simp] theorem withInkPrev_regs : (s.withInkPrev x).regs = s.regs := by cases s; rfl
@[simp] theorem withInkPrev_latch : (s.withInkPrev x).latch = s.latch := by cases s; rfl
@[simp] theorem withInkPrev_mem : (s.withInkPrev x).mem = s.mem := by cases s; rfl
@[simp] theorem withInkPrev_marks : (s.withInkPrev x).marks = s.marks := by cases s; rfl
@[simp] theorem withInkPrev_groups : (s.withInkPrev x).groups = s.groups := by cases s; rfl
@[simp] theorem withInkPrev_nibs : (s.withInkPrev x).nibs = s.nibs := by cases s; rfl
@[simp] theorem withInkPrev_slate : (s.withInkPrev x).slate = s.slate := by cases s; rfl
@[simp] theorem withInkPrev_rul : (s.withInkPrev x).rul = s.rul := by cases s; rfl
@[simp] theorem withInkPrev_inkPrev : (s.withInkPrev x).inkPrev = x := by cases s; rfl
@[simp] theorem withInkPrev_brus : (s.withInkPrev x).brus = s.brus := by cases s; rfl
@[simp] theorem withInkPrev_bruLive : (s.withInkPrev x).bruLive = s.bruLive := by cases s; rfl
@[simp] theorem withInkPrev_doms : (s.withInkPrev x).doms = s.doms := by cases s; rfl
@[simp] theorem withInkPrev_saps : (s.withInkPrev x).saps = s.saps := by cases s; rfl
@[simp] theorem withInkPrev_sapHeld : (s.withInkPrev x).sapHeld = s.sapHeld := by cases s; rfl
@[simp] theorem withInkPrev_sapRemap : (s.withInkPrev x).sapRemap = s.sapRemap := by cases s; rfl
@[simp] theorem withInkPrev_sapMasks : (s.withInkPrev x).sapMasks = s.sapMasks := by cases s; rfl
@[simp] theorem withInkPrev_lanes : (s.withInkPrev x).lanes = s.lanes := by cases s; rfl
@[simp] theorem withInkPrev_senseBad : (s.withInkPrev x).senseBad = s.senseBad := by cases s; rfl
@[simp] theorem withInkPrev_auxBits : (s.withInkPrev x).auxBits = s.auxBits := by cases s; rfl
@[simp] theorem withInkPrev_net : (s.withInkPrev x).net = s.net := by cases s; rfl
@[simp] theorem withInkPrev_stager : (s.withInkPrev x).stager = s.stager := by cases s; rfl
@[simp] theorem withInkPrev_mir : (s.withInkPrev x).mir = s.mir := by cases s; rfl
@[simp] theorem withInkPrev_ref : (s.withInkPrev x).ref = s.ref := by cases s; rfl
@[simp] theorem withInkPrev_tbs : (s.withInkPrev x).tbs = s.tbs := by cases s; rfl
@[simp] theorem withInkPrev_ptps : (s.withInkPrev x).ptps = s.ptps := by cases s; rfl
@[simp] theorem withInkPrev_pulses : (s.withInkPrev x).pulses = s.pulses := by cases s; rfl
@[simp] theorem withInkPrev_capts : (s.withInkPrev x).capts = s.capts := by cases s; rfl
@[simp] theorem withInkPrev_capLatch : (s.withInkPrev x).capLatch = s.capLatch := by cases s; rfl
@[simp] theorem withInkPrev_fab : (s.withInkPrev x).fab = s.fab := by cases s; rfl
@[simp] theorem withInkPrev_chains : (s.withInkPrev x).chains = s.chains := by cases s; rfl
@[simp] theorem withInkPrev_fb : (s.withInkPrev x).fb = s.fb := by cases s; rfl
@[simp] theorem withInkPrev_sec : (s.withInkPrev x).sec = s.sec := by cases s; rfl
@[simp] theorem withInkPrev_boot : (s.withInkPrev x).boot = s.boot := by cases s; rfl
@[simp] theorem withInkPrev_mch : (s.withInkPrev x).mch = s.mch := by cases s; rfl
@[simp] theorem withInkPrev_mf : (s.withInkPrev x).mf = s.mf := by cases s; rfl
end

section
variable (x : SMap Bru) (s : State)
@[simp] theorem withBrus_pending : (s.withBrus x).pending = s.pending := by cases s; rfl
@[simp] theorem withBrus_free : (s.withBrus x).free = s.free := by cases s; rfl
@[simp] theorem withBrus_tim : (s.withBrus x).tim = s.tim := by cases s; rfl
@[simp] theorem withBrus_regs : (s.withBrus x).regs = s.regs := by cases s; rfl
@[simp] theorem withBrus_latch : (s.withBrus x).latch = s.latch := by cases s; rfl
@[simp] theorem withBrus_mem : (s.withBrus x).mem = s.mem := by cases s; rfl
@[simp] theorem withBrus_marks : (s.withBrus x).marks = s.marks := by cases s; rfl
@[simp] theorem withBrus_groups : (s.withBrus x).groups = s.groups := by cases s; rfl
@[simp] theorem withBrus_nibs : (s.withBrus x).nibs = s.nibs := by cases s; rfl
@[simp] theorem withBrus_slate : (s.withBrus x).slate = s.slate := by cases s; rfl
@[simp] theorem withBrus_rul : (s.withBrus x).rul = s.rul := by cases s; rfl
@[simp] theorem withBrus_inkPrev : (s.withBrus x).inkPrev = s.inkPrev := by cases s; rfl
@[simp] theorem withBrus_brus : (s.withBrus x).brus = x := by cases s; rfl
@[simp] theorem withBrus_bruLive : (s.withBrus x).bruLive = s.bruLive := by cases s; rfl
@[simp] theorem withBrus_doms : (s.withBrus x).doms = s.doms := by cases s; rfl
@[simp] theorem withBrus_saps : (s.withBrus x).saps = s.saps := by cases s; rfl
@[simp] theorem withBrus_sapHeld : (s.withBrus x).sapHeld = s.sapHeld := by cases s; rfl
@[simp] theorem withBrus_sapRemap : (s.withBrus x).sapRemap = s.sapRemap := by cases s; rfl
@[simp] theorem withBrus_sapMasks : (s.withBrus x).sapMasks = s.sapMasks := by cases s; rfl
@[simp] theorem withBrus_lanes : (s.withBrus x).lanes = s.lanes := by cases s; rfl
@[simp] theorem withBrus_senseBad : (s.withBrus x).senseBad = s.senseBad := by cases s; rfl
@[simp] theorem withBrus_auxBits : (s.withBrus x).auxBits = s.auxBits := by cases s; rfl
@[simp] theorem withBrus_net : (s.withBrus x).net = s.net := by cases s; rfl
@[simp] theorem withBrus_stager : (s.withBrus x).stager = s.stager := by cases s; rfl
@[simp] theorem withBrus_mir : (s.withBrus x).mir = s.mir := by cases s; rfl
@[simp] theorem withBrus_ref : (s.withBrus x).ref = s.ref := by cases s; rfl
@[simp] theorem withBrus_tbs : (s.withBrus x).tbs = s.tbs := by cases s; rfl
@[simp] theorem withBrus_ptps : (s.withBrus x).ptps = s.ptps := by cases s; rfl
@[simp] theorem withBrus_pulses : (s.withBrus x).pulses = s.pulses := by cases s; rfl
@[simp] theorem withBrus_capts : (s.withBrus x).capts = s.capts := by cases s; rfl
@[simp] theorem withBrus_capLatch : (s.withBrus x).capLatch = s.capLatch := by cases s; rfl
@[simp] theorem withBrus_fab : (s.withBrus x).fab = s.fab := by cases s; rfl
@[simp] theorem withBrus_chains : (s.withBrus x).chains = s.chains := by cases s; rfl
@[simp] theorem withBrus_fb : (s.withBrus x).fb = s.fb := by cases s; rfl
@[simp] theorem withBrus_sec : (s.withBrus x).sec = s.sec := by cases s; rfl
@[simp] theorem withBrus_boot : (s.withBrus x).boot = s.boot := by cases s; rfl
@[simp] theorem withBrus_mch : (s.withBrus x).mch = s.mch := by cases s; rfl
@[simp] theorem withBrus_mf : (s.withBrus x).mf = s.mf := by cases s; rfl
end

section
variable (x : List Nat) (s : State)
@[simp] theorem withBruLive_pending : (s.withBruLive x).pending = s.pending := by cases s; rfl
@[simp] theorem withBruLive_free : (s.withBruLive x).free = s.free := by cases s; rfl
@[simp] theorem withBruLive_tim : (s.withBruLive x).tim = s.tim := by cases s; rfl
@[simp] theorem withBruLive_regs : (s.withBruLive x).regs = s.regs := by cases s; rfl
@[simp] theorem withBruLive_latch : (s.withBruLive x).latch = s.latch := by cases s; rfl
@[simp] theorem withBruLive_mem : (s.withBruLive x).mem = s.mem := by cases s; rfl
@[simp] theorem withBruLive_marks : (s.withBruLive x).marks = s.marks := by cases s; rfl
@[simp] theorem withBruLive_groups : (s.withBruLive x).groups = s.groups := by cases s; rfl
@[simp] theorem withBruLive_nibs : (s.withBruLive x).nibs = s.nibs := by cases s; rfl
@[simp] theorem withBruLive_slate : (s.withBruLive x).slate = s.slate := by cases s; rfl
@[simp] theorem withBruLive_rul : (s.withBruLive x).rul = s.rul := by cases s; rfl
@[simp] theorem withBruLive_inkPrev : (s.withBruLive x).inkPrev = s.inkPrev := by cases s; rfl
@[simp] theorem withBruLive_brus : (s.withBruLive x).brus = s.brus := by cases s; rfl
@[simp] theorem withBruLive_bruLive : (s.withBruLive x).bruLive = x := by cases s; rfl
@[simp] theorem withBruLive_doms : (s.withBruLive x).doms = s.doms := by cases s; rfl
@[simp] theorem withBruLive_saps : (s.withBruLive x).saps = s.saps := by cases s; rfl
@[simp] theorem withBruLive_sapHeld : (s.withBruLive x).sapHeld = s.sapHeld := by cases s; rfl
@[simp] theorem withBruLive_sapRemap : (s.withBruLive x).sapRemap = s.sapRemap := by cases s; rfl
@[simp] theorem withBruLive_sapMasks : (s.withBruLive x).sapMasks = s.sapMasks := by cases s; rfl
@[simp] theorem withBruLive_lanes : (s.withBruLive x).lanes = s.lanes := by cases s; rfl
@[simp] theorem withBruLive_senseBad : (s.withBruLive x).senseBad = s.senseBad := by cases s; rfl
@[simp] theorem withBruLive_auxBits : (s.withBruLive x).auxBits = s.auxBits := by cases s; rfl
@[simp] theorem withBruLive_net : (s.withBruLive x).net = s.net := by cases s; rfl
@[simp] theorem withBruLive_stager : (s.withBruLive x).stager = s.stager := by cases s; rfl
@[simp] theorem withBruLive_mir : (s.withBruLive x).mir = s.mir := by cases s; rfl
@[simp] theorem withBruLive_ref : (s.withBruLive x).ref = s.ref := by cases s; rfl
@[simp] theorem withBruLive_tbs : (s.withBruLive x).tbs = s.tbs := by cases s; rfl
@[simp] theorem withBruLive_ptps : (s.withBruLive x).ptps = s.ptps := by cases s; rfl
@[simp] theorem withBruLive_pulses : (s.withBruLive x).pulses = s.pulses := by cases s; rfl
@[simp] theorem withBruLive_capts : (s.withBruLive x).capts = s.capts := by cases s; rfl
@[simp] theorem withBruLive_capLatch : (s.withBruLive x).capLatch = s.capLatch := by cases s; rfl
@[simp] theorem withBruLive_fab : (s.withBruLive x).fab = s.fab := by cases s; rfl
@[simp] theorem withBruLive_chains : (s.withBruLive x).chains = s.chains := by cases s; rfl
@[simp] theorem withBruLive_fb : (s.withBruLive x).fb = s.fb := by cases s; rfl
@[simp] theorem withBruLive_sec : (s.withBruLive x).sec = s.sec := by cases s; rfl
@[simp] theorem withBruLive_boot : (s.withBruLive x).boot = s.boot := by cases s; rfl
@[simp] theorem withBruLive_mch : (s.withBruLive x).mch = s.mch := by cases s; rfl
@[simp] theorem withBruLive_mf : (s.withBruLive x).mf = s.mf := by cases s; rfl
end

section
variable (x : SMap Dom) (s : State)
@[simp] theorem withDoms_pending : (s.withDoms x).pending = s.pending := by cases s; rfl
@[simp] theorem withDoms_free : (s.withDoms x).free = s.free := by cases s; rfl
@[simp] theorem withDoms_tim : (s.withDoms x).tim = s.tim := by cases s; rfl
@[simp] theorem withDoms_regs : (s.withDoms x).regs = s.regs := by cases s; rfl
@[simp] theorem withDoms_latch : (s.withDoms x).latch = s.latch := by cases s; rfl
@[simp] theorem withDoms_mem : (s.withDoms x).mem = s.mem := by cases s; rfl
@[simp] theorem withDoms_marks : (s.withDoms x).marks = s.marks := by cases s; rfl
@[simp] theorem withDoms_groups : (s.withDoms x).groups = s.groups := by cases s; rfl
@[simp] theorem withDoms_nibs : (s.withDoms x).nibs = s.nibs := by cases s; rfl
@[simp] theorem withDoms_slate : (s.withDoms x).slate = s.slate := by cases s; rfl
@[simp] theorem withDoms_rul : (s.withDoms x).rul = s.rul := by cases s; rfl
@[simp] theorem withDoms_inkPrev : (s.withDoms x).inkPrev = s.inkPrev := by cases s; rfl
@[simp] theorem withDoms_brus : (s.withDoms x).brus = s.brus := by cases s; rfl
@[simp] theorem withDoms_bruLive : (s.withDoms x).bruLive = s.bruLive := by cases s; rfl
@[simp] theorem withDoms_doms : (s.withDoms x).doms = x := by cases s; rfl
@[simp] theorem withDoms_saps : (s.withDoms x).saps = s.saps := by cases s; rfl
@[simp] theorem withDoms_sapHeld : (s.withDoms x).sapHeld = s.sapHeld := by cases s; rfl
@[simp] theorem withDoms_sapRemap : (s.withDoms x).sapRemap = s.sapRemap := by cases s; rfl
@[simp] theorem withDoms_sapMasks : (s.withDoms x).sapMasks = s.sapMasks := by cases s; rfl
@[simp] theorem withDoms_lanes : (s.withDoms x).lanes = s.lanes := by cases s; rfl
@[simp] theorem withDoms_senseBad : (s.withDoms x).senseBad = s.senseBad := by cases s; rfl
@[simp] theorem withDoms_auxBits : (s.withDoms x).auxBits = s.auxBits := by cases s; rfl
@[simp] theorem withDoms_net : (s.withDoms x).net = s.net := by cases s; rfl
@[simp] theorem withDoms_stager : (s.withDoms x).stager = s.stager := by cases s; rfl
@[simp] theorem withDoms_mir : (s.withDoms x).mir = s.mir := by cases s; rfl
@[simp] theorem withDoms_ref : (s.withDoms x).ref = s.ref := by cases s; rfl
@[simp] theorem withDoms_tbs : (s.withDoms x).tbs = s.tbs := by cases s; rfl
@[simp] theorem withDoms_ptps : (s.withDoms x).ptps = s.ptps := by cases s; rfl
@[simp] theorem withDoms_pulses : (s.withDoms x).pulses = s.pulses := by cases s; rfl
@[simp] theorem withDoms_capts : (s.withDoms x).capts = s.capts := by cases s; rfl
@[simp] theorem withDoms_capLatch : (s.withDoms x).capLatch = s.capLatch := by cases s; rfl
@[simp] theorem withDoms_fab : (s.withDoms x).fab = s.fab := by cases s; rfl
@[simp] theorem withDoms_chains : (s.withDoms x).chains = s.chains := by cases s; rfl
@[simp] theorem withDoms_fb : (s.withDoms x).fb = s.fb := by cases s; rfl
@[simp] theorem withDoms_sec : (s.withDoms x).sec = s.sec := by cases s; rfl
@[simp] theorem withDoms_boot : (s.withDoms x).boot = s.boot := by cases s; rfl
@[simp] theorem withDoms_mch : (s.withDoms x).mch = s.mch := by cases s; rfl
@[simp] theorem withDoms_mf : (s.withDoms x).mf = s.mf := by cases s; rfl
end

section
variable (x : SMap Sap) (s : State)
@[simp] theorem withSaps_pending : (s.withSaps x).pending = s.pending := by cases s; rfl
@[simp] theorem withSaps_free : (s.withSaps x).free = s.free := by cases s; rfl
@[simp] theorem withSaps_tim : (s.withSaps x).tim = s.tim := by cases s; rfl
@[simp] theorem withSaps_regs : (s.withSaps x).regs = s.regs := by cases s; rfl
@[simp] theorem withSaps_latch : (s.withSaps x).latch = s.latch := by cases s; rfl
@[simp] theorem withSaps_mem : (s.withSaps x).mem = s.mem := by cases s; rfl
@[simp] theorem withSaps_marks : (s.withSaps x).marks = s.marks := by cases s; rfl
@[simp] theorem withSaps_groups : (s.withSaps x).groups = s.groups := by cases s; rfl
@[simp] theorem withSaps_nibs : (s.withSaps x).nibs = s.nibs := by cases s; rfl
@[simp] theorem withSaps_slate : (s.withSaps x).slate = s.slate := by cases s; rfl
@[simp] theorem withSaps_rul : (s.withSaps x).rul = s.rul := by cases s; rfl
@[simp] theorem withSaps_inkPrev : (s.withSaps x).inkPrev = s.inkPrev := by cases s; rfl
@[simp] theorem withSaps_brus : (s.withSaps x).brus = s.brus := by cases s; rfl
@[simp] theorem withSaps_bruLive : (s.withSaps x).bruLive = s.bruLive := by cases s; rfl
@[simp] theorem withSaps_doms : (s.withSaps x).doms = s.doms := by cases s; rfl
@[simp] theorem withSaps_saps : (s.withSaps x).saps = x := by cases s; rfl
@[simp] theorem withSaps_sapHeld : (s.withSaps x).sapHeld = s.sapHeld := by cases s; rfl
@[simp] theorem withSaps_sapRemap : (s.withSaps x).sapRemap = s.sapRemap := by cases s; rfl
@[simp] theorem withSaps_sapMasks : (s.withSaps x).sapMasks = s.sapMasks := by cases s; rfl
@[simp] theorem withSaps_lanes : (s.withSaps x).lanes = s.lanes := by cases s; rfl
@[simp] theorem withSaps_senseBad : (s.withSaps x).senseBad = s.senseBad := by cases s; rfl
@[simp] theorem withSaps_auxBits : (s.withSaps x).auxBits = s.auxBits := by cases s; rfl
@[simp] theorem withSaps_net : (s.withSaps x).net = s.net := by cases s; rfl
@[simp] theorem withSaps_stager : (s.withSaps x).stager = s.stager := by cases s; rfl
@[simp] theorem withSaps_mir : (s.withSaps x).mir = s.mir := by cases s; rfl
@[simp] theorem withSaps_ref : (s.withSaps x).ref = s.ref := by cases s; rfl
@[simp] theorem withSaps_tbs : (s.withSaps x).tbs = s.tbs := by cases s; rfl
@[simp] theorem withSaps_ptps : (s.withSaps x).ptps = s.ptps := by cases s; rfl
@[simp] theorem withSaps_pulses : (s.withSaps x).pulses = s.pulses := by cases s; rfl
@[simp] theorem withSaps_capts : (s.withSaps x).capts = s.capts := by cases s; rfl
@[simp] theorem withSaps_capLatch : (s.withSaps x).capLatch = s.capLatch := by cases s; rfl
@[simp] theorem withSaps_fab : (s.withSaps x).fab = s.fab := by cases s; rfl
@[simp] theorem withSaps_chains : (s.withSaps x).chains = s.chains := by cases s; rfl
@[simp] theorem withSaps_fb : (s.withSaps x).fb = s.fb := by cases s; rfl
@[simp] theorem withSaps_sec : (s.withSaps x).sec = s.sec := by cases s; rfl
@[simp] theorem withSaps_boot : (s.withSaps x).boot = s.boot := by cases s; rfl
@[simp] theorem withSaps_mch : (s.withSaps x).mch = s.mch := by cases s; rfl
@[simp] theorem withSaps_mf : (s.withSaps x).mf = s.mf := by cases s; rfl
end

section
variable (x : List Nat) (s : State)
@[simp] theorem withSapHeld_pending : (s.withSapHeld x).pending = s.pending := by cases s; rfl
@[simp] theorem withSapHeld_free : (s.withSapHeld x).free = s.free := by cases s; rfl
@[simp] theorem withSapHeld_tim : (s.withSapHeld x).tim = s.tim := by cases s; rfl
@[simp] theorem withSapHeld_regs : (s.withSapHeld x).regs = s.regs := by cases s; rfl
@[simp] theorem withSapHeld_latch : (s.withSapHeld x).latch = s.latch := by cases s; rfl
@[simp] theorem withSapHeld_mem : (s.withSapHeld x).mem = s.mem := by cases s; rfl
@[simp] theorem withSapHeld_marks : (s.withSapHeld x).marks = s.marks := by cases s; rfl
@[simp] theorem withSapHeld_groups : (s.withSapHeld x).groups = s.groups := by cases s; rfl
@[simp] theorem withSapHeld_nibs : (s.withSapHeld x).nibs = s.nibs := by cases s; rfl
@[simp] theorem withSapHeld_slate : (s.withSapHeld x).slate = s.slate := by cases s; rfl
@[simp] theorem withSapHeld_rul : (s.withSapHeld x).rul = s.rul := by cases s; rfl
@[simp] theorem withSapHeld_inkPrev : (s.withSapHeld x).inkPrev = s.inkPrev := by cases s; rfl
@[simp] theorem withSapHeld_brus : (s.withSapHeld x).brus = s.brus := by cases s; rfl
@[simp] theorem withSapHeld_bruLive : (s.withSapHeld x).bruLive = s.bruLive := by cases s; rfl
@[simp] theorem withSapHeld_doms : (s.withSapHeld x).doms = s.doms := by cases s; rfl
@[simp] theorem withSapHeld_saps : (s.withSapHeld x).saps = s.saps := by cases s; rfl
@[simp] theorem withSapHeld_sapHeld : (s.withSapHeld x).sapHeld = x := by cases s; rfl
@[simp] theorem withSapHeld_sapRemap : (s.withSapHeld x).sapRemap = s.sapRemap := by cases s; rfl
@[simp] theorem withSapHeld_sapMasks : (s.withSapHeld x).sapMasks = s.sapMasks := by cases s; rfl
@[simp] theorem withSapHeld_lanes : (s.withSapHeld x).lanes = s.lanes := by cases s; rfl
@[simp] theorem withSapHeld_senseBad : (s.withSapHeld x).senseBad = s.senseBad := by cases s; rfl
@[simp] theorem withSapHeld_auxBits : (s.withSapHeld x).auxBits = s.auxBits := by cases s; rfl
@[simp] theorem withSapHeld_net : (s.withSapHeld x).net = s.net := by cases s; rfl
@[simp] theorem withSapHeld_stager : (s.withSapHeld x).stager = s.stager := by cases s; rfl
@[simp] theorem withSapHeld_mir : (s.withSapHeld x).mir = s.mir := by cases s; rfl
@[simp] theorem withSapHeld_ref : (s.withSapHeld x).ref = s.ref := by cases s; rfl
@[simp] theorem withSapHeld_tbs : (s.withSapHeld x).tbs = s.tbs := by cases s; rfl
@[simp] theorem withSapHeld_ptps : (s.withSapHeld x).ptps = s.ptps := by cases s; rfl
@[simp] theorem withSapHeld_pulses : (s.withSapHeld x).pulses = s.pulses := by cases s; rfl
@[simp] theorem withSapHeld_capts : (s.withSapHeld x).capts = s.capts := by cases s; rfl
@[simp] theorem withSapHeld_capLatch : (s.withSapHeld x).capLatch = s.capLatch := by cases s; rfl
@[simp] theorem withSapHeld_fab : (s.withSapHeld x).fab = s.fab := by cases s; rfl
@[simp] theorem withSapHeld_chains : (s.withSapHeld x).chains = s.chains := by cases s; rfl
@[simp] theorem withSapHeld_fb : (s.withSapHeld x).fb = s.fb := by cases s; rfl
@[simp] theorem withSapHeld_sec : (s.withSapHeld x).sec = s.sec := by cases s; rfl
@[simp] theorem withSapHeld_boot : (s.withSapHeld x).boot = s.boot := by cases s; rfl
@[simp] theorem withSapHeld_mch : (s.withSapHeld x).mch = s.mch := by cases s; rfl
@[simp] theorem withSapHeld_mf : (s.withSapHeld x).mf = s.mf := by cases s; rfl
end

section
variable (x : Bool) (s : State)
@[simp] theorem withSapRemap_pending : (s.withSapRemap x).pending = s.pending := by cases s; rfl
@[simp] theorem withSapRemap_free : (s.withSapRemap x).free = s.free := by cases s; rfl
@[simp] theorem withSapRemap_tim : (s.withSapRemap x).tim = s.tim := by cases s; rfl
@[simp] theorem withSapRemap_regs : (s.withSapRemap x).regs = s.regs := by cases s; rfl
@[simp] theorem withSapRemap_latch : (s.withSapRemap x).latch = s.latch := by cases s; rfl
@[simp] theorem withSapRemap_mem : (s.withSapRemap x).mem = s.mem := by cases s; rfl
@[simp] theorem withSapRemap_marks : (s.withSapRemap x).marks = s.marks := by cases s; rfl
@[simp] theorem withSapRemap_groups : (s.withSapRemap x).groups = s.groups := by cases s; rfl
@[simp] theorem withSapRemap_nibs : (s.withSapRemap x).nibs = s.nibs := by cases s; rfl
@[simp] theorem withSapRemap_slate : (s.withSapRemap x).slate = s.slate := by cases s; rfl
@[simp] theorem withSapRemap_rul : (s.withSapRemap x).rul = s.rul := by cases s; rfl
@[simp] theorem withSapRemap_inkPrev : (s.withSapRemap x).inkPrev = s.inkPrev := by cases s; rfl
@[simp] theorem withSapRemap_brus : (s.withSapRemap x).brus = s.brus := by cases s; rfl
@[simp] theorem withSapRemap_bruLive : (s.withSapRemap x).bruLive = s.bruLive := by cases s; rfl
@[simp] theorem withSapRemap_doms : (s.withSapRemap x).doms = s.doms := by cases s; rfl
@[simp] theorem withSapRemap_saps : (s.withSapRemap x).saps = s.saps := by cases s; rfl
@[simp] theorem withSapRemap_sapHeld : (s.withSapRemap x).sapHeld = s.sapHeld := by cases s; rfl
@[simp] theorem withSapRemap_sapRemap : (s.withSapRemap x).sapRemap = x := by cases s; rfl
@[simp] theorem withSapRemap_sapMasks : (s.withSapRemap x).sapMasks = s.sapMasks := by cases s; rfl
@[simp] theorem withSapRemap_lanes : (s.withSapRemap x).lanes = s.lanes := by cases s; rfl
@[simp] theorem withSapRemap_senseBad : (s.withSapRemap x).senseBad = s.senseBad := by cases s; rfl
@[simp] theorem withSapRemap_auxBits : (s.withSapRemap x).auxBits = s.auxBits := by cases s; rfl
@[simp] theorem withSapRemap_net : (s.withSapRemap x).net = s.net := by cases s; rfl
@[simp] theorem withSapRemap_stager : (s.withSapRemap x).stager = s.stager := by cases s; rfl
@[simp] theorem withSapRemap_mir : (s.withSapRemap x).mir = s.mir := by cases s; rfl
@[simp] theorem withSapRemap_ref : (s.withSapRemap x).ref = s.ref := by cases s; rfl
@[simp] theorem withSapRemap_tbs : (s.withSapRemap x).tbs = s.tbs := by cases s; rfl
@[simp] theorem withSapRemap_ptps : (s.withSapRemap x).ptps = s.ptps := by cases s; rfl
@[simp] theorem withSapRemap_pulses : (s.withSapRemap x).pulses = s.pulses := by cases s; rfl
@[simp] theorem withSapRemap_capts : (s.withSapRemap x).capts = s.capts := by cases s; rfl
@[simp] theorem withSapRemap_capLatch : (s.withSapRemap x).capLatch = s.capLatch := by cases s; rfl
@[simp] theorem withSapRemap_fab : (s.withSapRemap x).fab = s.fab := by cases s; rfl
@[simp] theorem withSapRemap_chains : (s.withSapRemap x).chains = s.chains := by cases s; rfl
@[simp] theorem withSapRemap_fb : (s.withSapRemap x).fb = s.fb := by cases s; rfl
@[simp] theorem withSapRemap_sec : (s.withSapRemap x).sec = s.sec := by cases s; rfl
@[simp] theorem withSapRemap_boot : (s.withSapRemap x).boot = s.boot := by cases s; rfl
@[simp] theorem withSapRemap_mch : (s.withSapRemap x).mch = s.mch := by cases s; rfl
@[simp] theorem withSapRemap_mf : (s.withSapRemap x).mf = s.mf := by cases s; rfl
end

section
variable (x : SMap Word) (s : State)
@[simp] theorem withSapMasks_pending : (s.withSapMasks x).pending = s.pending := by cases s; rfl
@[simp] theorem withSapMasks_free : (s.withSapMasks x).free = s.free := by cases s; rfl
@[simp] theorem withSapMasks_tim : (s.withSapMasks x).tim = s.tim := by cases s; rfl
@[simp] theorem withSapMasks_regs : (s.withSapMasks x).regs = s.regs := by cases s; rfl
@[simp] theorem withSapMasks_latch : (s.withSapMasks x).latch = s.latch := by cases s; rfl
@[simp] theorem withSapMasks_mem : (s.withSapMasks x).mem = s.mem := by cases s; rfl
@[simp] theorem withSapMasks_marks : (s.withSapMasks x).marks = s.marks := by cases s; rfl
@[simp] theorem withSapMasks_groups : (s.withSapMasks x).groups = s.groups := by cases s; rfl
@[simp] theorem withSapMasks_nibs : (s.withSapMasks x).nibs = s.nibs := by cases s; rfl
@[simp] theorem withSapMasks_slate : (s.withSapMasks x).slate = s.slate := by cases s; rfl
@[simp] theorem withSapMasks_rul : (s.withSapMasks x).rul = s.rul := by cases s; rfl
@[simp] theorem withSapMasks_inkPrev : (s.withSapMasks x).inkPrev = s.inkPrev := by cases s; rfl
@[simp] theorem withSapMasks_brus : (s.withSapMasks x).brus = s.brus := by cases s; rfl
@[simp] theorem withSapMasks_bruLive : (s.withSapMasks x).bruLive = s.bruLive := by cases s; rfl
@[simp] theorem withSapMasks_doms : (s.withSapMasks x).doms = s.doms := by cases s; rfl
@[simp] theorem withSapMasks_saps : (s.withSapMasks x).saps = s.saps := by cases s; rfl
@[simp] theorem withSapMasks_sapHeld : (s.withSapMasks x).sapHeld = s.sapHeld := by cases s; rfl
@[simp] theorem withSapMasks_sapRemap : (s.withSapMasks x).sapRemap = s.sapRemap := by cases s; rfl
@[simp] theorem withSapMasks_sapMasks : (s.withSapMasks x).sapMasks = x := by cases s; rfl
@[simp] theorem withSapMasks_lanes : (s.withSapMasks x).lanes = s.lanes := by cases s; rfl
@[simp] theorem withSapMasks_senseBad : (s.withSapMasks x).senseBad = s.senseBad := by cases s; rfl
@[simp] theorem withSapMasks_auxBits : (s.withSapMasks x).auxBits = s.auxBits := by cases s; rfl
@[simp] theorem withSapMasks_net : (s.withSapMasks x).net = s.net := by cases s; rfl
@[simp] theorem withSapMasks_stager : (s.withSapMasks x).stager = s.stager := by cases s; rfl
@[simp] theorem withSapMasks_mir : (s.withSapMasks x).mir = s.mir := by cases s; rfl
@[simp] theorem withSapMasks_ref : (s.withSapMasks x).ref = s.ref := by cases s; rfl
@[simp] theorem withSapMasks_tbs : (s.withSapMasks x).tbs = s.tbs := by cases s; rfl
@[simp] theorem withSapMasks_ptps : (s.withSapMasks x).ptps = s.ptps := by cases s; rfl
@[simp] theorem withSapMasks_pulses : (s.withSapMasks x).pulses = s.pulses := by cases s; rfl
@[simp] theorem withSapMasks_capts : (s.withSapMasks x).capts = s.capts := by cases s; rfl
@[simp] theorem withSapMasks_capLatch : (s.withSapMasks x).capLatch = s.capLatch := by cases s; rfl
@[simp] theorem withSapMasks_fab : (s.withSapMasks x).fab = s.fab := by cases s; rfl
@[simp] theorem withSapMasks_chains : (s.withSapMasks x).chains = s.chains := by cases s; rfl
@[simp] theorem withSapMasks_fb : (s.withSapMasks x).fb = s.fb := by cases s; rfl
@[simp] theorem withSapMasks_sec : (s.withSapMasks x).sec = s.sec := by cases s; rfl
@[simp] theorem withSapMasks_boot : (s.withSapMasks x).boot = s.boot := by cases s; rfl
@[simp] theorem withSapMasks_mch : (s.withSapMasks x).mch = s.mch := by cases s; rfl
@[simp] theorem withSapMasks_mf : (s.withSapMasks x).mf = s.mf := by cases s; rfl
end

section
variable (x : SMap Lane) (s : State)
@[simp] theorem withLanes_pending : (s.withLanes x).pending = s.pending := by cases s; rfl
@[simp] theorem withLanes_free : (s.withLanes x).free = s.free := by cases s; rfl
@[simp] theorem withLanes_tim : (s.withLanes x).tim = s.tim := by cases s; rfl
@[simp] theorem withLanes_regs : (s.withLanes x).regs = s.regs := by cases s; rfl
@[simp] theorem withLanes_latch : (s.withLanes x).latch = s.latch := by cases s; rfl
@[simp] theorem withLanes_mem : (s.withLanes x).mem = s.mem := by cases s; rfl
@[simp] theorem withLanes_marks : (s.withLanes x).marks = s.marks := by cases s; rfl
@[simp] theorem withLanes_groups : (s.withLanes x).groups = s.groups := by cases s; rfl
@[simp] theorem withLanes_nibs : (s.withLanes x).nibs = s.nibs := by cases s; rfl
@[simp] theorem withLanes_slate : (s.withLanes x).slate = s.slate := by cases s; rfl
@[simp] theorem withLanes_rul : (s.withLanes x).rul = s.rul := by cases s; rfl
@[simp] theorem withLanes_inkPrev : (s.withLanes x).inkPrev = s.inkPrev := by cases s; rfl
@[simp] theorem withLanes_brus : (s.withLanes x).brus = s.brus := by cases s; rfl
@[simp] theorem withLanes_bruLive : (s.withLanes x).bruLive = s.bruLive := by cases s; rfl
@[simp] theorem withLanes_doms : (s.withLanes x).doms = s.doms := by cases s; rfl
@[simp] theorem withLanes_saps : (s.withLanes x).saps = s.saps := by cases s; rfl
@[simp] theorem withLanes_sapHeld : (s.withLanes x).sapHeld = s.sapHeld := by cases s; rfl
@[simp] theorem withLanes_sapRemap : (s.withLanes x).sapRemap = s.sapRemap := by cases s; rfl
@[simp] theorem withLanes_sapMasks : (s.withLanes x).sapMasks = s.sapMasks := by cases s; rfl
@[simp] theorem withLanes_lanes : (s.withLanes x).lanes = x := by cases s; rfl
@[simp] theorem withLanes_senseBad : (s.withLanes x).senseBad = s.senseBad := by cases s; rfl
@[simp] theorem withLanes_auxBits : (s.withLanes x).auxBits = s.auxBits := by cases s; rfl
@[simp] theorem withLanes_net : (s.withLanes x).net = s.net := by cases s; rfl
@[simp] theorem withLanes_stager : (s.withLanes x).stager = s.stager := by cases s; rfl
@[simp] theorem withLanes_mir : (s.withLanes x).mir = s.mir := by cases s; rfl
@[simp] theorem withLanes_ref : (s.withLanes x).ref = s.ref := by cases s; rfl
@[simp] theorem withLanes_tbs : (s.withLanes x).tbs = s.tbs := by cases s; rfl
@[simp] theorem withLanes_ptps : (s.withLanes x).ptps = s.ptps := by cases s; rfl
@[simp] theorem withLanes_pulses : (s.withLanes x).pulses = s.pulses := by cases s; rfl
@[simp] theorem withLanes_capts : (s.withLanes x).capts = s.capts := by cases s; rfl
@[simp] theorem withLanes_capLatch : (s.withLanes x).capLatch = s.capLatch := by cases s; rfl
@[simp] theorem withLanes_fab : (s.withLanes x).fab = s.fab := by cases s; rfl
@[simp] theorem withLanes_chains : (s.withLanes x).chains = s.chains := by cases s; rfl
@[simp] theorem withLanes_fb : (s.withLanes x).fb = s.fb := by cases s; rfl
@[simp] theorem withLanes_sec : (s.withLanes x).sec = s.sec := by cases s; rfl
@[simp] theorem withLanes_boot : (s.withLanes x).boot = s.boot := by cases s; rfl
@[simp] theorem withLanes_mch : (s.withLanes x).mch = s.mch := by cases s; rfl
@[simp] theorem withLanes_mf : (s.withLanes x).mf = s.mf := by cases s; rfl
end

section
variable (x : List Sense) (s : State)
@[simp] theorem withSenseBad_pending : (s.withSenseBad x).pending = s.pending := by cases s; rfl
@[simp] theorem withSenseBad_free : (s.withSenseBad x).free = s.free := by cases s; rfl
@[simp] theorem withSenseBad_tim : (s.withSenseBad x).tim = s.tim := by cases s; rfl
@[simp] theorem withSenseBad_regs : (s.withSenseBad x).regs = s.regs := by cases s; rfl
@[simp] theorem withSenseBad_latch : (s.withSenseBad x).latch = s.latch := by cases s; rfl
@[simp] theorem withSenseBad_mem : (s.withSenseBad x).mem = s.mem := by cases s; rfl
@[simp] theorem withSenseBad_marks : (s.withSenseBad x).marks = s.marks := by cases s; rfl
@[simp] theorem withSenseBad_groups : (s.withSenseBad x).groups = s.groups := by cases s; rfl
@[simp] theorem withSenseBad_nibs : (s.withSenseBad x).nibs = s.nibs := by cases s; rfl
@[simp] theorem withSenseBad_slate : (s.withSenseBad x).slate = s.slate := by cases s; rfl
@[simp] theorem withSenseBad_rul : (s.withSenseBad x).rul = s.rul := by cases s; rfl
@[simp] theorem withSenseBad_inkPrev : (s.withSenseBad x).inkPrev = s.inkPrev := by cases s; rfl
@[simp] theorem withSenseBad_brus : (s.withSenseBad x).brus = s.brus := by cases s; rfl
@[simp] theorem withSenseBad_bruLive : (s.withSenseBad x).bruLive = s.bruLive := by cases s; rfl
@[simp] theorem withSenseBad_doms : (s.withSenseBad x).doms = s.doms := by cases s; rfl
@[simp] theorem withSenseBad_saps : (s.withSenseBad x).saps = s.saps := by cases s; rfl
@[simp] theorem withSenseBad_sapHeld : (s.withSenseBad x).sapHeld = s.sapHeld := by cases s; rfl
@[simp] theorem withSenseBad_sapRemap : (s.withSenseBad x).sapRemap = s.sapRemap := by cases s; rfl
@[simp] theorem withSenseBad_sapMasks : (s.withSenseBad x).sapMasks = s.sapMasks := by cases s; rfl
@[simp] theorem withSenseBad_lanes : (s.withSenseBad x).lanes = s.lanes := by cases s; rfl
@[simp] theorem withSenseBad_senseBad : (s.withSenseBad x).senseBad = x := by cases s; rfl
@[simp] theorem withSenseBad_auxBits : (s.withSenseBad x).auxBits = s.auxBits := by cases s; rfl
@[simp] theorem withSenseBad_net : (s.withSenseBad x).net = s.net := by cases s; rfl
@[simp] theorem withSenseBad_stager : (s.withSenseBad x).stager = s.stager := by cases s; rfl
@[simp] theorem withSenseBad_mir : (s.withSenseBad x).mir = s.mir := by cases s; rfl
@[simp] theorem withSenseBad_ref : (s.withSenseBad x).ref = s.ref := by cases s; rfl
@[simp] theorem withSenseBad_tbs : (s.withSenseBad x).tbs = s.tbs := by cases s; rfl
@[simp] theorem withSenseBad_ptps : (s.withSenseBad x).ptps = s.ptps := by cases s; rfl
@[simp] theorem withSenseBad_pulses : (s.withSenseBad x).pulses = s.pulses := by cases s; rfl
@[simp] theorem withSenseBad_capts : (s.withSenseBad x).capts = s.capts := by cases s; rfl
@[simp] theorem withSenseBad_capLatch : (s.withSenseBad x).capLatch = s.capLatch := by cases s; rfl
@[simp] theorem withSenseBad_fab : (s.withSenseBad x).fab = s.fab := by cases s; rfl
@[simp] theorem withSenseBad_chains : (s.withSenseBad x).chains = s.chains := by cases s; rfl
@[simp] theorem withSenseBad_fb : (s.withSenseBad x).fb = s.fb := by cases s; rfl
@[simp] theorem withSenseBad_sec : (s.withSenseBad x).sec = s.sec := by cases s; rfl
@[simp] theorem withSenseBad_boot : (s.withSenseBad x).boot = s.boot := by cases s; rfl
@[simp] theorem withSenseBad_mch : (s.withSenseBad x).mch = s.mch := by cases s; rfl
@[simp] theorem withSenseBad_mf : (s.withSenseBad x).mf = s.mf := by cases s; rfl
end

section
variable (x : SMap (List Bool)) (s : State)
@[simp] theorem withAuxBits_pending : (s.withAuxBits x).pending = s.pending := by cases s; rfl
@[simp] theorem withAuxBits_free : (s.withAuxBits x).free = s.free := by cases s; rfl
@[simp] theorem withAuxBits_tim : (s.withAuxBits x).tim = s.tim := by cases s; rfl
@[simp] theorem withAuxBits_regs : (s.withAuxBits x).regs = s.regs := by cases s; rfl
@[simp] theorem withAuxBits_latch : (s.withAuxBits x).latch = s.latch := by cases s; rfl
@[simp] theorem withAuxBits_mem : (s.withAuxBits x).mem = s.mem := by cases s; rfl
@[simp] theorem withAuxBits_marks : (s.withAuxBits x).marks = s.marks := by cases s; rfl
@[simp] theorem withAuxBits_groups : (s.withAuxBits x).groups = s.groups := by cases s; rfl
@[simp] theorem withAuxBits_nibs : (s.withAuxBits x).nibs = s.nibs := by cases s; rfl
@[simp] theorem withAuxBits_slate : (s.withAuxBits x).slate = s.slate := by cases s; rfl
@[simp] theorem withAuxBits_rul : (s.withAuxBits x).rul = s.rul := by cases s; rfl
@[simp] theorem withAuxBits_inkPrev : (s.withAuxBits x).inkPrev = s.inkPrev := by cases s; rfl
@[simp] theorem withAuxBits_brus : (s.withAuxBits x).brus = s.brus := by cases s; rfl
@[simp] theorem withAuxBits_bruLive : (s.withAuxBits x).bruLive = s.bruLive := by cases s; rfl
@[simp] theorem withAuxBits_doms : (s.withAuxBits x).doms = s.doms := by cases s; rfl
@[simp] theorem withAuxBits_saps : (s.withAuxBits x).saps = s.saps := by cases s; rfl
@[simp] theorem withAuxBits_sapHeld : (s.withAuxBits x).sapHeld = s.sapHeld := by cases s; rfl
@[simp] theorem withAuxBits_sapRemap : (s.withAuxBits x).sapRemap = s.sapRemap := by cases s; rfl
@[simp] theorem withAuxBits_sapMasks : (s.withAuxBits x).sapMasks = s.sapMasks := by cases s; rfl
@[simp] theorem withAuxBits_lanes : (s.withAuxBits x).lanes = s.lanes := by cases s; rfl
@[simp] theorem withAuxBits_senseBad : (s.withAuxBits x).senseBad = s.senseBad := by cases s; rfl
@[simp] theorem withAuxBits_auxBits : (s.withAuxBits x).auxBits = x := by cases s; rfl
@[simp] theorem withAuxBits_net : (s.withAuxBits x).net = s.net := by cases s; rfl
@[simp] theorem withAuxBits_stager : (s.withAuxBits x).stager = s.stager := by cases s; rfl
@[simp] theorem withAuxBits_mir : (s.withAuxBits x).mir = s.mir := by cases s; rfl
@[simp] theorem withAuxBits_ref : (s.withAuxBits x).ref = s.ref := by cases s; rfl
@[simp] theorem withAuxBits_tbs : (s.withAuxBits x).tbs = s.tbs := by cases s; rfl
@[simp] theorem withAuxBits_ptps : (s.withAuxBits x).ptps = s.ptps := by cases s; rfl
@[simp] theorem withAuxBits_pulses : (s.withAuxBits x).pulses = s.pulses := by cases s; rfl
@[simp] theorem withAuxBits_capts : (s.withAuxBits x).capts = s.capts := by cases s; rfl
@[simp] theorem withAuxBits_capLatch : (s.withAuxBits x).capLatch = s.capLatch := by cases s; rfl
@[simp] theorem withAuxBits_fab : (s.withAuxBits x).fab = s.fab := by cases s; rfl
@[simp] theorem withAuxBits_chains : (s.withAuxBits x).chains = s.chains := by cases s; rfl
@[simp] theorem withAuxBits_fb : (s.withAuxBits x).fb = s.fb := by cases s; rfl
@[simp] theorem withAuxBits_sec : (s.withAuxBits x).sec = s.sec := by cases s; rfl
@[simp] theorem withAuxBits_boot : (s.withAuxBits x).boot = s.boot := by cases s; rfl
@[simp] theorem withAuxBits_mch : (s.withAuxBits x).mch = s.mch := by cases s; rfl
@[simp] theorem withAuxBits_mf : (s.withAuxBits x).mf = s.mf := by cases s; rfl
end

section
variable (x : Net) (s : State)
@[simp] theorem withNet_pending : (s.withNet x).pending = s.pending := by cases s; rfl
@[simp] theorem withNet_free : (s.withNet x).free = s.free := by cases s; rfl
@[simp] theorem withNet_tim : (s.withNet x).tim = s.tim := by cases s; rfl
@[simp] theorem withNet_regs : (s.withNet x).regs = s.regs := by cases s; rfl
@[simp] theorem withNet_latch : (s.withNet x).latch = s.latch := by cases s; rfl
@[simp] theorem withNet_mem : (s.withNet x).mem = s.mem := by cases s; rfl
@[simp] theorem withNet_marks : (s.withNet x).marks = s.marks := by cases s; rfl
@[simp] theorem withNet_groups : (s.withNet x).groups = s.groups := by cases s; rfl
@[simp] theorem withNet_nibs : (s.withNet x).nibs = s.nibs := by cases s; rfl
@[simp] theorem withNet_slate : (s.withNet x).slate = s.slate := by cases s; rfl
@[simp] theorem withNet_rul : (s.withNet x).rul = s.rul := by cases s; rfl
@[simp] theorem withNet_inkPrev : (s.withNet x).inkPrev = s.inkPrev := by cases s; rfl
@[simp] theorem withNet_brus : (s.withNet x).brus = s.brus := by cases s; rfl
@[simp] theorem withNet_bruLive : (s.withNet x).bruLive = s.bruLive := by cases s; rfl
@[simp] theorem withNet_doms : (s.withNet x).doms = s.doms := by cases s; rfl
@[simp] theorem withNet_saps : (s.withNet x).saps = s.saps := by cases s; rfl
@[simp] theorem withNet_sapHeld : (s.withNet x).sapHeld = s.sapHeld := by cases s; rfl
@[simp] theorem withNet_sapRemap : (s.withNet x).sapRemap = s.sapRemap := by cases s; rfl
@[simp] theorem withNet_sapMasks : (s.withNet x).sapMasks = s.sapMasks := by cases s; rfl
@[simp] theorem withNet_lanes : (s.withNet x).lanes = s.lanes := by cases s; rfl
@[simp] theorem withNet_senseBad : (s.withNet x).senseBad = s.senseBad := by cases s; rfl
@[simp] theorem withNet_auxBits : (s.withNet x).auxBits = s.auxBits := by cases s; rfl
@[simp] theorem withNet_net : (s.withNet x).net = x := by cases s; rfl
@[simp] theorem withNet_stager : (s.withNet x).stager = s.stager := by cases s; rfl
@[simp] theorem withNet_mir : (s.withNet x).mir = s.mir := by cases s; rfl
@[simp] theorem withNet_ref : (s.withNet x).ref = s.ref := by cases s; rfl
@[simp] theorem withNet_tbs : (s.withNet x).tbs = s.tbs := by cases s; rfl
@[simp] theorem withNet_ptps : (s.withNet x).ptps = s.ptps := by cases s; rfl
@[simp] theorem withNet_pulses : (s.withNet x).pulses = s.pulses := by cases s; rfl
@[simp] theorem withNet_capts : (s.withNet x).capts = s.capts := by cases s; rfl
@[simp] theorem withNet_capLatch : (s.withNet x).capLatch = s.capLatch := by cases s; rfl
@[simp] theorem withNet_fab : (s.withNet x).fab = s.fab := by cases s; rfl
@[simp] theorem withNet_chains : (s.withNet x).chains = s.chains := by cases s; rfl
@[simp] theorem withNet_fb : (s.withNet x).fb = s.fb := by cases s; rfl
@[simp] theorem withNet_sec : (s.withNet x).sec = s.sec := by cases s; rfl
@[simp] theorem withNet_boot : (s.withNet x).boot = s.boot := by cases s; rfl
@[simp] theorem withNet_mch : (s.withNet x).mch = s.mch := by cases s; rfl
@[simp] theorem withNet_mf : (s.withNet x).mf = s.mf := by cases s; rfl
end

section
variable (x : Stager) (s : State)
@[simp] theorem withStager_pending : (s.withStager x).pending = s.pending := by cases s; rfl
@[simp] theorem withStager_free : (s.withStager x).free = s.free := by cases s; rfl
@[simp] theorem withStager_tim : (s.withStager x).tim = s.tim := by cases s; rfl
@[simp] theorem withStager_regs : (s.withStager x).regs = s.regs := by cases s; rfl
@[simp] theorem withStager_latch : (s.withStager x).latch = s.latch := by cases s; rfl
@[simp] theorem withStager_mem : (s.withStager x).mem = s.mem := by cases s; rfl
@[simp] theorem withStager_marks : (s.withStager x).marks = s.marks := by cases s; rfl
@[simp] theorem withStager_groups : (s.withStager x).groups = s.groups := by cases s; rfl
@[simp] theorem withStager_nibs : (s.withStager x).nibs = s.nibs := by cases s; rfl
@[simp] theorem withStager_slate : (s.withStager x).slate = s.slate := by cases s; rfl
@[simp] theorem withStager_rul : (s.withStager x).rul = s.rul := by cases s; rfl
@[simp] theorem withStager_inkPrev : (s.withStager x).inkPrev = s.inkPrev := by cases s; rfl
@[simp] theorem withStager_brus : (s.withStager x).brus = s.brus := by cases s; rfl
@[simp] theorem withStager_bruLive : (s.withStager x).bruLive = s.bruLive := by cases s; rfl
@[simp] theorem withStager_doms : (s.withStager x).doms = s.doms := by cases s; rfl
@[simp] theorem withStager_saps : (s.withStager x).saps = s.saps := by cases s; rfl
@[simp] theorem withStager_sapHeld : (s.withStager x).sapHeld = s.sapHeld := by cases s; rfl
@[simp] theorem withStager_sapRemap : (s.withStager x).sapRemap = s.sapRemap := by cases s; rfl
@[simp] theorem withStager_sapMasks : (s.withStager x).sapMasks = s.sapMasks := by cases s; rfl
@[simp] theorem withStager_lanes : (s.withStager x).lanes = s.lanes := by cases s; rfl
@[simp] theorem withStager_senseBad : (s.withStager x).senseBad = s.senseBad := by cases s; rfl
@[simp] theorem withStager_auxBits : (s.withStager x).auxBits = s.auxBits := by cases s; rfl
@[simp] theorem withStager_net : (s.withStager x).net = s.net := by cases s; rfl
@[simp] theorem withStager_stager : (s.withStager x).stager = x := by cases s; rfl
@[simp] theorem withStager_mir : (s.withStager x).mir = s.mir := by cases s; rfl
@[simp] theorem withStager_ref : (s.withStager x).ref = s.ref := by cases s; rfl
@[simp] theorem withStager_tbs : (s.withStager x).tbs = s.tbs := by cases s; rfl
@[simp] theorem withStager_ptps : (s.withStager x).ptps = s.ptps := by cases s; rfl
@[simp] theorem withStager_pulses : (s.withStager x).pulses = s.pulses := by cases s; rfl
@[simp] theorem withStager_capts : (s.withStager x).capts = s.capts := by cases s; rfl
@[simp] theorem withStager_capLatch : (s.withStager x).capLatch = s.capLatch := by cases s; rfl
@[simp] theorem withStager_fab : (s.withStager x).fab = s.fab := by cases s; rfl
@[simp] theorem withStager_chains : (s.withStager x).chains = s.chains := by cases s; rfl
@[simp] theorem withStager_fb : (s.withStager x).fb = s.fb := by cases s; rfl
@[simp] theorem withStager_sec : (s.withStager x).sec = s.sec := by cases s; rfl
@[simp] theorem withStager_boot : (s.withStager x).boot = s.boot := by cases s; rfl
@[simp] theorem withStager_mch : (s.withStager x).mch = s.mch := by cases s; rfl
@[simp] theorem withStager_mf : (s.withStager x).mf = s.mf := by cases s; rfl
end

section
variable (x : Mir) (s : State)
@[simp] theorem withMir_pending : (s.withMir x).pending = s.pending := by cases s; rfl
@[simp] theorem withMir_free : (s.withMir x).free = s.free := by cases s; rfl
@[simp] theorem withMir_tim : (s.withMir x).tim = s.tim := by cases s; rfl
@[simp] theorem withMir_regs : (s.withMir x).regs = s.regs := by cases s; rfl
@[simp] theorem withMir_latch : (s.withMir x).latch = s.latch := by cases s; rfl
@[simp] theorem withMir_mem : (s.withMir x).mem = s.mem := by cases s; rfl
@[simp] theorem withMir_marks : (s.withMir x).marks = s.marks := by cases s; rfl
@[simp] theorem withMir_groups : (s.withMir x).groups = s.groups := by cases s; rfl
@[simp] theorem withMir_nibs : (s.withMir x).nibs = s.nibs := by cases s; rfl
@[simp] theorem withMir_slate : (s.withMir x).slate = s.slate := by cases s; rfl
@[simp] theorem withMir_rul : (s.withMir x).rul = s.rul := by cases s; rfl
@[simp] theorem withMir_inkPrev : (s.withMir x).inkPrev = s.inkPrev := by cases s; rfl
@[simp] theorem withMir_brus : (s.withMir x).brus = s.brus := by cases s; rfl
@[simp] theorem withMir_bruLive : (s.withMir x).bruLive = s.bruLive := by cases s; rfl
@[simp] theorem withMir_doms : (s.withMir x).doms = s.doms := by cases s; rfl
@[simp] theorem withMir_saps : (s.withMir x).saps = s.saps := by cases s; rfl
@[simp] theorem withMir_sapHeld : (s.withMir x).sapHeld = s.sapHeld := by cases s; rfl
@[simp] theorem withMir_sapRemap : (s.withMir x).sapRemap = s.sapRemap := by cases s; rfl
@[simp] theorem withMir_sapMasks : (s.withMir x).sapMasks = s.sapMasks := by cases s; rfl
@[simp] theorem withMir_lanes : (s.withMir x).lanes = s.lanes := by cases s; rfl
@[simp] theorem withMir_senseBad : (s.withMir x).senseBad = s.senseBad := by cases s; rfl
@[simp] theorem withMir_auxBits : (s.withMir x).auxBits = s.auxBits := by cases s; rfl
@[simp] theorem withMir_net : (s.withMir x).net = s.net := by cases s; rfl
@[simp] theorem withMir_stager : (s.withMir x).stager = s.stager := by cases s; rfl
@[simp] theorem withMir_mir : (s.withMir x).mir = x := by cases s; rfl
@[simp] theorem withMir_ref : (s.withMir x).ref = s.ref := by cases s; rfl
@[simp] theorem withMir_tbs : (s.withMir x).tbs = s.tbs := by cases s; rfl
@[simp] theorem withMir_ptps : (s.withMir x).ptps = s.ptps := by cases s; rfl
@[simp] theorem withMir_pulses : (s.withMir x).pulses = s.pulses := by cases s; rfl
@[simp] theorem withMir_capts : (s.withMir x).capts = s.capts := by cases s; rfl
@[simp] theorem withMir_capLatch : (s.withMir x).capLatch = s.capLatch := by cases s; rfl
@[simp] theorem withMir_fab : (s.withMir x).fab = s.fab := by cases s; rfl
@[simp] theorem withMir_chains : (s.withMir x).chains = s.chains := by cases s; rfl
@[simp] theorem withMir_fb : (s.withMir x).fb = s.fb := by cases s; rfl
@[simp] theorem withMir_sec : (s.withMir x).sec = s.sec := by cases s; rfl
@[simp] theorem withMir_boot : (s.withMir x).boot = s.boot := by cases s; rfl
@[simp] theorem withMir_mch : (s.withMir x).mch = s.mch := by cases s; rfl
@[simp] theorem withMir_mf : (s.withMir x).mf = s.mf := by cases s; rfl
end

section
variable (x : Ref) (s : State)
@[simp] theorem withRef_pending : (s.withRef x).pending = s.pending := by cases s; rfl
@[simp] theorem withRef_free : (s.withRef x).free = s.free := by cases s; rfl
@[simp] theorem withRef_tim : (s.withRef x).tim = s.tim := by cases s; rfl
@[simp] theorem withRef_regs : (s.withRef x).regs = s.regs := by cases s; rfl
@[simp] theorem withRef_latch : (s.withRef x).latch = s.latch := by cases s; rfl
@[simp] theorem withRef_mem : (s.withRef x).mem = s.mem := by cases s; rfl
@[simp] theorem withRef_marks : (s.withRef x).marks = s.marks := by cases s; rfl
@[simp] theorem withRef_groups : (s.withRef x).groups = s.groups := by cases s; rfl
@[simp] theorem withRef_nibs : (s.withRef x).nibs = s.nibs := by cases s; rfl
@[simp] theorem withRef_slate : (s.withRef x).slate = s.slate := by cases s; rfl
@[simp] theorem withRef_rul : (s.withRef x).rul = s.rul := by cases s; rfl
@[simp] theorem withRef_inkPrev : (s.withRef x).inkPrev = s.inkPrev := by cases s; rfl
@[simp] theorem withRef_brus : (s.withRef x).brus = s.brus := by cases s; rfl
@[simp] theorem withRef_bruLive : (s.withRef x).bruLive = s.bruLive := by cases s; rfl
@[simp] theorem withRef_doms : (s.withRef x).doms = s.doms := by cases s; rfl
@[simp] theorem withRef_saps : (s.withRef x).saps = s.saps := by cases s; rfl
@[simp] theorem withRef_sapHeld : (s.withRef x).sapHeld = s.sapHeld := by cases s; rfl
@[simp] theorem withRef_sapRemap : (s.withRef x).sapRemap = s.sapRemap := by cases s; rfl
@[simp] theorem withRef_sapMasks : (s.withRef x).sapMasks = s.sapMasks := by cases s; rfl
@[simp] theorem withRef_lanes : (s.withRef x).lanes = s.lanes := by cases s; rfl
@[simp] theorem withRef_senseBad : (s.withRef x).senseBad = s.senseBad := by cases s; rfl
@[simp] theorem withRef_auxBits : (s.withRef x).auxBits = s.auxBits := by cases s; rfl
@[simp] theorem withRef_net : (s.withRef x).net = s.net := by cases s; rfl
@[simp] theorem withRef_stager : (s.withRef x).stager = s.stager := by cases s; rfl
@[simp] theorem withRef_mir : (s.withRef x).mir = s.mir := by cases s; rfl
@[simp] theorem withRef_ref : (s.withRef x).ref = x := by cases s; rfl
@[simp] theorem withRef_tbs : (s.withRef x).tbs = s.tbs := by cases s; rfl
@[simp] theorem withRef_ptps : (s.withRef x).ptps = s.ptps := by cases s; rfl
@[simp] theorem withRef_pulses : (s.withRef x).pulses = s.pulses := by cases s; rfl
@[simp] theorem withRef_capts : (s.withRef x).capts = s.capts := by cases s; rfl
@[simp] theorem withRef_capLatch : (s.withRef x).capLatch = s.capLatch := by cases s; rfl
@[simp] theorem withRef_fab : (s.withRef x).fab = s.fab := by cases s; rfl
@[simp] theorem withRef_chains : (s.withRef x).chains = s.chains := by cases s; rfl
@[simp] theorem withRef_fb : (s.withRef x).fb = s.fb := by cases s; rfl
@[simp] theorem withRef_sec : (s.withRef x).sec = s.sec := by cases s; rfl
@[simp] theorem withRef_boot : (s.withRef x).boot = s.boot := by cases s; rfl
@[simp] theorem withRef_mch : (s.withRef x).mch = s.mch := by cases s; rfl
@[simp] theorem withRef_mf : (s.withRef x).mf = s.mf := by cases s; rfl
end

section
variable (x : SMap TimeBase) (s : State)
@[simp] theorem withTbs_pending : (s.withTbs x).pending = s.pending := by cases s; rfl
@[simp] theorem withTbs_free : (s.withTbs x).free = s.free := by cases s; rfl
@[simp] theorem withTbs_tim : (s.withTbs x).tim = s.tim := by cases s; rfl
@[simp] theorem withTbs_regs : (s.withTbs x).regs = s.regs := by cases s; rfl
@[simp] theorem withTbs_latch : (s.withTbs x).latch = s.latch := by cases s; rfl
@[simp] theorem withTbs_mem : (s.withTbs x).mem = s.mem := by cases s; rfl
@[simp] theorem withTbs_marks : (s.withTbs x).marks = s.marks := by cases s; rfl
@[simp] theorem withTbs_groups : (s.withTbs x).groups = s.groups := by cases s; rfl
@[simp] theorem withTbs_nibs : (s.withTbs x).nibs = s.nibs := by cases s; rfl
@[simp] theorem withTbs_slate : (s.withTbs x).slate = s.slate := by cases s; rfl
@[simp] theorem withTbs_rul : (s.withTbs x).rul = s.rul := by cases s; rfl
@[simp] theorem withTbs_inkPrev : (s.withTbs x).inkPrev = s.inkPrev := by cases s; rfl
@[simp] theorem withTbs_brus : (s.withTbs x).brus = s.brus := by cases s; rfl
@[simp] theorem withTbs_bruLive : (s.withTbs x).bruLive = s.bruLive := by cases s; rfl
@[simp] theorem withTbs_doms : (s.withTbs x).doms = s.doms := by cases s; rfl
@[simp] theorem withTbs_saps : (s.withTbs x).saps = s.saps := by cases s; rfl
@[simp] theorem withTbs_sapHeld : (s.withTbs x).sapHeld = s.sapHeld := by cases s; rfl
@[simp] theorem withTbs_sapRemap : (s.withTbs x).sapRemap = s.sapRemap := by cases s; rfl
@[simp] theorem withTbs_sapMasks : (s.withTbs x).sapMasks = s.sapMasks := by cases s; rfl
@[simp] theorem withTbs_lanes : (s.withTbs x).lanes = s.lanes := by cases s; rfl
@[simp] theorem withTbs_senseBad : (s.withTbs x).senseBad = s.senseBad := by cases s; rfl
@[simp] theorem withTbs_auxBits : (s.withTbs x).auxBits = s.auxBits := by cases s; rfl
@[simp] theorem withTbs_net : (s.withTbs x).net = s.net := by cases s; rfl
@[simp] theorem withTbs_stager : (s.withTbs x).stager = s.stager := by cases s; rfl
@[simp] theorem withTbs_mir : (s.withTbs x).mir = s.mir := by cases s; rfl
@[simp] theorem withTbs_ref : (s.withTbs x).ref = s.ref := by cases s; rfl
@[simp] theorem withTbs_tbs : (s.withTbs x).tbs = x := by cases s; rfl
@[simp] theorem withTbs_ptps : (s.withTbs x).ptps = s.ptps := by cases s; rfl
@[simp] theorem withTbs_pulses : (s.withTbs x).pulses = s.pulses := by cases s; rfl
@[simp] theorem withTbs_capts : (s.withTbs x).capts = s.capts := by cases s; rfl
@[simp] theorem withTbs_capLatch : (s.withTbs x).capLatch = s.capLatch := by cases s; rfl
@[simp] theorem withTbs_fab : (s.withTbs x).fab = s.fab := by cases s; rfl
@[simp] theorem withTbs_chains : (s.withTbs x).chains = s.chains := by cases s; rfl
@[simp] theorem withTbs_fb : (s.withTbs x).fb = s.fb := by cases s; rfl
@[simp] theorem withTbs_sec : (s.withTbs x).sec = s.sec := by cases s; rfl
@[simp] theorem withTbs_boot : (s.withTbs x).boot = s.boot := by cases s; rfl
@[simp] theorem withTbs_mch : (s.withTbs x).mch = s.mch := by cases s; rfl
@[simp] theorem withTbs_mf : (s.withTbs x).mf = s.mf := by cases s; rfl
end

section
variable (x : SMap Ptp) (s : State)
@[simp] theorem withPtps_pending : (s.withPtps x).pending = s.pending := by cases s; rfl
@[simp] theorem withPtps_free : (s.withPtps x).free = s.free := by cases s; rfl
@[simp] theorem withPtps_tim : (s.withPtps x).tim = s.tim := by cases s; rfl
@[simp] theorem withPtps_regs : (s.withPtps x).regs = s.regs := by cases s; rfl
@[simp] theorem withPtps_latch : (s.withPtps x).latch = s.latch := by cases s; rfl
@[simp] theorem withPtps_mem : (s.withPtps x).mem = s.mem := by cases s; rfl
@[simp] theorem withPtps_marks : (s.withPtps x).marks = s.marks := by cases s; rfl
@[simp] theorem withPtps_groups : (s.withPtps x).groups = s.groups := by cases s; rfl
@[simp] theorem withPtps_nibs : (s.withPtps x).nibs = s.nibs := by cases s; rfl
@[simp] theorem withPtps_slate : (s.withPtps x).slate = s.slate := by cases s; rfl
@[simp] theorem withPtps_rul : (s.withPtps x).rul = s.rul := by cases s; rfl
@[simp] theorem withPtps_inkPrev : (s.withPtps x).inkPrev = s.inkPrev := by cases s; rfl
@[simp] theorem withPtps_brus : (s.withPtps x).brus = s.brus := by cases s; rfl
@[simp] theorem withPtps_bruLive : (s.withPtps x).bruLive = s.bruLive := by cases s; rfl
@[simp] theorem withPtps_doms : (s.withPtps x).doms = s.doms := by cases s; rfl
@[simp] theorem withPtps_saps : (s.withPtps x).saps = s.saps := by cases s; rfl
@[simp] theorem withPtps_sapHeld : (s.withPtps x).sapHeld = s.sapHeld := by cases s; rfl
@[simp] theorem withPtps_sapRemap : (s.withPtps x).sapRemap = s.sapRemap := by cases s; rfl
@[simp] theorem withPtps_sapMasks : (s.withPtps x).sapMasks = s.sapMasks := by cases s; rfl
@[simp] theorem withPtps_lanes : (s.withPtps x).lanes = s.lanes := by cases s; rfl
@[simp] theorem withPtps_senseBad : (s.withPtps x).senseBad = s.senseBad := by cases s; rfl
@[simp] theorem withPtps_auxBits : (s.withPtps x).auxBits = s.auxBits := by cases s; rfl
@[simp] theorem withPtps_net : (s.withPtps x).net = s.net := by cases s; rfl
@[simp] theorem withPtps_stager : (s.withPtps x).stager = s.stager := by cases s; rfl
@[simp] theorem withPtps_mir : (s.withPtps x).mir = s.mir := by cases s; rfl
@[simp] theorem withPtps_ref : (s.withPtps x).ref = s.ref := by cases s; rfl
@[simp] theorem withPtps_tbs : (s.withPtps x).tbs = s.tbs := by cases s; rfl
@[simp] theorem withPtps_ptps : (s.withPtps x).ptps = x := by cases s; rfl
@[simp] theorem withPtps_pulses : (s.withPtps x).pulses = s.pulses := by cases s; rfl
@[simp] theorem withPtps_capts : (s.withPtps x).capts = s.capts := by cases s; rfl
@[simp] theorem withPtps_capLatch : (s.withPtps x).capLatch = s.capLatch := by cases s; rfl
@[simp] theorem withPtps_fab : (s.withPtps x).fab = s.fab := by cases s; rfl
@[simp] theorem withPtps_chains : (s.withPtps x).chains = s.chains := by cases s; rfl
@[simp] theorem withPtps_fb : (s.withPtps x).fb = s.fb := by cases s; rfl
@[simp] theorem withPtps_sec : (s.withPtps x).sec = s.sec := by cases s; rfl
@[simp] theorem withPtps_boot : (s.withPtps x).boot = s.boot := by cases s; rfl
@[simp] theorem withPtps_mch : (s.withPtps x).mch = s.mch := by cases s; rfl
@[simp] theorem withPtps_mf : (s.withPtps x).mf = s.mf := by cases s; rfl
end

section
variable (x : SMap Pulse) (s : State)
@[simp] theorem withPulses_pending : (s.withPulses x).pending = s.pending := by cases s; rfl
@[simp] theorem withPulses_free : (s.withPulses x).free = s.free := by cases s; rfl
@[simp] theorem withPulses_tim : (s.withPulses x).tim = s.tim := by cases s; rfl
@[simp] theorem withPulses_regs : (s.withPulses x).regs = s.regs := by cases s; rfl
@[simp] theorem withPulses_latch : (s.withPulses x).latch = s.latch := by cases s; rfl
@[simp] theorem withPulses_mem : (s.withPulses x).mem = s.mem := by cases s; rfl
@[simp] theorem withPulses_marks : (s.withPulses x).marks = s.marks := by cases s; rfl
@[simp] theorem withPulses_groups : (s.withPulses x).groups = s.groups := by cases s; rfl
@[simp] theorem withPulses_nibs : (s.withPulses x).nibs = s.nibs := by cases s; rfl
@[simp] theorem withPulses_slate : (s.withPulses x).slate = s.slate := by cases s; rfl
@[simp] theorem withPulses_rul : (s.withPulses x).rul = s.rul := by cases s; rfl
@[simp] theorem withPulses_inkPrev : (s.withPulses x).inkPrev = s.inkPrev := by cases s; rfl
@[simp] theorem withPulses_brus : (s.withPulses x).brus = s.brus := by cases s; rfl
@[simp] theorem withPulses_bruLive : (s.withPulses x).bruLive = s.bruLive := by cases s; rfl
@[simp] theorem withPulses_doms : (s.withPulses x).doms = s.doms := by cases s; rfl
@[simp] theorem withPulses_saps : (s.withPulses x).saps = s.saps := by cases s; rfl
@[simp] theorem withPulses_sapHeld : (s.withPulses x).sapHeld = s.sapHeld := by cases s; rfl
@[simp] theorem withPulses_sapRemap : (s.withPulses x).sapRemap = s.sapRemap := by cases s; rfl
@[simp] theorem withPulses_sapMasks : (s.withPulses x).sapMasks = s.sapMasks := by cases s; rfl
@[simp] theorem withPulses_lanes : (s.withPulses x).lanes = s.lanes := by cases s; rfl
@[simp] theorem withPulses_senseBad : (s.withPulses x).senseBad = s.senseBad := by cases s; rfl
@[simp] theorem withPulses_auxBits : (s.withPulses x).auxBits = s.auxBits := by cases s; rfl
@[simp] theorem withPulses_net : (s.withPulses x).net = s.net := by cases s; rfl
@[simp] theorem withPulses_stager : (s.withPulses x).stager = s.stager := by cases s; rfl
@[simp] theorem withPulses_mir : (s.withPulses x).mir = s.mir := by cases s; rfl
@[simp] theorem withPulses_ref : (s.withPulses x).ref = s.ref := by cases s; rfl
@[simp] theorem withPulses_tbs : (s.withPulses x).tbs = s.tbs := by cases s; rfl
@[simp] theorem withPulses_ptps : (s.withPulses x).ptps = s.ptps := by cases s; rfl
@[simp] theorem withPulses_pulses : (s.withPulses x).pulses = x := by cases s; rfl
@[simp] theorem withPulses_capts : (s.withPulses x).capts = s.capts := by cases s; rfl
@[simp] theorem withPulses_capLatch : (s.withPulses x).capLatch = s.capLatch := by cases s; rfl
@[simp] theorem withPulses_fab : (s.withPulses x).fab = s.fab := by cases s; rfl
@[simp] theorem withPulses_chains : (s.withPulses x).chains = s.chains := by cases s; rfl
@[simp] theorem withPulses_fb : (s.withPulses x).fb = s.fb := by cases s; rfl
@[simp] theorem withPulses_sec : (s.withPulses x).sec = s.sec := by cases s; rfl
@[simp] theorem withPulses_boot : (s.withPulses x).boot = s.boot := by cases s; rfl
@[simp] theorem withPulses_mch : (s.withPulses x).mch = s.mch := by cases s; rfl
@[simp] theorem withPulses_mf : (s.withPulses x).mf = s.mf := by cases s; rfl
end

section
variable (x : SMap Capt) (s : State)
@[simp] theorem withCapts_pending : (s.withCapts x).pending = s.pending := by cases s; rfl
@[simp] theorem withCapts_free : (s.withCapts x).free = s.free := by cases s; rfl
@[simp] theorem withCapts_tim : (s.withCapts x).tim = s.tim := by cases s; rfl
@[simp] theorem withCapts_regs : (s.withCapts x).regs = s.regs := by cases s; rfl
@[simp] theorem withCapts_latch : (s.withCapts x).latch = s.latch := by cases s; rfl
@[simp] theorem withCapts_mem : (s.withCapts x).mem = s.mem := by cases s; rfl
@[simp] theorem withCapts_marks : (s.withCapts x).marks = s.marks := by cases s; rfl
@[simp] theorem withCapts_groups : (s.withCapts x).groups = s.groups := by cases s; rfl
@[simp] theorem withCapts_nibs : (s.withCapts x).nibs = s.nibs := by cases s; rfl
@[simp] theorem withCapts_slate : (s.withCapts x).slate = s.slate := by cases s; rfl
@[simp] theorem withCapts_rul : (s.withCapts x).rul = s.rul := by cases s; rfl
@[simp] theorem withCapts_inkPrev : (s.withCapts x).inkPrev = s.inkPrev := by cases s; rfl
@[simp] theorem withCapts_brus : (s.withCapts x).brus = s.brus := by cases s; rfl
@[simp] theorem withCapts_bruLive : (s.withCapts x).bruLive = s.bruLive := by cases s; rfl
@[simp] theorem withCapts_doms : (s.withCapts x).doms = s.doms := by cases s; rfl
@[simp] theorem withCapts_saps : (s.withCapts x).saps = s.saps := by cases s; rfl
@[simp] theorem withCapts_sapHeld : (s.withCapts x).sapHeld = s.sapHeld := by cases s; rfl
@[simp] theorem withCapts_sapRemap : (s.withCapts x).sapRemap = s.sapRemap := by cases s; rfl
@[simp] theorem withCapts_sapMasks : (s.withCapts x).sapMasks = s.sapMasks := by cases s; rfl
@[simp] theorem withCapts_lanes : (s.withCapts x).lanes = s.lanes := by cases s; rfl
@[simp] theorem withCapts_senseBad : (s.withCapts x).senseBad = s.senseBad := by cases s; rfl
@[simp] theorem withCapts_auxBits : (s.withCapts x).auxBits = s.auxBits := by cases s; rfl
@[simp] theorem withCapts_net : (s.withCapts x).net = s.net := by cases s; rfl
@[simp] theorem withCapts_stager : (s.withCapts x).stager = s.stager := by cases s; rfl
@[simp] theorem withCapts_mir : (s.withCapts x).mir = s.mir := by cases s; rfl
@[simp] theorem withCapts_ref : (s.withCapts x).ref = s.ref := by cases s; rfl
@[simp] theorem withCapts_tbs : (s.withCapts x).tbs = s.tbs := by cases s; rfl
@[simp] theorem withCapts_ptps : (s.withCapts x).ptps = s.ptps := by cases s; rfl
@[simp] theorem withCapts_pulses : (s.withCapts x).pulses = s.pulses := by cases s; rfl
@[simp] theorem withCapts_capts : (s.withCapts x).capts = x := by cases s; rfl
@[simp] theorem withCapts_capLatch : (s.withCapts x).capLatch = s.capLatch := by cases s; rfl
@[simp] theorem withCapts_fab : (s.withCapts x).fab = s.fab := by cases s; rfl
@[simp] theorem withCapts_chains : (s.withCapts x).chains = s.chains := by cases s; rfl
@[simp] theorem withCapts_fb : (s.withCapts x).fb = s.fb := by cases s; rfl
@[simp] theorem withCapts_sec : (s.withCapts x).sec = s.sec := by cases s; rfl
@[simp] theorem withCapts_boot : (s.withCapts x).boot = s.boot := by cases s; rfl
@[simp] theorem withCapts_mch : (s.withCapts x).mch = s.mch := by cases s; rfl
@[simp] theorem withCapts_mf : (s.withCapts x).mf = s.mf := by cases s; rfl
end

section
variable (x : SMap (Option CapEntry)) (s : State)
@[simp] theorem withCapLatch_pending : (s.withCapLatch x).pending = s.pending := by cases s; rfl
@[simp] theorem withCapLatch_free : (s.withCapLatch x).free = s.free := by cases s; rfl
@[simp] theorem withCapLatch_tim : (s.withCapLatch x).tim = s.tim := by cases s; rfl
@[simp] theorem withCapLatch_regs : (s.withCapLatch x).regs = s.regs := by cases s; rfl
@[simp] theorem withCapLatch_latch : (s.withCapLatch x).latch = s.latch := by cases s; rfl
@[simp] theorem withCapLatch_mem : (s.withCapLatch x).mem = s.mem := by cases s; rfl
@[simp] theorem withCapLatch_marks : (s.withCapLatch x).marks = s.marks := by cases s; rfl
@[simp] theorem withCapLatch_groups : (s.withCapLatch x).groups = s.groups := by cases s; rfl
@[simp] theorem withCapLatch_nibs : (s.withCapLatch x).nibs = s.nibs := by cases s; rfl
@[simp] theorem withCapLatch_slate : (s.withCapLatch x).slate = s.slate := by cases s; rfl
@[simp] theorem withCapLatch_rul : (s.withCapLatch x).rul = s.rul := by cases s; rfl
@[simp] theorem withCapLatch_inkPrev : (s.withCapLatch x).inkPrev = s.inkPrev := by cases s; rfl
@[simp] theorem withCapLatch_brus : (s.withCapLatch x).brus = s.brus := by cases s; rfl
@[simp] theorem withCapLatch_bruLive : (s.withCapLatch x).bruLive = s.bruLive := by cases s; rfl
@[simp] theorem withCapLatch_doms : (s.withCapLatch x).doms = s.doms := by cases s; rfl
@[simp] theorem withCapLatch_saps : (s.withCapLatch x).saps = s.saps := by cases s; rfl
@[simp] theorem withCapLatch_sapHeld : (s.withCapLatch x).sapHeld = s.sapHeld := by cases s; rfl
@[simp] theorem withCapLatch_sapRemap : (s.withCapLatch x).sapRemap = s.sapRemap := by cases s; rfl
@[simp] theorem withCapLatch_sapMasks : (s.withCapLatch x).sapMasks = s.sapMasks := by cases s; rfl
@[simp] theorem withCapLatch_lanes : (s.withCapLatch x).lanes = s.lanes := by cases s; rfl
@[simp] theorem withCapLatch_senseBad : (s.withCapLatch x).senseBad = s.senseBad := by cases s; rfl
@[simp] theorem withCapLatch_auxBits : (s.withCapLatch x).auxBits = s.auxBits := by cases s; rfl
@[simp] theorem withCapLatch_net : (s.withCapLatch x).net = s.net := by cases s; rfl
@[simp] theorem withCapLatch_stager : (s.withCapLatch x).stager = s.stager := by cases s; rfl
@[simp] theorem withCapLatch_mir : (s.withCapLatch x).mir = s.mir := by cases s; rfl
@[simp] theorem withCapLatch_ref : (s.withCapLatch x).ref = s.ref := by cases s; rfl
@[simp] theorem withCapLatch_tbs : (s.withCapLatch x).tbs = s.tbs := by cases s; rfl
@[simp] theorem withCapLatch_ptps : (s.withCapLatch x).ptps = s.ptps := by cases s; rfl
@[simp] theorem withCapLatch_pulses : (s.withCapLatch x).pulses = s.pulses := by cases s; rfl
@[simp] theorem withCapLatch_capts : (s.withCapLatch x).capts = s.capts := by cases s; rfl
@[simp] theorem withCapLatch_capLatch : (s.withCapLatch x).capLatch = x := by cases s; rfl
@[simp] theorem withCapLatch_fab : (s.withCapLatch x).fab = s.fab := by cases s; rfl
@[simp] theorem withCapLatch_chains : (s.withCapLatch x).chains = s.chains := by cases s; rfl
@[simp] theorem withCapLatch_fb : (s.withCapLatch x).fb = s.fb := by cases s; rfl
@[simp] theorem withCapLatch_sec : (s.withCapLatch x).sec = s.sec := by cases s; rfl
@[simp] theorem withCapLatch_boot : (s.withCapLatch x).boot = s.boot := by cases s; rfl
@[simp] theorem withCapLatch_mch : (s.withCapLatch x).mch = s.mch := by cases s; rfl
@[simp] theorem withCapLatch_mf : (s.withCapLatch x).mf = s.mf := by cases s; rfl
end

section
variable (x : Fab) (s : State)
@[simp] theorem withFab_pending : (s.withFab x).pending = s.pending := by cases s; rfl
@[simp] theorem withFab_free : (s.withFab x).free = s.free := by cases s; rfl
@[simp] theorem withFab_tim : (s.withFab x).tim = s.tim := by cases s; rfl
@[simp] theorem withFab_regs : (s.withFab x).regs = s.regs := by cases s; rfl
@[simp] theorem withFab_latch : (s.withFab x).latch = s.latch := by cases s; rfl
@[simp] theorem withFab_mem : (s.withFab x).mem = s.mem := by cases s; rfl
@[simp] theorem withFab_marks : (s.withFab x).marks = s.marks := by cases s; rfl
@[simp] theorem withFab_groups : (s.withFab x).groups = s.groups := by cases s; rfl
@[simp] theorem withFab_nibs : (s.withFab x).nibs = s.nibs := by cases s; rfl
@[simp] theorem withFab_slate : (s.withFab x).slate = s.slate := by cases s; rfl
@[simp] theorem withFab_rul : (s.withFab x).rul = s.rul := by cases s; rfl
@[simp] theorem withFab_inkPrev : (s.withFab x).inkPrev = s.inkPrev := by cases s; rfl
@[simp] theorem withFab_brus : (s.withFab x).brus = s.brus := by cases s; rfl
@[simp] theorem withFab_bruLive : (s.withFab x).bruLive = s.bruLive := by cases s; rfl
@[simp] theorem withFab_doms : (s.withFab x).doms = s.doms := by cases s; rfl
@[simp] theorem withFab_saps : (s.withFab x).saps = s.saps := by cases s; rfl
@[simp] theorem withFab_sapHeld : (s.withFab x).sapHeld = s.sapHeld := by cases s; rfl
@[simp] theorem withFab_sapRemap : (s.withFab x).sapRemap = s.sapRemap := by cases s; rfl
@[simp] theorem withFab_sapMasks : (s.withFab x).sapMasks = s.sapMasks := by cases s; rfl
@[simp] theorem withFab_lanes : (s.withFab x).lanes = s.lanes := by cases s; rfl
@[simp] theorem withFab_senseBad : (s.withFab x).senseBad = s.senseBad := by cases s; rfl
@[simp] theorem withFab_auxBits : (s.withFab x).auxBits = s.auxBits := by cases s; rfl
@[simp] theorem withFab_net : (s.withFab x).net = s.net := by cases s; rfl
@[simp] theorem withFab_stager : (s.withFab x).stager = s.stager := by cases s; rfl
@[simp] theorem withFab_mir : (s.withFab x).mir = s.mir := by cases s; rfl
@[simp] theorem withFab_ref : (s.withFab x).ref = s.ref := by cases s; rfl
@[simp] theorem withFab_tbs : (s.withFab x).tbs = s.tbs := by cases s; rfl
@[simp] theorem withFab_ptps : (s.withFab x).ptps = s.ptps := by cases s; rfl
@[simp] theorem withFab_pulses : (s.withFab x).pulses = s.pulses := by cases s; rfl
@[simp] theorem withFab_capts : (s.withFab x).capts = s.capts := by cases s; rfl
@[simp] theorem withFab_capLatch : (s.withFab x).capLatch = s.capLatch := by cases s; rfl
@[simp] theorem withFab_fab : (s.withFab x).fab = x := by cases s; rfl
@[simp] theorem withFab_chains : (s.withFab x).chains = s.chains := by cases s; rfl
@[simp] theorem withFab_fb : (s.withFab x).fb = s.fb := by cases s; rfl
@[simp] theorem withFab_sec : (s.withFab x).sec = s.sec := by cases s; rfl
@[simp] theorem withFab_boot : (s.withFab x).boot = s.boot := by cases s; rfl
@[simp] theorem withFab_mch : (s.withFab x).mch = s.mch := by cases s; rfl
@[simp] theorem withFab_mf : (s.withFab x).mf = s.mf := by cases s; rfl
end

section
variable (x : SMap ChainSt) (s : State)
@[simp] theorem withChains_pending : (s.withChains x).pending = s.pending := by cases s; rfl
@[simp] theorem withChains_free : (s.withChains x).free = s.free := by cases s; rfl
@[simp] theorem withChains_tim : (s.withChains x).tim = s.tim := by cases s; rfl
@[simp] theorem withChains_regs : (s.withChains x).regs = s.regs := by cases s; rfl
@[simp] theorem withChains_latch : (s.withChains x).latch = s.latch := by cases s; rfl
@[simp] theorem withChains_mem : (s.withChains x).mem = s.mem := by cases s; rfl
@[simp] theorem withChains_marks : (s.withChains x).marks = s.marks := by cases s; rfl
@[simp] theorem withChains_groups : (s.withChains x).groups = s.groups := by cases s; rfl
@[simp] theorem withChains_nibs : (s.withChains x).nibs = s.nibs := by cases s; rfl
@[simp] theorem withChains_slate : (s.withChains x).slate = s.slate := by cases s; rfl
@[simp] theorem withChains_rul : (s.withChains x).rul = s.rul := by cases s; rfl
@[simp] theorem withChains_inkPrev : (s.withChains x).inkPrev = s.inkPrev := by cases s; rfl
@[simp] theorem withChains_brus : (s.withChains x).brus = s.brus := by cases s; rfl
@[simp] theorem withChains_bruLive : (s.withChains x).bruLive = s.bruLive := by cases s; rfl
@[simp] theorem withChains_doms : (s.withChains x).doms = s.doms := by cases s; rfl
@[simp] theorem withChains_saps : (s.withChains x).saps = s.saps := by cases s; rfl
@[simp] theorem withChains_sapHeld : (s.withChains x).sapHeld = s.sapHeld := by cases s; rfl
@[simp] theorem withChains_sapRemap : (s.withChains x).sapRemap = s.sapRemap := by cases s; rfl
@[simp] theorem withChains_sapMasks : (s.withChains x).sapMasks = s.sapMasks := by cases s; rfl
@[simp] theorem withChains_lanes : (s.withChains x).lanes = s.lanes := by cases s; rfl
@[simp] theorem withChains_senseBad : (s.withChains x).senseBad = s.senseBad := by cases s; rfl
@[simp] theorem withChains_auxBits : (s.withChains x).auxBits = s.auxBits := by cases s; rfl
@[simp] theorem withChains_net : (s.withChains x).net = s.net := by cases s; rfl
@[simp] theorem withChains_stager : (s.withChains x).stager = s.stager := by cases s; rfl
@[simp] theorem withChains_mir : (s.withChains x).mir = s.mir := by cases s; rfl
@[simp] theorem withChains_ref : (s.withChains x).ref = s.ref := by cases s; rfl
@[simp] theorem withChains_tbs : (s.withChains x).tbs = s.tbs := by cases s; rfl
@[simp] theorem withChains_ptps : (s.withChains x).ptps = s.ptps := by cases s; rfl
@[simp] theorem withChains_pulses : (s.withChains x).pulses = s.pulses := by cases s; rfl
@[simp] theorem withChains_capts : (s.withChains x).capts = s.capts := by cases s; rfl
@[simp] theorem withChains_capLatch : (s.withChains x).capLatch = s.capLatch := by cases s; rfl
@[simp] theorem withChains_fab : (s.withChains x).fab = s.fab := by cases s; rfl
@[simp] theorem withChains_chains : (s.withChains x).chains = x := by cases s; rfl
@[simp] theorem withChains_fb : (s.withChains x).fb = s.fb := by cases s; rfl
@[simp] theorem withChains_sec : (s.withChains x).sec = s.sec := by cases s; rfl
@[simp] theorem withChains_boot : (s.withChains x).boot = s.boot := by cases s; rfl
@[simp] theorem withChains_mch : (s.withChains x).mch = s.mch := by cases s; rfl
@[simp] theorem withChains_mf : (s.withChains x).mf = s.mf := by cases s; rfl
end

section
variable (x : Fb) (s : State)
@[simp] theorem withFb_pending : (s.withFb x).pending = s.pending := by cases s; rfl
@[simp] theorem withFb_free : (s.withFb x).free = s.free := by cases s; rfl
@[simp] theorem withFb_tim : (s.withFb x).tim = s.tim := by cases s; rfl
@[simp] theorem withFb_regs : (s.withFb x).regs = s.regs := by cases s; rfl
@[simp] theorem withFb_latch : (s.withFb x).latch = s.latch := by cases s; rfl
@[simp] theorem withFb_mem : (s.withFb x).mem = s.mem := by cases s; rfl
@[simp] theorem withFb_marks : (s.withFb x).marks = s.marks := by cases s; rfl
@[simp] theorem withFb_groups : (s.withFb x).groups = s.groups := by cases s; rfl
@[simp] theorem withFb_nibs : (s.withFb x).nibs = s.nibs := by cases s; rfl
@[simp] theorem withFb_slate : (s.withFb x).slate = s.slate := by cases s; rfl
@[simp] theorem withFb_rul : (s.withFb x).rul = s.rul := by cases s; rfl
@[simp] theorem withFb_inkPrev : (s.withFb x).inkPrev = s.inkPrev := by cases s; rfl
@[simp] theorem withFb_brus : (s.withFb x).brus = s.brus := by cases s; rfl
@[simp] theorem withFb_bruLive : (s.withFb x).bruLive = s.bruLive := by cases s; rfl
@[simp] theorem withFb_doms : (s.withFb x).doms = s.doms := by cases s; rfl
@[simp] theorem withFb_saps : (s.withFb x).saps = s.saps := by cases s; rfl
@[simp] theorem withFb_sapHeld : (s.withFb x).sapHeld = s.sapHeld := by cases s; rfl
@[simp] theorem withFb_sapRemap : (s.withFb x).sapRemap = s.sapRemap := by cases s; rfl
@[simp] theorem withFb_sapMasks : (s.withFb x).sapMasks = s.sapMasks := by cases s; rfl
@[simp] theorem withFb_lanes : (s.withFb x).lanes = s.lanes := by cases s; rfl
@[simp] theorem withFb_senseBad : (s.withFb x).senseBad = s.senseBad := by cases s; rfl
@[simp] theorem withFb_auxBits : (s.withFb x).auxBits = s.auxBits := by cases s; rfl
@[simp] theorem withFb_net : (s.withFb x).net = s.net := by cases s; rfl
@[simp] theorem withFb_stager : (s.withFb x).stager = s.stager := by cases s; rfl
@[simp] theorem withFb_mir : (s.withFb x).mir = s.mir := by cases s; rfl
@[simp] theorem withFb_ref : (s.withFb x).ref = s.ref := by cases s; rfl
@[simp] theorem withFb_tbs : (s.withFb x).tbs = s.tbs := by cases s; rfl
@[simp] theorem withFb_ptps : (s.withFb x).ptps = s.ptps := by cases s; rfl
@[simp] theorem withFb_pulses : (s.withFb x).pulses = s.pulses := by cases s; rfl
@[simp] theorem withFb_capts : (s.withFb x).capts = s.capts := by cases s; rfl
@[simp] theorem withFb_capLatch : (s.withFb x).capLatch = s.capLatch := by cases s; rfl
@[simp] theorem withFb_fab : (s.withFb x).fab = s.fab := by cases s; rfl
@[simp] theorem withFb_chains : (s.withFb x).chains = s.chains := by cases s; rfl
@[simp] theorem withFb_fb : (s.withFb x).fb = x := by cases s; rfl
@[simp] theorem withFb_sec : (s.withFb x).sec = s.sec := by cases s; rfl
@[simp] theorem withFb_boot : (s.withFb x).boot = s.boot := by cases s; rfl
@[simp] theorem withFb_mch : (s.withFb x).mch = s.mch := by cases s; rfl
@[simp] theorem withFb_mf : (s.withFb x).mf = s.mf := by cases s; rfl
end

section
variable (x : Sec) (s : State)
@[simp] theorem withSec_pending : (s.withSec x).pending = s.pending := by cases s; rfl
@[simp] theorem withSec_free : (s.withSec x).free = s.free := by cases s; rfl
@[simp] theorem withSec_tim : (s.withSec x).tim = s.tim := by cases s; rfl
@[simp] theorem withSec_regs : (s.withSec x).regs = s.regs := by cases s; rfl
@[simp] theorem withSec_latch : (s.withSec x).latch = s.latch := by cases s; rfl
@[simp] theorem withSec_mem : (s.withSec x).mem = s.mem := by cases s; rfl
@[simp] theorem withSec_marks : (s.withSec x).marks = s.marks := by cases s; rfl
@[simp] theorem withSec_groups : (s.withSec x).groups = s.groups := by cases s; rfl
@[simp] theorem withSec_nibs : (s.withSec x).nibs = s.nibs := by cases s; rfl
@[simp] theorem withSec_slate : (s.withSec x).slate = s.slate := by cases s; rfl
@[simp] theorem withSec_rul : (s.withSec x).rul = s.rul := by cases s; rfl
@[simp] theorem withSec_inkPrev : (s.withSec x).inkPrev = s.inkPrev := by cases s; rfl
@[simp] theorem withSec_brus : (s.withSec x).brus = s.brus := by cases s; rfl
@[simp] theorem withSec_bruLive : (s.withSec x).bruLive = s.bruLive := by cases s; rfl
@[simp] theorem withSec_doms : (s.withSec x).doms = s.doms := by cases s; rfl
@[simp] theorem withSec_saps : (s.withSec x).saps = s.saps := by cases s; rfl
@[simp] theorem withSec_sapHeld : (s.withSec x).sapHeld = s.sapHeld := by cases s; rfl
@[simp] theorem withSec_sapRemap : (s.withSec x).sapRemap = s.sapRemap := by cases s; rfl
@[simp] theorem withSec_sapMasks : (s.withSec x).sapMasks = s.sapMasks := by cases s; rfl
@[simp] theorem withSec_lanes : (s.withSec x).lanes = s.lanes := by cases s; rfl
@[simp] theorem withSec_senseBad : (s.withSec x).senseBad = s.senseBad := by cases s; rfl
@[simp] theorem withSec_auxBits : (s.withSec x).auxBits = s.auxBits := by cases s; rfl
@[simp] theorem withSec_net : (s.withSec x).net = s.net := by cases s; rfl
@[simp] theorem withSec_stager : (s.withSec x).stager = s.stager := by cases s; rfl
@[simp] theorem withSec_mir : (s.withSec x).mir = s.mir := by cases s; rfl
@[simp] theorem withSec_ref : (s.withSec x).ref = s.ref := by cases s; rfl
@[simp] theorem withSec_tbs : (s.withSec x).tbs = s.tbs := by cases s; rfl
@[simp] theorem withSec_ptps : (s.withSec x).ptps = s.ptps := by cases s; rfl
@[simp] theorem withSec_pulses : (s.withSec x).pulses = s.pulses := by cases s; rfl
@[simp] theorem withSec_capts : (s.withSec x).capts = s.capts := by cases s; rfl
@[simp] theorem withSec_capLatch : (s.withSec x).capLatch = s.capLatch := by cases s; rfl
@[simp] theorem withSec_fab : (s.withSec x).fab = s.fab := by cases s; rfl
@[simp] theorem withSec_chains : (s.withSec x).chains = s.chains := by cases s; rfl
@[simp] theorem withSec_fb : (s.withSec x).fb = s.fb := by cases s; rfl
@[simp] theorem withSec_sec : (s.withSec x).sec = x := by cases s; rfl
@[simp] theorem withSec_boot : (s.withSec x).boot = s.boot := by cases s; rfl
@[simp] theorem withSec_mch : (s.withSec x).mch = s.mch := by cases s; rfl
@[simp] theorem withSec_mf : (s.withSec x).mf = s.mf := by cases s; rfl
end

section
variable (x : Boot) (s : State)
@[simp] theorem withBoot_pending : (s.withBoot x).pending = s.pending := by cases s; rfl
@[simp] theorem withBoot_free : (s.withBoot x).free = s.free := by cases s; rfl
@[simp] theorem withBoot_tim : (s.withBoot x).tim = s.tim := by cases s; rfl
@[simp] theorem withBoot_regs : (s.withBoot x).regs = s.regs := by cases s; rfl
@[simp] theorem withBoot_latch : (s.withBoot x).latch = s.latch := by cases s; rfl
@[simp] theorem withBoot_mem : (s.withBoot x).mem = s.mem := by cases s; rfl
@[simp] theorem withBoot_marks : (s.withBoot x).marks = s.marks := by cases s; rfl
@[simp] theorem withBoot_groups : (s.withBoot x).groups = s.groups := by cases s; rfl
@[simp] theorem withBoot_nibs : (s.withBoot x).nibs = s.nibs := by cases s; rfl
@[simp] theorem withBoot_slate : (s.withBoot x).slate = s.slate := by cases s; rfl
@[simp] theorem withBoot_rul : (s.withBoot x).rul = s.rul := by cases s; rfl
@[simp] theorem withBoot_inkPrev : (s.withBoot x).inkPrev = s.inkPrev := by cases s; rfl
@[simp] theorem withBoot_brus : (s.withBoot x).brus = s.brus := by cases s; rfl
@[simp] theorem withBoot_bruLive : (s.withBoot x).bruLive = s.bruLive := by cases s; rfl
@[simp] theorem withBoot_doms : (s.withBoot x).doms = s.doms := by cases s; rfl
@[simp] theorem withBoot_saps : (s.withBoot x).saps = s.saps := by cases s; rfl
@[simp] theorem withBoot_sapHeld : (s.withBoot x).sapHeld = s.sapHeld := by cases s; rfl
@[simp] theorem withBoot_sapRemap : (s.withBoot x).sapRemap = s.sapRemap := by cases s; rfl
@[simp] theorem withBoot_sapMasks : (s.withBoot x).sapMasks = s.sapMasks := by cases s; rfl
@[simp] theorem withBoot_lanes : (s.withBoot x).lanes = s.lanes := by cases s; rfl
@[simp] theorem withBoot_senseBad : (s.withBoot x).senseBad = s.senseBad := by cases s; rfl
@[simp] theorem withBoot_auxBits : (s.withBoot x).auxBits = s.auxBits := by cases s; rfl
@[simp] theorem withBoot_net : (s.withBoot x).net = s.net := by cases s; rfl
@[simp] theorem withBoot_stager : (s.withBoot x).stager = s.stager := by cases s; rfl
@[simp] theorem withBoot_mir : (s.withBoot x).mir = s.mir := by cases s; rfl
@[simp] theorem withBoot_ref : (s.withBoot x).ref = s.ref := by cases s; rfl
@[simp] theorem withBoot_tbs : (s.withBoot x).tbs = s.tbs := by cases s; rfl
@[simp] theorem withBoot_ptps : (s.withBoot x).ptps = s.ptps := by cases s; rfl
@[simp] theorem withBoot_pulses : (s.withBoot x).pulses = s.pulses := by cases s; rfl
@[simp] theorem withBoot_capts : (s.withBoot x).capts = s.capts := by cases s; rfl
@[simp] theorem withBoot_capLatch : (s.withBoot x).capLatch = s.capLatch := by cases s; rfl
@[simp] theorem withBoot_fab : (s.withBoot x).fab = s.fab := by cases s; rfl
@[simp] theorem withBoot_chains : (s.withBoot x).chains = s.chains := by cases s; rfl
@[simp] theorem withBoot_fb : (s.withBoot x).fb = s.fb := by cases s; rfl
@[simp] theorem withBoot_sec : (s.withBoot x).sec = s.sec := by cases s; rfl
@[simp] theorem withBoot_boot : (s.withBoot x).boot = x := by cases s; rfl
@[simp] theorem withBoot_mch : (s.withBoot x).mch = s.mch := by cases s; rfl
@[simp] theorem withBoot_mf : (s.withBoot x).mf = s.mf := by cases s; rfl
end

section
variable (x : Mch) (s : State)
@[simp] theorem withMch_pending : (s.withMch x).pending = s.pending := by cases s; rfl
@[simp] theorem withMch_free : (s.withMch x).free = s.free := by cases s; rfl
@[simp] theorem withMch_tim : (s.withMch x).tim = s.tim := by cases s; rfl
@[simp] theorem withMch_regs : (s.withMch x).regs = s.regs := by cases s; rfl
@[simp] theorem withMch_latch : (s.withMch x).latch = s.latch := by cases s; rfl
@[simp] theorem withMch_mem : (s.withMch x).mem = s.mem := by cases s; rfl
@[simp] theorem withMch_marks : (s.withMch x).marks = s.marks := by cases s; rfl
@[simp] theorem withMch_groups : (s.withMch x).groups = s.groups := by cases s; rfl
@[simp] theorem withMch_nibs : (s.withMch x).nibs = s.nibs := by cases s; rfl
@[simp] theorem withMch_slate : (s.withMch x).slate = s.slate := by cases s; rfl
@[simp] theorem withMch_rul : (s.withMch x).rul = s.rul := by cases s; rfl
@[simp] theorem withMch_inkPrev : (s.withMch x).inkPrev = s.inkPrev := by cases s; rfl
@[simp] theorem withMch_brus : (s.withMch x).brus = s.brus := by cases s; rfl
@[simp] theorem withMch_bruLive : (s.withMch x).bruLive = s.bruLive := by cases s; rfl
@[simp] theorem withMch_doms : (s.withMch x).doms = s.doms := by cases s; rfl
@[simp] theorem withMch_saps : (s.withMch x).saps = s.saps := by cases s; rfl
@[simp] theorem withMch_sapHeld : (s.withMch x).sapHeld = s.sapHeld := by cases s; rfl
@[simp] theorem withMch_sapRemap : (s.withMch x).sapRemap = s.sapRemap := by cases s; rfl
@[simp] theorem withMch_sapMasks : (s.withMch x).sapMasks = s.sapMasks := by cases s; rfl
@[simp] theorem withMch_lanes : (s.withMch x).lanes = s.lanes := by cases s; rfl
@[simp] theorem withMch_senseBad : (s.withMch x).senseBad = s.senseBad := by cases s; rfl
@[simp] theorem withMch_auxBits : (s.withMch x).auxBits = s.auxBits := by cases s; rfl
@[simp] theorem withMch_net : (s.withMch x).net = s.net := by cases s; rfl
@[simp] theorem withMch_stager : (s.withMch x).stager = s.stager := by cases s; rfl
@[simp] theorem withMch_mir : (s.withMch x).mir = s.mir := by cases s; rfl
@[simp] theorem withMch_ref : (s.withMch x).ref = s.ref := by cases s; rfl
@[simp] theorem withMch_tbs : (s.withMch x).tbs = s.tbs := by cases s; rfl
@[simp] theorem withMch_ptps : (s.withMch x).ptps = s.ptps := by cases s; rfl
@[simp] theorem withMch_pulses : (s.withMch x).pulses = s.pulses := by cases s; rfl
@[simp] theorem withMch_capts : (s.withMch x).capts = s.capts := by cases s; rfl
@[simp] theorem withMch_capLatch : (s.withMch x).capLatch = s.capLatch := by cases s; rfl
@[simp] theorem withMch_fab : (s.withMch x).fab = s.fab := by cases s; rfl
@[simp] theorem withMch_chains : (s.withMch x).chains = s.chains := by cases s; rfl
@[simp] theorem withMch_fb : (s.withMch x).fb = s.fb := by cases s; rfl
@[simp] theorem withMch_sec : (s.withMch x).sec = s.sec := by cases s; rfl
@[simp] theorem withMch_boot : (s.withMch x).boot = s.boot := by cases s; rfl
@[simp] theorem withMch_mch : (s.withMch x).mch = x := by cases s; rfl
@[simp] theorem withMch_mf : (s.withMch x).mf = s.mf := by cases s; rfl
end

section
variable (x : Mf) (s : State)
@[simp] theorem withMf_pending : (s.withMf x).pending = s.pending := by cases s; rfl
@[simp] theorem withMf_free : (s.withMf x).free = s.free := by cases s; rfl
@[simp] theorem withMf_tim : (s.withMf x).tim = s.tim := by cases s; rfl
@[simp] theorem withMf_regs : (s.withMf x).regs = s.regs := by cases s; rfl
@[simp] theorem withMf_latch : (s.withMf x).latch = s.latch := by cases s; rfl
@[simp] theorem withMf_mem : (s.withMf x).mem = s.mem := by cases s; rfl
@[simp] theorem withMf_marks : (s.withMf x).marks = s.marks := by cases s; rfl
@[simp] theorem withMf_groups : (s.withMf x).groups = s.groups := by cases s; rfl
@[simp] theorem withMf_nibs : (s.withMf x).nibs = s.nibs := by cases s; rfl
@[simp] theorem withMf_slate : (s.withMf x).slate = s.slate := by cases s; rfl
@[simp] theorem withMf_rul : (s.withMf x).rul = s.rul := by cases s; rfl
@[simp] theorem withMf_inkPrev : (s.withMf x).inkPrev = s.inkPrev := by cases s; rfl
@[simp] theorem withMf_brus : (s.withMf x).brus = s.brus := by cases s; rfl
@[simp] theorem withMf_bruLive : (s.withMf x).bruLive = s.bruLive := by cases s; rfl
@[simp] theorem withMf_doms : (s.withMf x).doms = s.doms := by cases s; rfl
@[simp] theorem withMf_saps : (s.withMf x).saps = s.saps := by cases s; rfl
@[simp] theorem withMf_sapHeld : (s.withMf x).sapHeld = s.sapHeld := by cases s; rfl
@[simp] theorem withMf_sapRemap : (s.withMf x).sapRemap = s.sapRemap := by cases s; rfl
@[simp] theorem withMf_sapMasks : (s.withMf x).sapMasks = s.sapMasks := by cases s; rfl
@[simp] theorem withMf_lanes : (s.withMf x).lanes = s.lanes := by cases s; rfl
@[simp] theorem withMf_senseBad : (s.withMf x).senseBad = s.senseBad := by cases s; rfl
@[simp] theorem withMf_auxBits : (s.withMf x).auxBits = s.auxBits := by cases s; rfl
@[simp] theorem withMf_net : (s.withMf x).net = s.net := by cases s; rfl
@[simp] theorem withMf_stager : (s.withMf x).stager = s.stager := by cases s; rfl
@[simp] theorem withMf_mir : (s.withMf x).mir = s.mir := by cases s; rfl
@[simp] theorem withMf_ref : (s.withMf x).ref = s.ref := by cases s; rfl
@[simp] theorem withMf_tbs : (s.withMf x).tbs = s.tbs := by cases s; rfl
@[simp] theorem withMf_ptps : (s.withMf x).ptps = s.ptps := by cases s; rfl
@[simp] theorem withMf_pulses : (s.withMf x).pulses = s.pulses := by cases s; rfl
@[simp] theorem withMf_capts : (s.withMf x).capts = s.capts := by cases s; rfl
@[simp] theorem withMf_capLatch : (s.withMf x).capLatch = s.capLatch := by cases s; rfl
@[simp] theorem withMf_fab : (s.withMf x).fab = s.fab := by cases s; rfl
@[simp] theorem withMf_chains : (s.withMf x).chains = s.chains := by cases s; rfl
@[simp] theorem withMf_fb : (s.withMf x).fb = s.fb := by cases s; rfl
@[simp] theorem withMf_sec : (s.withMf x).sec = s.sec := by cases s; rfl
@[simp] theorem withMf_boot : (s.withMf x).boot = s.boot := by cases s; rfl
@[simp] theorem withMf_mch : (s.withMf x).mch = s.mch := by cases s; rfl
@[simp] theorem withMf_mf : (s.withMf x).mf = x := by cases s; rfl
end

end Sys2Proof.Machine.State
end

