-- ==== Sys2Proof/Laws/Store.lean ====
section
/-! SUPPORT. The laws of the sparse store: a read after a write gives the value written, a write leaves every other
key alone, and every operation keeps the canonical form. -/

namespace Sys2Proof.SMap

variable {α : Type}

@[simp] theorem get_nil (d : Nat → α) (k : Nat) : get d [] k = d k := rfl

theorem get_erase_same (d : Nat → α) (m : SMap α) (k : Nat) : get d (erase m k) k = d k := by
  induction m with
  | nil => rfl
  | cons e m ih => by_cases h : k = e.1 <;> simp_all [erase, get]

theorem get_erase_ne (d : Nat → α) (m : SMap α) {k j : Nat} (h : j ≠ k) : get d (erase m k) j = get d m j := by
  induction m with
  | nil => rfl
  | cons e m ih =>
    by_cases hk : k = e.1
    · subst hk; simp [erase, get, h, ih]
    · simp [erase, get, hk, ih]

theorem get_insert_same (d : Nat → α) (m : SMap α) (k : Nat) (v : α) : get d (insert m k v) k = v := by
  induction m with
  | nil => simp [insert, get]
  | cons e m ih =>
    by_cases hl : k < e.1
    · simp [insert, get, hl]
    · by_cases hk : k = e.1 <;> simp [insert, get, hl, hk, ih]

theorem get_insert_ne (d : Nat → α) (m : SMap α) (v : α) {k j : Nat} (h : j ≠ k) :
    get d (insert m k v) j = get d m j := by
  induction m with
  | nil => simp [insert, get, h]
  | cons e m ih =>
    by_cases hl : k < e.1
    · simp [insert, get, hl, h]
    · by_cases hk : k = e.1
      · subst hk; simp [insert, get, h]
      · simp [insert, get, hl, hk, ih]

/-- A read after a write of the same key gives the value written. -/
@[simp] theorem get_set_same [DecidableEq α] (d : Nat → α) (m : SMap α) (k : Nat) (v : α) :
    get d (set d m k v) k = v := by
  unfold set
  split
  · rw [get_erase_same]; exact Eq.symm ‹_›
  · exact get_insert_same ..

/-- A write leaves every other key alone. -/
theorem get_set_ne [DecidableEq α] (d : Nat → α) (m : SMap α) (v : α) {k j : Nat} (h : j ≠ k) :
    get d (set d m k v) j = get d m j := by
  unfold set
  split
  · exact get_erase_ne d m h
  · exact get_insert_ne d m v h

/-- Both together. -/
theorem get_set [DecidableEq α] (d : Nat → α) (m : SMap α) (k j : Nat) (v : α) :
    get d (set d m k v) j = if j = k then v else get d m j := by
  by_cases h : j = k
  · subst h; simp
  · simp [h, get_set_ne d m v h]

/-- A cleared range reads as the default; every other key is left alone. -/
theorem get_clear (d : Nat → α) (m : SMap α) (lo hi k : Nat) :
    get d (clear lo hi m) k = if lo ≤ k ∧ k < hi then d k else get d m k := by
  induction m with
  | nil => simp [clear]
  | cons e m ih =>
    have step : clear lo hi (e :: m) = if lo ≤ e.1 ∧ e.1 < hi then clear lo hi m else e :: clear lo hi m := by
      simp only [clear, List.filter_cons]
      by_cases hr : lo ≤ e.1 ∧ e.1 < hi
      · simp [hr]
      · rw [if_neg hr, if_pos]; simp; omega
    rw [step]
    by_cases hr : lo ≤ e.1 ∧ e.1 < hi
    · rw [if_pos hr, ih]
      by_cases hk : k = e.1
      · subst hk; simp [hr]
      · simp [get, hk]
    · rw [if_neg hr]
      by_cases hk : k = e.1
      · subst hk; simp [hr, get]
      · simp [get, hk, ih]

/-! ### The canonical form -/

theorem rising_weaken {m : SMap α} {b : Nat} (h : rising (some b) m = true) : rising none m = true := by
  cases m with
  | nil => rfl
  | cons e m => simp_all [rising]

theorem rising_mono {m : SMap α} {b c : Nat} (hc : c ≤ b) (h : rising (some b) m = true) : rising (some c) m = true := by
  cases m with
  | nil => rfl
  | cons e m => simp only [rising, Bool.and_eq_true, decide_eq_true_eq] at h ⊢; exact ⟨by omega, h.2⟩

theorem rising_erase (k : Nat) (m : SMap α) (b : Option Nat) (h : rising b m = true) : rising b (erase m k) = true := by
  induction m generalizing b with
  | nil => exact h
  | cons e m ih =>
    simp only [erase]
    split
    · cases b with
      | none => exact ih none (rising_weaken h)
      | some b =>
        simp only [rising, Bool.and_eq_true, decide_eq_true_eq] at h
        exact ih (some b) (rising_mono (by omega) h.2)
    · cases b with
      | none => exact ih (some e.1) h
      | some b =>
        simp only [rising, Bool.and_eq_true] at h ⊢
        exact ⟨h.1, ih (some e.1) h.2⟩

theorem rising_insert (k : Nat) (v : α) (m : SMap α) (b : Option Nat) (hb : ∀ c, b = some c → c < k)
    (h : rising b m = true) : rising b (insert m k v) = true := by
  induction m generalizing b with
  | nil => cases b <;> simp_all [insert, rising]
  | cons e m ih =>
    simp only [insert]
    split
    · cases b <;> simp_all [rising]
    · split
      · cases b <;> simp_all [rising]
      · cases b with
        | none => exact ih (some e.1) (by intro c hc; cases hc; omega) h
        | some b =>
          simp only [rising, Bool.and_eq_true] at h ⊢
          exact ⟨h.1, ih (some e.1) (by intro c hc; cases hc; omega) h.2⟩

theorem rising_filter (p : Nat × α → Bool) (m : SMap α) (b : Option Nat) (h : rising b m = true) :
    rising b (m.filter p) = true := by
  induction m generalizing b with
  | nil => exact h
  | cons e m ih =>
    simp only [List.filter_cons]
    split
    · cases b with
      | none => exact ih (some e.1) h
      | some b =>
        simp only [rising, Bool.and_eq_true] at h ⊢
        exact ⟨h.1, ih (some e.1) h.2⟩
    · cases b with
      | none => exact ih none (rising_weaken h)
      | some b =>
        simp only [rising, Bool.and_eq_true, decide_eq_true_eq] at h
        exact ih (some b) (rising_mono (by omega) h.2)

theorem lean_iff [DecidableEq α] (d : Nat → α) (m : SMap α) : lean d m = true ↔ ∀ e ∈ m, e.2 ≠ d e.1 := by
  induction m with
  | nil => simp [lean]
  | cons e m ih => simp [lean, ih]

theorem mem_erase {m : SMap α} {k : Nat} {e : Nat × α} (h : e ∈ erase m k) : e ∈ m := by
  induction m with
  | nil => exact h
  | cons f m ih =>
    simp only [erase] at h
    split at h
    · exact List.mem_cons_of_mem _ (ih h)
    · rcases List.mem_cons.mp h with h | h
      · exact h ▸ List.mem_cons_self
      · exact List.mem_cons_of_mem _ (ih h)

theorem mem_insert {m : SMap α} {k : Nat} {v : α} {e : Nat × α} (h : e ∈ insert m k v) : e = (k, v) ∨ e ∈ m := by
  induction m with
  | nil => simpa [insert] using h
  | cons f m ih =>
    simp only [insert] at h
    split at h
    · simpa using h
    · split at h
      · rcases List.mem_cons.mp h with h | h
        · exact .inl h
        · exact .inr (List.mem_cons_of_mem _ h)
      · rcases List.mem_cons.mp h with h | h
        · exact .inr (h ▸ List.mem_cons_self)
        · exact (ih h).imp id (List.mem_cons_of_mem _)

/-- A write keeps the canonical form. -/
theorem wf_set [DecidableEq α] (d : Nat → α) (m : SMap α) (k : Nat) (v : α) (h : wf d m = true) :
    wf d (set d m k v) = true := by
  simp only [wf, Bool.and_eq_true, lean_iff] at h ⊢
  unfold set
  split
  · exact ⟨rising_erase k m none h.1, fun e he => h.2 e (mem_erase he)⟩
  · refine ⟨rising_insert k v m none (by simp) h.1, fun e he => ?_⟩
    rcases mem_insert he with rfl | he
    · assumption
    · exact h.2 e he

/-- Clearing a range keeps the canonical form. -/
theorem wf_clear [DecidableEq α] (d : Nat → α) (lo hi : Nat) (m : SMap α) (h : wf d m = true) :
    wf d (clear lo hi m) = true := by
  simp only [wf, Bool.and_eq_true, lean_iff, clear] at h ⊢
  exact ⟨rising_filter _ m none h.1, fun e he => h.2 e ((List.mem_filter.mp he).1)⟩

end Sys2Proof.SMap
end

