-- ==== Sys2Proof/Laws/KeepOps.lean ====
section
/-! SUPPORT. Every operation of the registers, SRAM, slate and rulings keeps memory in its canonical form. -/

namespace Sys2Proof.Machine

/-! ### Machine/Ops.lean -/

/-- The memory of a state is in its canonical form. -/
def State.memOk (s : State) : Prop := Memory.wf s.mem = true

/-- The memory of the state beside a result is. -/
def okSnd {α : Type} (p : α × State) : Prop := p.2.memOk

@[simp] theorem okSnd_mk {α : Type} (a : α) (s : State) : okSnd (a, s) ↔ s.memOk := Iff.rfl

@[simp] theorem snd_ok {α : Type} (p : α × State) (h : okSnd p) : p.2.memOk := h

theorem okSnd_eq {α : Type} {p : α × State} {a : α} {s : State} (e : p = (a, s)) (h : okSnd p) : s.memOk := by
  subst e; exact h

theorem State.memOk_of_mem {s t : State} (e : t.mem = s.mem) (h : s.memOk) : t.memOk := by
  unfold State.memOk; rw [e]; exact h

@[simp] theorem ite_ok (c : Prop) [Decidable c] (s t : State) (hs : s.memOk) (ht : t.memOk) :
    (if c then s else t).memOk := by
  split <;> assumption

@[simp] theorem ite_okSnd {α : Type} (c : Prop) [Decidable c] (p q : α × State) (hp : okSnd p) (hq : okSnd q) :
    okSnd (if c then p else q) := by
  split <;> assumption

/-- Repeating an operation that keeps the form keeps it. -/
@[simp] theorem each_ok {α : Type} (l : List α) (f : α → State → State) (s : State)
    (h : ∀ k s, s.memOk → (f k s).memOk) (ok : s.memOk) : (each l f s).memOk := by
  unfold each
  induction l generalizing s with
  | nil => exact ok
  | cons a l ih => exact ih _ (h _ _ ok)

@[simp] theorem foldl_ok {α : Type} (l : List α) (f : State → α → State) (s : State)
    (h : ∀ s k, s.memOk → (f s k).memOk) (ok : s.memOk) : (l.foldl f s).memOk := by
  induction l generalizing s with
  | nil => exact ok
  | cons a l ih => exact ih _ (h _ _ ok)

@[simp] theorem foldl_okSnd {α β : Type} (l : List α) (f : β × State → α → β × State) (p : β × State)
    (h : ∀ p k, okSnd p → okSnd (f p k)) (ok : okSnd p) : okSnd (l.foldl f p) := by
  induction l generalizing p with
  | nil => exact ok
  | cons a l ih => exact ih _ (h _ _ ok)

@[simp] theorem when_ok (b : Bool) (f : State → State) (s : State) (h : ∀ s, s.memOk → (f s).memOk) (ok : s.memOk) :
    (when b f s).memOk := by
  unfold when; split <;> simp (maxDischargeDepth := 40) [h, ok]

section
variable (s : State) (ok : s.memOk)
include ok
@[simp] theorem State.withPending_ok (x : List Instr) : (s.withPending x).memOk := State.memOk_of_mem (State.withPending_mem x s) ok
@[simp] theorem State.withFree_ok (x : Nat) : (s.withFree x).memOk := State.memOk_of_mem (State.withFree_mem x s) ok
@[simp] theorem State.withTim_ok (x : Timer) : (s.withTim x).memOk := State.memOk_of_mem (State.withTim_mem x s) ok
@[simp] theorem State.withRegs_ok (x : SMap Word) : (s.withRegs x).memOk := State.memOk_of_mem (State.withRegs_mem x s) ok
@[simp] theorem State.withLatch_ok (x : SMap (List Word)) : (s.withLatch x).memOk := State.memOk_of_mem (State.withLatch_mem x s) ok
@[simp] theorem State.withMarks_ok (x : SMap Mark) : (s.withMarks x).memOk := State.memOk_of_mem (State.withMarks_mem x s) ok
@[simp] theorem State.withGroups_ok (x : SMap MemGroup) : (s.withGroups x).memOk := State.memOk_of_mem (State.withGroups_mem x s) ok
@[simp] theorem State.withNibs_ok (x : SMap Nib) : (s.withNibs x).memOk := State.memOk_of_mem (State.withNibs_mem x s) ok
@[simp] theorem State.withSlate_ok (x : SMap SlotCopy) : (s.withSlate x).memOk := State.memOk_of_mem (State.withSlate_mem x s) ok
@[simp] theorem State.withRul_ok (x : Rul) : (s.withRul x).memOk := State.memOk_of_mem (State.withRul_mem x s) ok
@[simp] theorem State.withInkPrev_ok (x : SMap Word) : (s.withInkPrev x).memOk := State.memOk_of_mem (State.withInkPrev_mem x s) ok
@[simp] theorem State.withBrus_ok (x : SMap Bru) : (s.withBrus x).memOk := State.memOk_of_mem (State.withBrus_mem x s) ok
@[simp] theorem State.withBruLive_ok (x : List Nat) : (s.withBruLive x).memOk := State.memOk_of_mem (State.withBruLive_mem x s) ok
@[simp] theorem State.withDoms_ok (x : SMap Dom) : (s.withDoms x).memOk := State.memOk_of_mem (State.withDoms_mem x s) ok
@[simp] theorem State.withSaps_ok (x : SMap Sap) : (s.withSaps x).memOk := State.memOk_of_mem (State.withSaps_mem x s) ok
@[simp] theorem State.withSapHeld_ok (x : List Nat) : (s.withSapHeld x).memOk := State.memOk_of_mem (State.withSapHeld_mem x s) ok
@[simp] theorem State.withSapRemap_ok (x : Bool) : (s.withSapRemap x).memOk := State.memOk_of_mem (State.withSapRemap_mem x s) ok
@[simp] theorem State.withSapMasks_ok (x : SMap Word) : (s.withSapMasks x).memOk := State.memOk_of_mem (State.withSapMasks_mem x s) ok
@[simp] theorem State.withLanes_ok (x : SMap Lane) : (s.withLanes x).memOk := State.memOk_of_mem (State.withLanes_mem x s) ok
@[simp] theorem State.withSenseBad_ok (x : List Sense) : (s.withSenseBad x).memOk := State.memOk_of_mem (State.withSenseBad_mem x s) ok
@[simp] theorem State.withNet_ok (x : Net) : (s.withNet x).memOk := State.memOk_of_mem (State.withNet_mem x s) ok
@[simp] theorem State.withStager_ok (x : Stager) : (s.withStager x).memOk := State.memOk_of_mem (State.withStager_mem x s) ok
@[simp] theorem State.withMir_ok (x : Mir) : (s.withMir x).memOk := State.memOk_of_mem (State.withMir_mem x s) ok
@[simp] theorem State.withRef_ok (x : Ref) : (s.withRef x).memOk := State.memOk_of_mem (State.withRef_mem x s) ok
@[simp] theorem State.withTbs_ok (x : SMap TimeBase) : (s.withTbs x).memOk := State.memOk_of_mem (State.withTbs_mem x s) ok
@[simp] theorem State.withPtps_ok (x : SMap Ptp) : (s.withPtps x).memOk := State.memOk_of_mem (State.withPtps_mem x s) ok
@[simp] theorem State.withPulses_ok (x : SMap Pulse) : (s.withPulses x).memOk := State.memOk_of_mem (State.withPulses_mem x s) ok
@[simp] theorem State.withCapts_ok (x : SMap Capt) : (s.withCapts x).memOk := State.memOk_of_mem (State.withCapts_mem x s) ok
@[simp] theorem State.withCapLatch_ok (x : SMap (Option CapEntry)) : (s.withCapLatch x).memOk := State.memOk_of_mem (State.withCapLatch_mem x s) ok
@[simp] theorem State.withFab_ok (x : Fab) : (s.withFab x).memOk := State.memOk_of_mem (State.withFab_mem x s) ok
@[simp] theorem State.withChains_ok (x : SMap ChainSt) : (s.withChains x).memOk := State.memOk_of_mem (State.withChains_mem x s) ok
@[simp] theorem State.withFb_ok (x : Fb) : (s.withFb x).memOk := State.memOk_of_mem (State.withFb_mem x s) ok
@[simp] theorem State.withSec_ok (x : Sec) : (s.withSec x).memOk := State.memOk_of_mem (State.withSec_mem x s) ok
@[simp] theorem State.withBoot_ok (x : Boot) : (s.withBoot x).memOk := State.memOk_of_mem (State.withBoot_mem x s) ok
@[simp] theorem State.withMch_ok (x : Mch) : (s.withMch x).memOk := State.memOk_of_mem (State.withMch_mem x s) ok
@[simp] theorem State.withAuxBits_ok (x : SMap (List Bool)) : (s.withAuxBits x).memOk := State.memOk_of_mem (State.withAuxBits_mem x s) ok
@[simp] theorem State.withMf_ok (x : Mf) : (s.withMf x).memOk := State.memOk_of_mem (State.withMf_mem x s) ok
end

@[simp] theorem State.setReg_ok (s : State) (a : Nat) (w : Word) (ok : s.memOk) :
    (State.setReg s a w).memOk := by
  simp (maxDischargeDepth := 40) [State.setReg, ok]

@[simp] theorem State.setFld_ok (s : State) (a : Nat) (f : Fld) (v : Nat) (ok : s.memOk) :
    (State.setFld s a f v).memOk := by
  simp (maxDischargeDepth := 40) [State.setFld, ok]

@[simp] theorem State.setRegBit_ok (s : State) (a : Nat) (i : Nat) (b : Bool) (ok : s.memOk) :
    (State.setRegBit s a i b).memOk := by
  simp (maxDischargeDepth := 40) [State.setRegBit, ok]

@[simp] theorem State.resetRegs_ok (lo hi : Nat) (s : State) (ok : s.memOk) :
    (State.resetRegs lo hi s).memOk := by
  simp (maxDischargeDepth := 40) [State.resetRegs, ok]

@[simp] theorem State.bumpBy_ok (c : Ctr) (n : Nat) (s : State) (ok : s.memOk) :
    (State.bumpBy c n s).memOk := by
  simp (maxDischargeDepth := 40) [State.bumpBy, ok]

@[simp] theorem State.bump_ok (c : Ctr) (s : State) (ok : s.memOk) :
    (State.bump c s).memOk := by
  simp (maxDischargeDepth := 40) [State.bump, ok]

@[simp] theorem State.freshWord_ok (s : State) (ok : s.memOk) :
    okSnd (State.freshWord s) := by
  simp (maxDischargeDepth := 40) [State.freshWord, ok]

@[simp] theorem State.mark_ok (e : Evt) (s : State) (ok : s.memOk) :
    (State.mark e s).memOk := by
  simp (maxDischargeDepth := 40) [State.mark, ok]

@[simp] theorem State.contain_ok (e : Evt) (c : Contain) (s : State) (ok : s.memOk) :
    (State.contain e c s).memOk := by
  simp (maxDischargeDepth := 40) [State.contain, ok]

@[simp] theorem State.decideMode_ok (t : Nat) (s : State) (ok : s.memOk) :
    (State.decideMode t s).memOk := by
  simp (maxDischargeDepth := 40) [State.decideMode, ok]

@[simp] theorem State.setLane_ok (k : Nat) (x : Lane) (s : State) (ok : s.memOk) :
    (State.setLane k x s).memOk := by
  simp (maxDischargeDepth := 40) [State.setLane, ok]

@[simp] theorem State.setLaneState_ok (k st cause : Nat) (rly : Bool) (s : State) (ok : s.memOk) :
    (State.setLaneState k st cause rly s).memOk := by
  simp (maxDischargeDepth := 40) [State.setLaneState, ok]

@[simp] theorem State.lanesOff_ok (s : State) (ok : s.memOk) :
    (State.lanesOff s).memOk := by
  unfold State.lanesOff
  all_goals simp (maxDischargeDepth := 40) +zetaDelta +contextual [*]

@[simp] theorem State.setPulse_ok (k : Nat) (x : Pulse) (s : State) (ok : s.memOk) :
    (State.setPulse k x s).memOk := by
  simp (maxDischargeDepth := 40) [State.setPulse, ok]

@[simp] theorem State.pulDisarm_ok (k : Nat) (s : State) (ok : s.memOk) :
    (State.pulDisarm k s).memOk := by
  simp (maxDischargeDepth := 40) [State.pulDisarm, ok]

@[simp] theorem State.pulsesOff_ok (s : State) (ok : s.memOk) :
    (State.pulsesOff s).memOk := by
  unfold State.pulsesOff
  all_goals simp (maxDischargeDepth := 40) +zetaDelta +contextual [*]

@[simp] theorem State.sealNow_ok (s : State) (ok : s.memOk) :
    (State.sealNow s).memOk := by
  simp (maxDischargeDepth := 40) [State.sealNow, ok]

@[simp] theorem State.grave_ok (e : Evt) (s : State) (ok : s.memOk) :
    (State.grave e s).memOk := by
  simp (maxDischargeDepth := 40) [State.grave, ok]

@[simp] theorem State.setByte_ok (a : Nat) (b : Byte) (s : State) (ok : s.memOk) : (s.setByte a b).memOk := by
  unfold State.memOk State.setByte
  rw [State.withMem_mem]
  exact SMap.wf_set _ _ _ _ ok

@[simp] theorem putBytes_ok (a v n : Nat) (s : State) (ok : s.memOk) : (putBytes a v n s).memOk := by
  induction n generalizing a v s with
  | zero => exact ok
  | succ n ih => exact ih _ _ _ (State.setByte_ok _ _ _ ok)

@[simp] theorem State.setRawWord_ok (a : Nat) (w : Word64) (s : State) (ok : s.memOk) :
    (State.setRawWord a w s).memOk := by
  simp (maxDischargeDepth := 40) [State.setRawWord, ok]

@[simp] theorem State.setMark_ok (a : Nat) (m : Mark) (s : State) (ok : s.memOk) :
    (State.setMark a m s).memOk := by
  simp (maxDischargeDepth := 40) [State.setMark, ok]

@[simp] theorem State.setGroup_ok (g : Nat) (x : MemGroup) (s : State) (ok : s.memOk) :
    (State.setGroup g x s).memOk := by
  simp (maxDischargeDepth := 40) [State.setGroup, ok]

@[simp] theorem State.zeroMem_ok (lo hi : Nat) (s : State) (ok : s.memOk) : (State.zeroMem lo hi s).memOk := by
  have h : ((s.withMem (SMap.clear lo hi s.mem)).withMarks (SMap.clear lo hi s.marks)).memOk := by
    simp only [State.memOk, State.withMarks_mem, State.withMem_mem]
    exact SMap.wf_clear _ _ _ _ ok
  unfold State.zeroMem
  extract_lets t
  split
  · exact h
  · extract_lets a; split
    · simp [t, h]
    · exact h

@[simp] theorem State.dropRecord_ok (g a : Nat) (s : State) (ok : s.memOk) :
    (State.dropRecord g a s).memOk := by
  simp (maxDischargeDepth := 40) [State.dropRecord, ok]

@[simp] theorem State.mirNext_ok (x : Nat) (s : State) (ok : s.memOk) :
    (State.mirNext x s).memOk := by
  simp (maxDischargeDepth := 40) [State.mirNext, ok]

@[simp] theorem State.mirrorCause_ok (s : State) (ok : s.memOk) :
    (State.mirrorCause s).memOk := by
  simp (maxDischargeDepth := 40) [State.mirrorCause, ok]

@[simp] theorem State.mirrorWrote_ok (a : Nat) (x : Word64 × Bool) (s : State) (ok : s.memOk) :
    (State.mirrorWrote a x s).memOk := by
  unfold State.mirrorWrote
  repeat' (first | split | extract_lets _)
  all_goals simp (maxDischargeDepth := 40) +zetaDelta [*]

@[simp] theorem State.freshHook_ok (a : Nat) (s : State) (ok : s.memOk) :
    (State.freshHook a s).memOk := by
  unfold State.freshHook
  repeat' (first | split | extract_lets _)
  all_goals simp (maxDischargeDepth := 40) +zetaDelta [*]

@[simp] theorem State.eccReport_ok (g a : Nat) (row : EccRow) (inj : Bool) (s : State) (ok : s.memOk) :
    (State.eccReport g a row inj s).memOk := by
  unfold State.eccReport
  repeat' (first | split | extract_lets _)
  all_goals simp (maxDischargeDepth := 40) +zetaDelta [*]

@[simp] theorem State.writeBack_ok (a : Nat) (r : MemRes) (s : State) (ok : s.memOk) :
    (State.writeBack a r s).memOk := by
  unfold State.writeBack
  repeat' (first | split | extract_lets _)
  all_goals simp (maxDischargeDepth := 40) +zetaDelta [*]

@[simp] theorem State.readWord_ok (a : Nat) (s : State) (ok : s.memOk) :
    okSnd (State.readWord a s) := by
  unfold State.readWord
  repeat' (first | split | extract_lets _)
  all_goals simp (maxDischargeDepth := 40) +zetaDelta [*]

@[simp] theorem State.storeWord_ok (a : Nat) (w : Word64) (psn carries : Bool) (s : State) (ok : s.memOk) :
    (State.storeWord a w psn carries s).memOk := by
  unfold State.storeWord
  repeat' (first | split | extract_lets _)
  all_goals simp (maxDischargeDepth := 40) +zetaDelta [*]

@[simp] theorem State.writeWord_ok (a : Nat) (w : Word64) (be : BitVec 8) (psn : Bool) (s : State) (ok : s.memOk) :
    (State.writeWord a w be psn s).memOk := by
  unfold State.writeWord
  have h := State.readWord_ok a s ok
  extract_lets full
  split
  rename_i x p t e
  have ht : t.memOk := by
    split at e
    · cases e; exact ok
    · split at e
      rename_i r u eu
      cases e
      exact okSnd_eq eu h
  split <;> simp (maxDischargeDepth := 40) [ht]

@[simp] theorem State.writeWord32_ok (a : Nat) (w : Word) (psn : Bool) (s : State) (ok : s.memOk) :
    (State.writeWord32 a w psn s).memOk := by
  simp (maxDischargeDepth := 40) [State.writeWord32, ok]

@[simp] theorem State.readWord32_ok (a : Nat) (s : State) (ok : s.memOk) :
    okSnd (State.readWord32 a s) := by
  unfold State.readWord32
  repeat' (first
    | (rename_i e; have e' := okSnd_eq e; clear e; simp (maxDischargeDepth := 40) +zetaDelta [*] at e'; have e'' : State.memOk _ := e'; clear e')
    | split
    | extract_lets _)
  all_goals simp (maxDischargeDepth := 40) +zetaDelta +contextual [*]

/-! ### Machine/Entries.lean -/

@[simp] theorem State.setEntrySt_ok (i : Nat) (x : EntrySt) (s : State) (ok : s.memOk) :
    (State.setEntrySt i x s).memOk := by
  simp (maxDischargeDepth := 40) [State.setEntrySt, ok]

@[simp] theorem State.atRoot_ok (c : Nat) (s : State) (ok : s.memOk) :
    (State.atRoot c s).memOk := by
  simp (maxDischargeDepth := 40) [State.atRoot, ok]

@[simp] theorem State.setDom_ok (k : Nat) (x : Dom) (s : State) (ok : s.memOk) :
    (State.setDom k x s).memOk := by
  simp (maxDischargeDepth := 40) [State.setDom, ok]

@[simp] theorem State.setSlot_ok (copy slot : Nat) (x : SlotCopy) (s : State) (ok : s.memOk) :
    (State.setSlot copy slot x s).memOk := by
  simp (maxDischargeDepth := 40) [State.setSlot, ok]

@[simp] theorem State.setStale_ok (copy slot : Nat) (s : State) (ok : s.memOk) :
    (State.setStale copy slot s).memOk := by
  simp (maxDischargeDepth := 40) [State.setStale, ok]

@[simp] theorem readWords_ok (a n : Nat) (s : State) (ok : s.memOk) :
    okSnd (readWords a n s) := by
  induction n generalizing a s with
  | zero => exact ok
  | succ n ih =>
    unfold readWords
    split
    rename_i e
    have h := okSnd_eq e (State.readWord32_ok a s ok)
    split
    rename_i e
    exact okSnd_eq e (ih _ _ h)

@[simp] theorem State.readBlock_ok (copy slot : Nat) (coffered : Bool) (s : State) (ok : s.memOk) :
    okSnd (State.readBlock copy slot coffered s) := by
  unfold State.readBlock
  repeat' (first
    | (rename_i e; have e' := okSnd_eq e; clear e; simp (maxDischargeDepth := 40) +zetaDelta [*] at e'; have e'' : State.memOk _ := e'; clear e')
    | split
    | extract_lets _)
  all_goals simp (maxDischargeDepth := 40) +zetaDelta [*]

@[simp] theorem State.readSource_ok (chained : Bool) (slot : Nat) (s : State) (ok : s.memOk) :
    okSnd (State.readSource chained slot s) := by
  simp (maxDischargeDepth := 40) +contextual [State.readSource, ok]

@[simp] theorem State.claimSlot_ok (copy slot master : Nat) (s : State) (ok : s.memOk) :
    okSnd (State.claimSlot copy slot master s) := by
  unfold State.claimSlot
  repeat' (first | split | extract_lets _)
  all_goals simp (maxDischargeDepth := 40) +zetaDelta [*]

@[simp] theorem writeBeats_ok (a : Nat) (l : List (Word × Bool)) (s : State) (ok : s.memOk) :
    (writeBeats a l s).memOk := by
  induction a, l, s using writeBeats.induct <;> unfold writeBeats <;> simp_all (maxDischargeDepth := 40)

@[simp] theorem State.writeBlock_ok (copy slot master : Nat) (words : List (Word × Bool)) (stale : Bool) (s : State) (ok : s.memOk) :
    (State.writeBlock copy slot master words stale s).memOk := by
  unfold State.writeBlock
  repeat' (first
    | (rename_i e; have e' := okSnd_eq e; clear e; simp (maxDischargeDepth := 40) +zetaDelta [*] at e'; have e'' : State.memOk _ := e'; clear e')
    | split
    | extract_lets _)
  all_goals simp (maxDischargeDepth := 40) +zetaDelta +contextual [*]

@[simp] theorem State.countTaint_ok (s : State) (ok : s.memOk) :
    (State.countTaint s).memOk := by
  simp (maxDischargeDepth := 40) [State.countTaint, ok]

@[simp] theorem State.taintEntry_ok (i : Nat) (s : State) (ok : s.memOk) :
    (State.taintEntry i s).memOk := by
  simp (maxDischargeDepth := 40) [State.taintEntry, ok]

@[simp] theorem State.staleSlots_ok (l : List Nat) (s : State) (ok : s.memOk) :
    (State.staleSlots l s).memOk := by
  unfold State.staleSlots
  all_goals simp (maxDischargeDepth := 40) +zetaDelta +contextual [*]

end Sys2Proof.Machine
end

