-- ==== Sys2Proof/Laws/KeepNib.lean ====
section
/-! SUPPORT. Every operation of the nib keeps memory in its canonical form. -/

namespace Sys2Proof.Machine

/-! ### Machine/NibCore.lean -/

/-- The memory of the state of an outcome is canonical; a trap carries none. -/
def Did.memOk : Did → Prop
  | .trap _ => True
  | .ok s => s.memOk
  | .branch s _ => s.memOk
  | .repeated s _ => s.memOk
  | .done s => s.memOk

@[simp] theorem State.setNib_ok (n : Nat) (x : Nib) (s : State) (ok : s.memOk) :
    (State.setNib n x s).memOk := by
  simp (maxDischargeDepth := 40) [State.setNib, ok]

@[simp] theorem State.stall_ok (n k : Nat) (s : State) (ok : s.memOk) :
    (State.stall n k s).memOk := by
  simp (maxDischargeDepth := 40) [State.stall, ok]

@[simp] theorem State.endSlice_ok (n : Nat) (reason : BitVec 2) (s : State) (ok : s.memOk) :
    (State.endSlice n reason s).memOk := by
  simp (maxDischargeDepth := 40) [State.endSlice, ok]

@[simp] theorem State.nibEvent_ok (e : Nat → Evt) (who : Nat → Nat) (n : Nat) (s : State) (ok : s.memOk) :
    (State.nibEvent e who n s).memOk := by
  simp (maxDischargeDepth := 40) [State.nibEvent, ok]

@[simp] theorem State.recordTrap_ok (n cause : Nat) (s : State) (ok : s.memOk) :
    (State.recordTrap n cause s).memOk := by
  simp (maxDischargeDepth := 40) [State.recordTrap, ok]

@[simp] theorem State.trap_ok (n cause : Nat) (s : State) (ok : s.memOk) :
    (State.trap n cause s).memOk := by
  simp (maxDischargeDepth := 40) [State.trap, ok]

@[simp] theorem State.trapIfetch_ok (n : Fin 272) (s : State) (ok : s.memOk) :
    (State.trapIfetch n s).memOk := by
  simp (maxDischargeDepth := 40) [State.trapIfetch, ok]

@[simp] theorem State.settle_ok (n : Nat) (d : Did) (s : State) (hd : d.memOk) (ok : s.memOk) :
    (State.settle n d s).memOk := by
  cases d <;> simp_all (maxDischargeDepth := 40) [State.settle, Did.memOk]

@[simp] theorem State.fetchWord_ok (n : Nat) (s : State) (ok : s.memOk) : okSnd (State.fetchWord n s) := by
  unfold State.fetchWord
  extract_lets x
  split
  · exact ok
  · split
    rename_i e
    have h := okSnd_eq e (State.readWord_ok _ s ok)
    simp (maxDischargeDepth := 40) [h]

@[simp] theorem State.issue_ok (n : Fin 272) (hit : Word → Bool) (noSlot : Bool) (body : Nib → State → Did) (s : State)
    (h : ∀ x s, s.memOk → (body x s).memOk) (ok : s.memOk) : (State.issue n hit noSlot body s).memOk := by
  unfold State.issue
  repeat' (first
    | (rename_i e; have e' := okSnd_eq e; clear e; simp (maxDischargeDepth := 40) +zetaDelta [*] at e'; have e'' : State.memOk _ := e'; clear e')
    | split
    | extract_lets _)
  all_goals simp (maxDischargeDepth := 40) +zetaDelta [*]

@[simp] theorem State.setIrq_ok (n : Nat) (m : BitVec 3) (s : State) (ok : s.memOk) :
    (State.setIrq n m s).memOk := by
  simp (maxDischargeDepth := 40) [State.setIrq, ok]

@[simp] theorem State.dispatchNib_ok (n idx : Nat) (e : Entry) (s : State) (ok : s.memOk) :
    (State.dispatchNib n idx e s).memOk := by
  simp (maxDischargeDepth := 40) [State.dispatchNib, ok]

/-! ### Machine/Operands.lean -/

@[simp] theorem loadOwn_ok (n : Nat) (l : List QLoad) (xs : Nib × State) (ok : okSnd xs) :
    okSnd (loadOwn n l xs) := by
  induction l generalizing xs with
  | nil => exact ok
  | cons q l ih =>
    obtain ⟨x, s⟩ := xs
    unfold loadOwn
    split
    rename_i r t e
    have h := okSnd_eq e (State.readWord32_ok q.addr s ok)
    extract_lets u
    exact ih _ (by simp +zetaDelta only [okSnd_mk]; split <;> simp [h])

@[simp] theorem loadAt_ok (n : Nat) (loc : Loc) (quad : Bool) (d : BitVec 6) (xs : Nib × State)
    (ok : okSnd xs) : okSnd (loadAt n loc quad d xs) := by
  cases loc
  · exact loadOwn_ok _ _ _ ok
  · exact ok
  · exact ok

@[simp] theorem storeOwnWords_ok (a : Nat) (l : List PVal) (s : State) (ok : s.memOk) :
    (storeOwnWords a l s).memOk := by
  induction l generalizing a s with
  | nil => exact ok
  | cons v l ih => exact ih _ _ (State.writeWord32_ok _ _ _ _ ok)

@[simp] theorem storeTold_ok (a n : Nat) (s : State) (ok : s.memOk) :
    (storeTold a n s).memOk := by
  unfold storeTold
  all_goals simp (maxDischargeDepth := 40) +zetaDelta +contextual [*]

@[simp] theorem storeOwn_ok (a : Nat) (l : List PVal) (s : State) (ok : s.memOk) :
    (storeOwn a l s).memOk := by
  simp (maxDischargeDepth := 40) [storeOwn, ok]

@[simp] theorem storeQuire_ok (a : Nat) (l : List PVal) (s : State) (ok : s.memOk) :
    (storeQuire a l s).memOk := by
  unfold storeQuire
  repeat' (first | split | extract_lets _)
  all_goals simp (maxDischargeDepth := 40) +zetaDelta [*]

@[simp] theorem storeBody_ok (n : Nat) (l : List PVal) (align : Nat) (k : BitVec 3) (mode : MemMode) (bx : Bool) (w : Blocked)
    (x : Nib) (s : State) (ok : s.memOk) :
    (storeBody n l align k mode bx w x s).memOk := by
  unfold storeBody
  repeat' (first | split | extract_lets _)
  all_goals simp (maxDischargeDepth := 40) +zetaDelta [Did.memOk, *]

@[simp] theorem loadBody_ok (n : Nat) (quad : Bool) (d : BitVec 6) (align : Nat) (k : BitVec 3) (mode : MemMode)
    (x : Nib) (s : State) (ok : s.memOk) :
    (loadBody n quad d align k mode x s).memOk := by
  unfold loadBody
  repeat' (first
    | (rename_i e; have e' := okSnd_eq e; clear e; simp (maxDischargeDepth := 40) +zetaDelta [*] at e'; have e'' : State.memOk _ := e'; clear e')
    | split
    | extract_lets _)
  all_goals simp (maxDischargeDepth := 40) +zetaDelta [Did.memOk, *]

/-! ### Machine/NibExec.lean -/

@[simp] theorem intBody_ok (n : Nat) (f : Bool) (sd : BitVec 6) (r : IRes) (psn : Bool) (x : Nib) (s : State) (ok : s.memOk) :
    (intBody n f sd r psn x s).memOk := by
  unfold intBody
  repeat' (first | split | extract_lets _)
  all_goals simp (maxDischargeDepth := 40) +zetaDelta [Did.memOk, *]

@[simp] theorem intOp_ok (n : NibId) (hit : Word → Bool) (f : Bool) (sd sa sb : BitVec 6) (op : Word → Word → IRes) (s : State)
    (ok : s.memOk) : (intOp n hit f sd sa sb op s).memOk := by
  simp +contextual [intOp, ok]

@[simp] theorem intImm_ok (n : NibId) (hit : Word → Bool) (f : Bool) (sd sa : BitVec 6) (op : Word → IRes) (s : State)
    (ok : s.memOk) : (intImm n hit f sd sa op s).memOk := by
  simp +contextual [intImm, ok]

@[simp] theorem floatBody_ok (n : Nat) (dd : BitVec 5) (r : QRes) (psn : Bool) (x : Nib) (s : State) (ok : s.memOk) :
    (floatBody n dd r psn x s).memOk := by
  unfold floatBody
  all_goals simp (maxDischargeDepth := 40) +zetaDelta [Did.memOk, *]

@[simp] theorem floatOp_ok (n : NibId) (hit : Word → Bool) (dd da db : BitVec 5) (op : Word → Word → QRes) (s : State)
    (ok : s.memOk) : (floatOp n hit dd da db op s).memOk := by
  simp +contextual [floatOp, ok]

@[simp] theorem floatUn_ok (n : NibId) (hit : Word → Bool) (dd da : BitVec 5) (op : Word → QRes) (s : State)
    (ok : s.memOk) : (floatUn n hit dd da op s).memOk := by
  simp +contextual [floatUn, ok]

@[simp] theorem stBody_ok (n : Nat) (ds : BitVec 5) (p : BitVec 3) (mode : MemMode) (bx : Bool) (x : Nib) (s : State) (ok : s.memOk) :
    (stBody n ds p mode bx x s).memOk := by
  simp (maxDischargeDepth := 40) [stBody, ok]

@[simp] theorem stqBody_ok (n : Nat) (qs : BitVec 3) (p : BitVec 3) (mode : MemMode) (bx : Bool) (x : Nib) (s : State) (ok : s.memOk) :
    (stqBody n qs p mode bx x s).memOk := by
  simp (maxDischargeDepth := 40) [stqBody, ok]

@[simp] theorem quadOp_ok (n : NibId) (hit : Word → Bool) (lat : Nat) (mask : BitVec 4) (qd : BitVec 3) (useD : Bool)
    (a b : Nib → Nat → PVal) (op : Nib → Word → Word → Word → QRes) (s : State) (ok : s.memOk) :
    (quadOp n hit lat mask qd useD a b op s).memOk := by
  unfold quadOp
  refine State.issue_ok _ _ _ _ _ (fun x s h => ?_) ok
  split
  · trivial
  · simp [Did.memOk, h]

@[simp] theorem parLoad_ok (n : Nat) (ld : ParLoad) (loc : Loc) (x y : Nib) (s : State) (ok : s.memOk) :
    okSnd (parLoad n ld loc x y s) := by
  cases ld <;> simp (maxDischargeDepth := 40) [parLoad, ok]

@[simp] theorem qmacOp_ok (n : NibId) (hit : Word → Bool) (ax : Bool) (qa : BitVec 3) (b : QSrc) (ld : ParLoad) (prev : Bool)
    (op : Int → Int → Int) (s : State) (ok : s.memOk) :
    (qmacOp n hit ax qa b ld prev op s).memOk := by
  unfold qmacOp
  refine State.issue_ok _ _ _ _ _ (fun x s h => ?_) ok
  extract_lets mul
  split
  · trivial
  · split
    rename_i e
    have h := okSnd_eq e (parLoad_ok _ _ _ _ _ _ h)
    simp [Did.memOk, h]
  · simp [Did.memOk, h]

@[simp] theorem haltBody_ok (n : Nat) (x : Nib) (s : State) (ok : s.memOk) :
    (haltBody n x s).memOk := by
  unfold haltBody
  repeat' (first | split | extract_lets _)
  all_goals simp (maxDischargeDepth := 40) +zetaDelta [Did.memOk, *]

@[simp] theorem fenceBody_ok (n : Nat) (x : Nib) (s : State) (ok : s.memOk) :
    (fenceBody n x s).memOk := by
  unfold fenceBody
  repeat' (first | split | extract_lets _)
  all_goals simp (maxDischargeDepth := 40) +zetaDelta [Did.memOk, *]

@[simp] theorem returnWords_ok (n : Nat) (l : List QLoad) (s : State) (ok : s.memOk) : (returnWords n l s).memOk := by
  induction l generalizing s with
  | nil => exact ok
  | cons q l ih =>
    unfold returnWords
    split
    rename_i e
    have h := okSnd_eq e (State.readWord32_ok q.addr s ok)
    exact ih _ (by simp [h])

@[simp] theorem State.unblock_ok (n : Nat) (s : State) (ok : s.memOk) :
    (State.unblock n s).memOk := by
  unfold State.unblock
  repeat' (first | split | extract_lets _)
  all_goals simp (maxDischargeDepth := 40) +zetaDelta [*]

end Sys2Proof.Machine
end

