-- ==== Sys2Proof/Laws/KeepAudio.lean ====
section
/-! SUPPORT. Every operation of the inkstones, brushes, serial ports and lanes keeps memory in its canonical form. -/

namespace Sys2Proof.Machine

/-! ### Machine/SapExec.lean -/

@[simp] theorem State.setSap_ok (k : Nat) (x : Sap) (s : State) (ok : s.memOk) :
    (State.setSap k x s).memOk := by
  simp (maxDischargeDepth := 40) [State.setSap, ok]

@[simp] theorem State.sapUnlock_ok (k : Nat) (s : State) (ok : s.memOk) :
    (State.sapUnlock k s).memOk := by
  simp (maxDischargeDepth := 40) [State.sapUnlock, ok]

@[simp] theorem State.sapMeasure_ok (k : Nat) (s : State) (ok : s.memOk) :
    (State.sapMeasure k s).memOk := by
  simp (maxDischargeDepth := 40) [State.sapMeasure, ok]

@[simp] theorem State.sapShift_ok (k : Nat) (shift : Int) (count : Bool) (s : State) (ok : s.memOk) :
    (State.sapShift k shift count s).memOk := by
  simp (maxDischargeDepth := 40) [State.sapShift, ok]

@[simp] theorem State.sapNewMap_ok (k : Nat) (s : State) (ok : s.memOk) :
    (State.sapNewMap k s).memOk := by
  simp (maxDischargeDepth := 40) [State.sapNewMap, ok]

@[simp] theorem State.sapSlip_ok (k : Nat) (fill : Int) (s : State) (ok : s.memOk) :
    (State.sapSlip k fill s).memOk := by
  simp (maxDischargeDepth := 40) [State.sapSlip, ok]

@[simp] theorem State.sapWriteRange_ok (k : Nat) (fs : List (Option SapRx)) (s : State) (ok : s.memOk) :
    (State.sapWriteRange k fs s).memOk := by
  unfold State.sapWriteRange
  repeat' (first | split | extract_lets _)
  all_goals simp (maxDischargeDepth := 40) +zetaDelta +contextual [*]

@[simp] theorem State.sapStamp_ok (k : Nat) (f : BitVec 32) (s : State) (ok : s.memOk) :
    (State.sapStamp k f s).memOk := by
  simp (maxDischargeDepth := 40) [State.sapStamp, ok]

@[simp] theorem State.sapSetFill_ok (k : Nat) (a : Int) (s : State) (ok : s.memOk) :
    (State.sapSetFill k a s).memOk := by
  simp (maxDischargeDepth := 40) [State.sapSetFill, ok]

@[simp] theorem State.sapUnderrun_ok (k : Nat) (under : Bool) (n : Nat) (s : State) (ok : s.memOk) :
    (State.sapUnderrun k under n s).memOk := by
  simp (maxDischargeDepth := 40) +contextual [State.sapUnderrun, ok]

@[simp] theorem State.sapBlock_ok (p : SapPlan) (s : State) (ok : s.memOk) :
    (State.sapBlock p s).memOk := by
  simp (maxDischargeDepth := 40) +contextual [State.sapBlock, ok]

@[simp] theorem State.sapAfter_ok (p : SapPlan) (s : State) (ok : s.memOk) :
    (State.sapAfter p s).memOk := by
  simp (maxDischargeDepth := 40) +contextual [State.sapAfter, ok]

@[simp] theorem State.sapAlone_ok (k : Nat) (s : State) (ok : s.memOk) :
    okSnd (State.sapAlone k s) := by
  simp (maxDischargeDepth := 40) +contextual [State.sapAlone, ok]

@[simp] theorem State.sapJoin_ok (anchor k : Nat) (counted : Bool) (edges : List (Option (BitVec 64))) (s : State) (ok : s.memOk) :
    (State.sapJoin anchor k counted edges s).memOk := by
  unfold State.sapJoin
  repeat' (first
    | (rename_i e; have e' := okSnd_eq e; clear e; simp (maxDischargeDepth := 40) +zetaDelta [*] at e'; have e'' : State.memOk _ := e'; clear e')
    | split
    | extract_lets _)
  all_goals simp (maxDischargeDepth := 40) +zetaDelta +contextual [*]

@[simp] theorem State.sapGroup_ok (edges : List (Option (BitVec 64))) (g : Nat) (s : State) (ok : s.memOk) :
    okSnd (State.sapGroup edges g s) := by
  unfold State.sapGroup
  repeat' (first
    | (rename_i e; have e' := okSnd_eq e; clear e; simp (maxDischargeDepth := 40) +zetaDelta [*] at e'; have e'' : State.memOk _ := e'; clear e')
    | split
    | extract_lets _)
  all_goals simp (maxDischargeDepth := 40) +zetaDelta +contextual [*]

@[simp] theorem State.sapPorts_ok (l : List Nat) (s : State) (ok : s.memOk) : okSnd (State.sapPorts l s) :=
  foldl_okSnd _ _ _ (fun _ _ h => snd_ok _ (State.sapAlone_ok _ _ h)) ok

@[simp] theorem State.sapGroups_ok (edges : List (Option (BitVec 64))) (s : State) (ok : s.memOk) :
    okSnd (State.sapGroups edges s) :=
  foldl_okSnd _ _ _ (fun _ _ h => snd_ok _ (State.sapGroup_ok _ _ _ h)) ok

@[simp] theorem State.sapRelease_ok (edges : List (Option (BitVec 64))) (s : State) (ok : s.memOk) :
    (State.sapRelease edges s).memOk := by
  unfold State.sapRelease
  repeat' (first
    | (rename_i e; have e' := okSnd_eq e; clear e; simp (maxDischargeDepth := 40) +zetaDelta [*] at e'; have e'' : State.memOk _ := e'; clear e')
    | split
    | extract_lets _)
  all_goals simp (maxDischargeDepth := 40) +zetaDelta +contextual [*]

@[simp] theorem sapFetchSlots_ok (base : Nat) (x0 : List Nat) (x1 : Nat) (s : State) (ok : s.memOk) :
    okSnd (sapFetchSlots base x0 x1 s) := by
  induction x0 generalizing base x1 s
  all_goals
    unfold sapFetchSlots
    repeat' (first
      | (rename_i e; have e' := okSnd_eq e; clear e; simp (maxDischargeDepth := 40) +zetaDelta [*] at e'; have e'' : State.memOk _ := e'; clear e')
      | split
      | extract_lets _)
    all_goals simp (maxDischargeDepth := 40) +zetaDelta +contextual [*]

@[simp] theorem State.sapPoison_ok (k n : Nat) (s : State) (ok : s.memOk) :
    (State.sapPoison k n s).memOk := by
  simp (maxDischargeDepth := 40) +contextual [State.sapPoison, ok]

@[simp] theorem State.sapFetch_ok (k : Nat) (s : State) (ok : s.memOk) :
    (State.sapFetch k s).memOk := by
  unfold State.sapFetch
  repeat' (first
    | (rename_i e; have e' := okSnd_eq e; clear e; simp (maxDischargeDepth := 40) +zetaDelta [*] at e'; have e'' : State.memOk _ := e'; clear e')
    | split
    | extract_lets _)
  all_goals simp (maxDischargeDepth := 40) +zetaDelta +contextual [*]

@[simp] theorem State.sapSwapMasks_ok (s : State) (ok : s.memOk) :
    (State.sapSwapMasks s).memOk := by
  unfold State.sapSwapMasks
  repeat' (first | split | extract_lets _)
  all_goals simp (maxDischargeDepth := 40) +zetaDelta +contextual [*]

/-! ### Machine/LaneExec.lean -/

@[simp] theorem State.calAbandon_ok (k : Nat) (s : State) (ok : s.memOk) :
    (State.calAbandon k s).memOk := by
  simp (maxDischargeDepth := 40) +contextual [State.calAbandon, ok]

@[simp] theorem State.laneToSafe_ok (k : Nat) (c : SafeCause) (s : State) (ok : s.memOk) :
    (State.laneToSafe k c s).memOk := by
  simp (maxDischargeDepth := 40) [State.laneToSafe, ok]

@[simp] theorem State.laneArm_ok (k : Nat) (s : State) (ok : s.memOk) :
    (State.laneArm k s).memOk := by
  simp (maxDischargeDepth := 40) [State.laneArm, ok]

@[simp] theorem State.laneLatch_ok (k cause : Nat) (s : State) (ok : s.memOk) :
    (State.laneLatch k cause s).memOk := by
  simp (maxDischargeDepth := 40) [State.laneLatch, ok]

@[simp] theorem State.startRamp_ok (k : Nat) (s : State) (ok : s.memOk) :
    (State.startRamp k s).memOk := by
  simp (maxDischargeDepth := 40) [State.startRamp, ok]

@[simp] theorem State.laneRetryNow_ok (k : Nat) (s : State) (ok : s.memOk) :
    (State.laneRetryNow k s).memOk := by
  simp (maxDischargeDepth := 40) [State.laneRetryNow, ok]

@[simp] theorem State.laneUncause_ok (k : Nat) (c : SafeCause) (s : State) (ok : s.memOk) :
    (State.laneUncause k c s).memOk := by
  simp (maxDischargeDepth := 40) [State.laneUncause, ok]

@[simp] theorem State.laneShort_ok (k : Nat) (s : State) (ok : s.memOk) :
    (State.laneShort k s).memOk := by
  simp (maxDischargeDepth := 40) [State.laneShort, ok]

@[simp] theorem State.laneClear_ok (k : Nat) (s : State) (ok : s.memOk) :
    (State.laneClear k s).memOk := by
  simp (maxDischargeDepth := 40) [State.laneClear, ok]

@[simp] theorem State.laneThermal_ok (k : Nat) (s : State) (ok : s.memOk) :
    (State.laneThermal k s).memOk := by
  simp (maxDischargeDepth := 40) [State.laneThermal, ok]

@[simp] theorem State.laneLevee_ok (k : Nat) (s : State) (ok : s.memOk) :
    (State.laneLevee k s).memOk := by
  simp (maxDischargeDepth := 40) [State.laneLevee, ok]

@[simp] theorem State.laneFetch_ok (k : Nat) (s : State) (ok : s.memOk) :
    (State.laneFetch k s).memOk := by
  unfold State.laneFetch
  repeat' (first
    | (rename_i e; have e' := okSnd_eq e; clear e; simp (maxDischargeDepth := 40) +zetaDelta [*] at e'; have e'' : State.memOk _ := e'; clear e')
    | split
    | extract_lets _)
  all_goals simp (maxDischargeDepth := 40) +zetaDelta +contextual [*]

@[simp] theorem State.carrier_ok (k i : Nat) (pairV : Rat) (s : State) (ok : s.memOk) :
    (State.carrier k i pairV s).memOk := by
  unfold State.carrier
  extract_lets
  split
  extract_lets _ _ _ _ _ _ _ s1 s2 s3 s4
  have h1 : s1.memOk := State.setLane_ok _ _ _ ok
  have h2 : s2.memOk := ite_ok _ _ _ (by simp [h1]) h1
  have h3 : s3.memOk := ite_ok _ _ _ (by simp [h2]) h2
  have h4 : s4.memOk := ite_ok _ _ _ (by simp [h3]) h3
  exact ite_ok _ _ _ (by simp [h4]) h4

@[simp] theorem State.senseLane_ok (k : Nat) (isd vsd : BitVec 32) (s : State) (ok : s.memOk) :
    (State.senseLane k isd vsd s).memOk := by
  simp (maxDischargeDepth := 40) +contextual [State.senseLane, ok]

@[simp] theorem State.calRequest_ok (k : Nat) (s : State) (ok : s.memOk) :
    (State.calRequest k s).memOk := by
  simp (maxDischargeDepth := 40) [State.calRequest, ok]

@[simp] theorem State.lanesLoaded_ok (s : State) (ok : s.memOk) :
    (State.lanesLoaded s).memOk := by
  unfold State.lanesLoaded
  all_goals simp (maxDischargeDepth := 40) +zetaDelta +contextual [*]

@[simp] theorem State.lanesArming_ok (s : State) (ok : s.memOk) :
    (State.lanesArming s).memOk := by
  unfold State.lanesArming
  all_goals simp (maxDischargeDepth := 40) +zetaDelta +contextual [*]

/-! ### Machine/Brush.lean -/

@[simp] theorem readLongs_ok (a : Nat) (x0 : Nat) (s : State) (ok : s.memOk) :
    okSnd (readLongs a x0 s) := by
  induction x0 generalizing a s
  all_goals
    unfold readLongs
    repeat' (first
      | (rename_i e; have e' := okSnd_eq e; clear e; simp (maxDischargeDepth := 40) +zetaDelta [*] at e'; have e'' : State.memOk _ := e'; clear e')
      | split
      | extract_lets _)
    all_goals simp (maxDischargeDepth := 40) +zetaDelta +contextual [*]

@[simp] theorem readElem_ok (p e : Nat) (s : State) (ok : s.memOk) :
    okSnd (readElem p e s) := by
  unfold readElem
  repeat' (first
    | (rename_i e; have e' := okSnd_eq e; clear e; simp (maxDischargeDepth := 40) +zetaDelta [*] at e'; have e'' : State.memOk _ := e'; clear e')
    | split
    | extract_lets _)
  all_goals simp (maxDischargeDepth := 40) +zetaDelta +contextual [*]

@[simp] theorem State.bruNonfinite_ok (p : Nat) (b : Bool) (s : State) (ok : s.memOk) :
    (State.bruNonfinite p b s).memOk := by
  simp (maxDischargeDepth := 40) [State.bruNonfinite, ok]

@[simp] theorem State.coefValue_ok (p : Nat) (w : Word) (s : State) (ok : s.memOk) :
    okSnd (State.coefValue p w s) := by
  simp (maxDischargeDepth := 40) [State.coefValue, ok]

@[simp] theorem readTap_ok (p : Nat) (el : Elem) (i : Nat) (s : State) (ok : s.memOk) :
    okSnd (readTap p el i s) := by
  unfold readTap
  repeat' (first
    | (rename_i e; have e' := okSnd_eq e; clear e; simp (maxDischargeDepth := 40) +zetaDelta [*] at e'; have e'' : State.memOk _ := e'; clear e')
    | split
    | extract_lets _)
  all_goals simp (maxDischargeDepth := 40) +zetaDelta +contextual [*]

@[simp] theorem readLine_ok (p : Nat) (el : Elem) (m : Int) (s : State) (ok : s.memOk) :
    okSnd (readLine p el m s) := by
  unfold readLine
  repeat' (first
    | (rename_i e; have e' := okSnd_eq e; clear e; simp (maxDischargeDepth := 40) +zetaDelta [*] at e'; have e'' : State.memOk _ := e'; clear e')
    | split
    | extract_lets _)
  all_goals simp (maxDischargeDepth := 40) +zetaDelta +contextual [*]

@[simp] theorem State.interpCoef_ok (p i j : Nat) (s : State) (ok : s.memOk) :
    okSnd (State.interpCoef p i j s) := by
  simp (maxDischargeDepth := 40) [State.interpCoef, ok]

@[simp] theorem polyFrom_ok (p : Nat) (el : Elem) (i : Nat) (m : Int) (y0 : Nat) (y1 : Nat) (y2 : Acc) (s : State) (ok : s.memOk) :
    okSnd (polyFrom p el i m y0 y1 y2 s) := by
  induction y0 generalizing p el i m y1 y2 s
  all_goals
    unfold polyFrom
    repeat' (first
      | (rename_i e; have e' := okSnd_eq e; clear e; simp (maxDischargeDepth := 40) +zetaDelta [*] at e'; have e'' : State.memOk _ := e'; clear e')
      | split
      | extract_lets _)
    all_goals simp (maxDischargeDepth := 40) +zetaDelta [*]

@[simp] theorem poly_ok (p : Nat) (el : Elem) (i : Nat) (m : Int) (s : State) (ok : s.memOk) :
    okSnd (poly p el i m s) := by
  simp (maxDischargeDepth := 40) [poly, ok]

@[simp] theorem State.bruSats_ok (p n : Nat) (s : State) (ok : s.memOk) :
    (State.bruSats p n s).memOk := by
  simp (maxDischargeDepth := 40) [State.bruSats, ok]

@[simp] theorem r32_ok (p : Nat) (a : Acc) (s : State) (ok : s.memOk) :
    okSnd (r32 p a s) := by
  simp (maxDischargeDepth := 40) [r32, ok]

@[simp] theorem interp_ok (p : Nat) (el : Elem) (x0 : Word × Bool) (m : Int) (s : State) (ok : s.memOk) :
    okSnd (interp p el x0 m s) := by
  unfold interp
  repeat' (first
    | (rename_i e; have e' := okSnd_eq e; clear e; simp (maxDischargeDepth := 40) +zetaDelta [*] at e'; have e'' : State.memOk _ := e'; clear e')
    | split
    | extract_lets _)
  all_goals simp (maxDischargeDepth := 40) +zetaDelta +contextual [*]

@[simp] theorem readRing_ok (p : Nat) (el : Elem) (m : Int) (s : State) (ok : s.memOk) :
    okSnd (readRing p el m s) := by
  unfold readRing
  repeat' (first
    | (rename_i e; have e' := okSnd_eq e; clear e; simp (maxDischargeDepth := 40) +zetaDelta [*] at e'; have e'' : State.memOk _ := e'; clear e')
    | split
    | extract_lets _)
  all_goals simp (maxDischargeDepth := 40) +zetaDelta +contextual [*]

@[simp] theorem firTerms_ok (p : Nat) (el : Elem) (v : Nat → State → (Word × Bool) × State) (lo x0 x1 : Nat) (x2 : Acc) (s : State)
    (h : ∀ i s, s.memOk → okSnd (v i s)) (ok : s.memOk) : okSnd (firTerms p el v lo x0 x1 x2 s) := by
  induction x0 generalizing x1 x2 s with
  | zero => exact ok
  | succ n ih =>
    unfold firTerms
    split
    · exact ok
    · split; rename_i e1; split; rename_i e2
      have h1 := okSnd_eq e1 (readTap_ok _ _ _ _ ok)
      have h2 := okSnd_eq e2 (h _ _ h1)
      extract_lets a
      split
      · exact h2
      · exact ih _ _ _ h2

@[simp] theorem tailOf_ok (p : Nat) (el : Elem) (k : Nat) (s : State) (ok : s.memOk) : okSnd (tailOf p el k s) := by
  unfold tailOf
  split
  · exact firTerms_ok _ _ _ _ _ _ _ _ (fun i s h => readRing_ok _ _ _ _ h) ok
  · exact ok

@[simp] theorem tailsOf_ok (p : Nat) (el : Elem) (y0 : Nat) (y1 : Nat) (s : State) (ok : s.memOk) :
    okSnd (tailsOf p el y0 y1 s) := by
  induction y0 generalizing p el y1 s
  all_goals
    unfold tailsOf
    repeat' (first
      | (rename_i e; have e' := okSnd_eq e; clear e; simp (maxDischargeDepth := 40) +zetaDelta [*] at e'; have e'' : State.memOk _ := e'; clear e')
      | split
      | extract_lets _)
    all_goals simp (maxDischargeDepth := 40) +zetaDelta [*]

@[simp] theorem State.setBru_ok (p : Nat) (x : Bru) (s : State) (ok : s.memOk) :
    (State.setBru p x s).memOk := by
  simp (maxDischargeDepth := 40) [State.setBru, ok]

@[simp] theorem noteSlack_ok (p n : Nat) (s : State) (ok : s.memOk) :
    (noteSlack p n s).memOk := by
  simp (maxDischargeDepth := 40) +contextual [noteSlack, ok]

@[simp] theorem sweepElem_ok (p e : Nat) (el : Elem) (cycle : Nat) (s : State) (ok : s.memOk) :
    (sweepElem p e el cycle s).memOk := by
  unfold sweepElem
  repeat' (first
    | (rename_i e; have e' := okSnd_eq e; clear e; simp (maxDischargeDepth := 40) +zetaDelta [*] at e'; have e'' : State.memOk _ := e'; clear e')
    | split
    | extract_lets _)
  all_goals simp (maxDischargeDepth := 40) +zetaDelta +contextual [*]

@[simp] theorem sweepEntry_ok (p : Nat) (wins : List (Nat × Nat)) (start : Nat) (x0 : List Nat) (x1 : Nat) (s : State) (ok : s.memOk) :
    okSnd (sweepEntry p wins start x0 x1 s) := by
  induction x0 generalizing p wins start x1 s
  all_goals
    unfold sweepEntry
    repeat' (first
      | (rename_i e; have e' := okSnd_eq e; clear e; simp (maxDischargeDepth := 40) +zetaDelta [*] at e'; have e'' : State.memOk _ := e'; clear e')
      | split
      | extract_lets _)
    all_goals simp (maxDischargeDepth := 40) +zetaDelta +contextual [*]

@[simp] theorem sweepEntries_ok (p : Nat) (wins : List (Nat × Nat)) (x0 : List Entry) (x1 : Nat) (s : State) (ok : s.memOk) :
    okSnd (sweepEntries p wins x0 x1 s) := by
  induction x0 generalizing p wins x1 s
  all_goals
    unfold sweepEntries
    repeat' (first
      | (rename_i e; have e' := okSnd_eq e; clear e; simp (maxDischargeDepth := 40) +zetaDelta [*] at e'; have e'' : State.memOk _ := e'; clear e')
      | split
      | extract_lets _)
    all_goals simp (maxDischargeDepth := 40) +zetaDelta +contextual [*]

@[simp] theorem State.sweep_ok (p : Nat) (es : List Entry) (s : State) (ok : s.memOk) :
    (State.sweep p es s).memOk := by
  unfold State.sweep
  repeat' (first
    | (rename_i e; have e' := okSnd_eq e; clear e; simp (maxDischargeDepth := 40) +zetaDelta [*] at e'; have e'' : State.memOk _ := e'; clear e')
    | split
    | extract_lets _)
  all_goals simp (maxDischargeDepth := 40) +zetaDelta +contextual [*]

@[simp] theorem writeLine_ok (p : Nat) (el : Elem) (words : List (Word × Bool)) (s : State) (ok : s.memOk) :
    (writeLine p el words s).memOk := by
  simp (maxDischargeDepth := 40) [writeLine, ok]

theorem writeRing.ringPairs_ok (p : Nat) (el : Elem) : ∀ (vs : List (Word × Bool)) (m : Int) (s : State), s.memOk →
    (writeRing.ringPairs p el vs m s).memOk
  | [], _, _, ok => ok
  | [_], _, _, ok => ok
  | x :: y :: l, _, _, ok => writeRing.ringPairs_ok p el l _ _ (writeBeats_ok _ [x, y] _ ok)
@[simp] theorem writeRing_ok (p : Nat) (el : Elem) (vs : List (Word × Bool)) (s : State) (ok : s.memOk) :
    (writeRing p el vs s).memOk := by
  unfold writeRing
  split
  · exact ok
  · exact writeRing.ringPairs_ok _ _ _ _ _ ok

@[simp] theorem interps_ok (p : Nat) (el : Elem) (x0 : List (Word × Bool)) (x1 : Nat) (s : State) (ok : s.memOk) :
    okSnd (interps p el x0 x1 s) := by
  induction x0 generalizing p el x1 s
  all_goals
    unfold interps
    repeat' (first
      | (rename_i e; have e' := okSnd_eq e; clear e; simp (maxDischargeDepth := 40) +zetaDelta [*] at e'; have e'' : State.memOk _ := e'; clear e')
      | split
      | extract_lets _)
    all_goals simp (maxDischargeDepth := 40) +zetaDelta +contextual [*]

@[simp] theorem headSample_ok (p : Nat) (el : Elem) (vs : List (Word × Bool)) (k : Nat) (tail : Acc) (s : State) (ok : s.memOk) :
    okSnd (headSample p el vs k tail s) := by
  unfold headSample
  split
  · exact ok
  · extract_lets i0
    split
    rename_i e
    exact r32_ok _ _ _ (okSnd_eq e (firTerms_ok _ _ _ _ _ _ _ _ (fun _ _ h => h) ok))

@[simp] theorem headFrom_ok (p : Nat) (el : Elem) (tails : List Acc) (vs : List (Word × Bool)) (x0 : Nat) (x1 : Nat) (s : State) (ok : s.memOk) :
    okSnd (headFrom p el tails vs x0 x1 s) := by
  induction x0 generalizing p el tails vs x1 s
  all_goals
    unfold headFrom
    repeat' (first
      | (rename_i e; have e' := okSnd_eq e; clear e; simp (maxDischargeDepth := 40) +zetaDelta [*] at e'; have e'' : State.memOk _ := e'; clear e')
      | split
      | extract_lets _)
    all_goals simp (maxDischargeDepth := 40) +zetaDelta +contextual [*]

@[simp] theorem setStaleRun_ok (p e n : Nat) (s : State) (ok : s.memOk) :
    (setStaleRun p e n s).memOk := by
  simp (maxDischargeDepth := 40) [setStaleRun, ok]

@[simp] theorem bruWrite_ok (p : Nat) (el : Elem) (words : List (Word × Bool)) (stale : Bool) (s : State) (ok : s.memOk) :
    (bruWrite p el words stale s).memOk := by
  simp (maxDischargeDepth := 40) [bruWrite, ok]

@[simp] theorem bruHead_ok (p e : Nat) (en : Entry) (tainted : Bool) (s : State) (ok : s.memOk) :
    (bruHead p e en tainted s).memOk := by
  unfold bruHead
  repeat' (first
    | (rename_i e; have e' := okSnd_eq e; clear e; simp (maxDischargeDepth := 40) +zetaDelta [*] at e'; have e'' : State.memOk _ := e'; clear e')
    | split
    | extract_lets _)
  all_goals simp (maxDischargeDepth := 40) +zetaDelta +contextual [*]

@[simp] theorem bruPass_ok (e : Entry) (tainted : Bool) (limit : Nat) (s : State) (ok : s.memOk) :
    (bruPass e tainted limit s).memOk := by
  unfold bruPass
  all_goals simp (maxDischargeDepth := 40) +zetaDelta +contextual [*]

@[simp] theorem cutElem_ok (p e : Nat) (s : State) (ok : s.memOk) :
    (cutElem p e s).memOk := by
  unfold cutElem
  repeat' (first
    | (rename_i e; have e' := okSnd_eq e; clear e; simp (maxDischargeDepth := 40) +zetaDelta [*] at e'; have e'' : State.memOk _ := e'; clear e')
    | split
    | extract_lets _)
  all_goals simp (maxDischargeDepth := 40) +zetaDelta +contextual [*]

/-! ### Machine/Ink.lean -/

@[simp] theorem State.inkSats_ok (p n : Nat) (s : State) (ok : s.memOk) :
    (State.inkSats p n s).memOk := by
  simp (maxDischargeDepth := 40) +contextual [State.inkSats, ok]

@[simp] theorem State.countStaleBus_ok (p d : Nat) (s : State) (ok : s.memOk) :
    (State.countStaleBus p d s).memOk := by
  simp (maxDischargeDepth := 40) +contextual [State.countStaleBus, ok]

@[simp] theorem closeBus_ok (p : Nat) (tainted : Bool) (b : InkBus) (s : State) (ok : s.memOk) :
    (closeBus p tainted b s).memOk := by
  unfold closeBus
  repeat' (first | split | extract_lets _)
  all_goals simp (maxDischargeDepth := 40) +zetaDelta [*]

@[simp] theorem State.keepRow_ok (a : Nat) (w : Word64) (s : State) (ok : s.memOk) :
    (State.keepRow a w s).memOk := by
  simp (maxDischargeDepth := 40) [State.keepRow, ok]

@[simp] theorem inkRow_ok (p : Nat) (e : Entry) (tainted : Bool) (r : Nat) (bs : InkBus × State) (ok : okSnd bs) :
    okSnd (inkRow p e tainted r bs) := by
  obtain ⟨b, s⟩ := bs
  replace ok : s.memOk := ok
  unfold inkRow
  repeat' (first
    | (rename_i e; have e' := okSnd_eq e; clear e; simp (maxDischargeDepth := 40) +zetaDelta [*] at e'; have e'' : State.memOk _ := e'; clear e')
    | split
    | extract_lets _)
  all_goals simp (maxDischargeDepth := 40) +zetaDelta [*]

@[simp] theorem inkPass_ok (e : Entry) (tainted : Bool) (limit : Nat) (s : State) (ok : s.memOk) :
    (inkPass e tainted limit s).memOk := by
  unfold inkPass
  extract_lets p n
  split
  rename_i h
  have h := okSnd_eq h (foldl_okSnd _ _ _ (fun _ _ h => inkRow_ok _ _ _ _ _ h) ok)
  split <;> simp [h]

@[simp] theorem inkDecide_ok (p r : Nat) (s : State) (ok : s.memOk) :
    (inkDecide p r s).memOk := by
  unfold inkDecide
  repeat' (first
    | (rename_i e; have e' := okSnd_eq e; clear e; simp (maxDischargeDepth := 40) +zetaDelta [*] at e'; have e'' : State.memOk _ := e'; clear e')
    | split
    | extract_lets _)
  all_goals simp (maxDischargeDepth := 40) +zetaDelta +contextual [*]

/-! ### Machine/Tables.lean -/

@[simp] theorem State.levelWord_ok (p : Nat) (w : Word) (s : State) (ok : s.memOk) :
    okSnd (State.levelWord p w s) := by
  simp (maxDischargeDepth := 40) +contextual [State.levelWord, ok]

@[simp] theorem State.delayWord_ok (a : Nat) (w : Word) (s : State) (ok : s.memOk) :
    okSnd (State.delayWord a w s) := by
  simp (maxDischargeDepth := 40) +contextual [State.delayWord, ok]

@[simp] theorem State.tableWord_ok (a : Nat) (old new : Word) (s : State) (hm : s.memOk) :
    okSnd (State.tableWord a old new s) := by
  simp (maxDischargeDepth := 40) [State.tableWord, hm]

@[simp] theorem State.tableLoad_ok (a : Nat) (w : Word) (s : State) (ok : s.memOk) :
    okSnd (State.tableLoad a w s) := by
  simp (maxDischargeDepth := 40) +contextual [State.tableLoad, ok]

@[simp] theorem State.loadWord_ok (a : Nat) (w : Word) (s : State) (ok : s.memOk) :
    (State.loadWord a w s).memOk := by
  unfold State.loadWord
  repeat' (first
    | (rename_i e; have e' := okSnd_eq e; clear e; simp (maxDischargeDepth := 40) +zetaDelta [*] at e'; have e'' : State.memOk _ := e'; clear e')
    | split
    | extract_lets _)
  all_goals simp (maxDischargeDepth := 40) +zetaDelta +contextual [*]

@[simp] theorem State.loadPair_ok (a : Nat) (lo hi : Word) (s : State) (ok : s.memOk) :
    (State.loadPair a lo hi s).memOk := by
  unfold State.loadPair
  repeat' (first
    | (rename_i e; have e' := okSnd_eq e; clear e; simp (maxDischargeDepth := 40) +zetaDelta [*] at e'; have e'' : State.memOk _ := e'; clear e')
    | split
    | extract_lets _)
  all_goals simp (maxDischargeDepth := 40) +zetaDelta +contextual [*]

@[simp] theorem State.imageWords_ok (l : List (Nat × Word)) (s : State) (ok : s.memOk) : (State.imageWords l s).memOk := by
  induction l, s using State.imageWords.induct
  all_goals
    unfold State.imageWords
    (repeat' split) <;> simp_all (maxDischargeDepth := 40)

end Sys2Proof.Machine
end

