-- ==== Sys2Proof/Laws/KeepTag.lean ====
section
/-! SUPPORT. Every operation of the tags, the mirror pair, time bases and references keeps memory in its canonical form. -/

namespace Sys2Proof.Machine

/-! ### Machine/Tag.lean -/

@[simp] theorem State.authRead_ok (a : Nat) (s : State) (ok : s.memOk) :
    okSnd (State.authRead a s) := by
  unfold State.authRead
  repeat' (first
    | (rename_i e; have e' := okSnd_eq e; clear e; simp (maxDischargeDepth := 40) +zetaDelta [*] at e'; have e'' : State.memOk _ := e'; clear e')
    | split
    | extract_lets _)
  all_goals simp (maxDischargeDepth := 40) +zetaDelta [*]

@[simp] theorem State.authRefuse_ok (p : ChPath) (s : State) (ok : s.memOk) :
    (State.authRefuse p s).memOk := by
  unfold State.authRefuse
  repeat' (first | split | extract_lets _)
  all_goals simp (maxDischargeDepth := 40) +zetaDelta [*]

@[simp] theorem State.authJudge_ok (p : ChPath) (a : Nat) (s : State) (ok : s.memOk) :
    okSnd (State.authJudge p a s) := by
  unfold State.authJudge
  repeat' (first
    | (rename_i e; have e' := okSnd_eq e; clear e; simp (maxDischargeDepth := 40) +zetaDelta [*] at e'; have e'' : State.memOk _ := e'; clear e')
    | split
    | extract_lets _)
  all_goals simp (maxDischargeDepth := 40) +zetaDelta [*]

@[simp] theorem State.capRefuse_ok (s : State) (ok : s.memOk) :
    (State.capRefuse s).memOk := by
  simp (maxDischargeDepth := 40) [State.capRefuse, ok]

@[simp] theorem State.stage_ok (c : Change) (s : State) (ok : s.memOk) :
    (State.stage c s).memOk := by
  simp (maxDischargeDepth := 40) [State.stage, ok]

@[simp] theorem State.stageNext_ok (p : ChPath) (a : Nat) (value mask : Word) (s : State) (ok : s.memOk) :
    (State.stageNext p a value mask s).memOk := by
  simp (maxDischargeDepth := 40) [State.stageNext, ok]

@[simp] theorem State.setSeq_ok (src : Fin 32) (q : BitVec 16) (s : State) (ok : s.memOk) :
    (State.setSeq src q s).memOk := by
  simp (maxDischargeDepth := 40) [State.setSeq, ok]

@[simp] theorem State.tagWrite_ok (src : Fin 32) (t : RawTag) (s : State) (ok : s.memOk) :
    (State.tagWrite src t s).memOk := by
  simp (maxDischargeDepth := 40) [State.tagWrite, ok]

@[simp] theorem State.withdraw_ok (src : Fin 32) (a : Word) (ap : Stroke) (s : State) (ok : s.memOk) :
    okSnd (State.withdraw src a ap s) := by
  simp (maxDischargeDepth := 40) [State.withdraw, ok]

@[simp] theorem State.lateRestore_ok (src : Fin 32) (t : RawTag) (pulse : Bool) (s : State) (ok : s.memOk) :
    (State.lateRestore src t pulse s).memOk := by
  unfold State.lateRestore
  repeat' (first | split | extract_lets _)
  all_goals (simp (maxDischargeDepth := 40) +zetaDelta [*] <;> (repeat' split) <;> simp (maxDischargeDepth := 40) [*])

@[simp] theorem State.tagRevoke_ok (src : Fin 32) (t : RawTag) (pulse : Bool) (s : State) (ok : s.memOk) :
    (State.tagRevoke src t pulse s).memOk := by
  unfold State.tagRevoke
  split
  · split
    rename_i e
    have h := okSnd_eq e (State.withdraw_ok _ _ _ _ ok)
    exact ite_ok _ _ _ h (State.bump_ok _ _ h)
  · extract_lets s1 _ s2
    have h2 : s2.memOk := by simp (maxDischargeDepth := 40) [s2, s1, ok]
    split
    rename_i e
    have h := okSnd_eq e (State.withdraw_ok _ _ _ _ h2)
    exact ite_ok _ _ _ h (State.lateRestore_ok _ _ _ _ h)

@[simp] theorem State.relayTo_ok (t : Nat) (g : RawTag) (s : State) (ok : s.memOk) :
    (State.relayTo t g s).memOk := by
  simp (maxDischargeDepth := 40) [State.relayTo, ok]

@[simp] theorem State.judgeTag_ok (src : Fin 32) (t : RawTag) (s : State) (ok : s.memOk) :
    (State.judgeTag src t s).memOk := by
  unfold State.judgeTag
  split
  · extract_lets a b c
    have hc : c.memOk := by simp (maxDischargeDepth := 40) +zetaDelta +contextual [ok]
    split
    · split
      · simp [hc]
      · split
        rename_i e
        have h := okSnd_eq e (State.authJudge_ok _ _ _ hc)
        split
        · split <;> simp [h]
        · exact h
    · split <;> simp [hc]
  · simp [ok]

@[simp] theorem State.remember_ok (h : HistRec) (s : State) (ok : s.memOk) :
    (State.remember h s).memOk := by
  simp (maxDischargeDepth := 40) [State.remember, ok]

@[simp] theorem State.expireHistory_ok (s : State) (ok : s.memOk) :
    (State.expireHistory s).memOk := by
  simp (maxDischargeDepth := 40) [State.expireHistory, ok]

@[simp] theorem State.intakeWrite_ok (idx : Option Nat) (slot : Fin 256) (words : List (Word × Bool)) (s : State) (ok : s.memOk) :
    (State.intakeWrite idx slot words s).memOk := by
  unfold State.intakeWrite
  repeat' (first | split | extract_lets _)
  all_goals (simp (maxDischargeDepth := 40) +zetaDelta [*] <;> (repeat' split) <;> simp (maxDischargeDepth := 40) [*])

@[simp] theorem takeIntake_ok (r : Intake) (ns : Nat × State) (ok : okSnd ns) : okSnd (takeIntake r ns) := by
  obtain ⟨n, s⟩ := ns
  replace ok : s.memOk := ok
  unfold takeIntake
  repeat' (first
    | (rename_i e; have e' := okSnd_eq e; clear e; simp (maxDischargeDepth := 40) +zetaDelta [*] at e'; have e'' : State.memOk _ := e'; clear e')
    | split
    | extract_lets _)
  all_goals simp (maxDischargeDepth := 40) +zetaDelta [*]

@[simp] theorem State.takeIntakes_ok (s : State) (ok : s.memOk) : (State.takeIntakes s).memOk := by
  unfold State.takeIntakes
  extract_lets l t
  exact foldl_okSnd _ _ _ (fun _ _ h => takeIntake_ok _ _ h) (State.withStager_ok _ ok _)

@[simp] theorem State.selectPend_ok (port : Port) (a : Word) (s : State) (ok : s.memOk) :
    (State.selectPend port a s).memOk := by
  simp (maxDischargeDepth := 40) [State.selectPend, ok]

/-! ### Machine/Mirror.lean -/

@[simp] theorem State.setMirState_ok (x : Nat) (s : State) (ok : s.memOk) :
    (State.setMirState x s).memOk := by
  simp (maxDischargeDepth := 40) [State.setMirState, ok]

@[simp] theorem State.mirrorPhase1_ok (moved : Bool) (s : State) (ok : s.memOk) :
    (State.mirrorPhase1 moved s).memOk := by
  unfold State.mirrorPhase1
  repeat' (first | split | extract_lets _)
  all_goals (simp (maxDischargeDepth := 40) +zetaDelta [*] <;> (repeat' split) <;> simp (maxDischargeDepth := 40) [*])

@[simp] theorem State.stagerLoad_ok (l : List Nat) (s : State) (ok : s.memOk) :
    okSnd (State.stagerLoad l s) := by
  simp (maxDischargeDepth := 40) +contextual [State.stagerLoad, ok]

@[simp] theorem State.readMirror_ok (a : Nat) (s : State) (ok : s.memOk) :
    okSnd (State.readMirror a s) := by
  simp (maxDischargeDepth := 40) [State.readMirror, ok]

@[simp] theorem State.addW_ok (a : Nat) (d : Word64) (s : State) (ok : s.memOk) :
    (State.addW a d s).memOk := by
  simp (maxDischargeDepth := 40) [State.addW, ok]

@[simp] theorem State.digestBoundary_ok (s : State) (ok : s.memOk) :
    (State.digestBoundary s).memOk := by
  simp (maxDischargeDepth := 40) [State.digestBoundary, ok]

@[simp] theorem State.digestComplete_ok (s : State) (ok : s.memOk) :
    (State.digestComplete s).memOk := by
  unfold State.digestComplete
  repeat' (first | split | extract_lets _)
  all_goals simp (maxDischargeDepth := 40) +zetaDelta [*]

@[simp] theorem State.sweepWord_ok (x : Nat) (s : State) (ok : s.memOk) :
    (State.sweepWord x s).memOk := by
  unfold State.sweepWord
  repeat' (first
    | (rename_i e; have e' := okSnd_eq e; clear e; simp (maxDischargeDepth := 40) +zetaDelta [*] at e'; have e'' : State.memOk _ := e'; clear e')
    | split
    | extract_lets _)
  all_goals simp (maxDischargeDepth := 40) +zetaDelta [*]

@[simp] theorem State.passStep_ok (s : State) (ok : s.memOk) :
    (State.passStep s).memOk := by
  simp (maxDischargeDepth := 40) [State.passStep, ok]

@[simp] theorem State.snapWords_ok (s : State) (ok : s.memOk) : okSnd (State.snapWords s) := by
  unfold State.snapWords
  extract_lets n c
  refine foldl_okSnd _ _ _ (fun p i h => ?_) ok
  split
  · exact h
  · split
    rename_i e
    exact okSnd_eq e (State.readMirror_ok _ _ h)

@[simp] theorem State.passRecord_ok (g : RawTag) (s : State) (ok : s.memOk) :
    (State.passRecord g s).memOk := by
  simp (maxDischargeDepth := 40) [State.passRecord, ok]

@[simp] theorem State.peerArrived_ok (c : Colophon) (s : State) (ok : s.memOk) :
    (State.peerArrived c s).memOk := by
  simp (maxDischargeDepth := 40) [State.peerArrived, ok]

@[simp] theorem State.peerAges_ok (s : State) (ok : s.memOk) :
    (State.peerAges s).memOk := by
  unfold State.peerAges
  repeat' (first | split | extract_lets _)
  all_goals simp (maxDischargeDepth := 40) +zetaDelta [*]

@[simp] theorem State.chooseRole_ok (s : State) (ok : s.memOk) :
    (State.chooseRole s).memOk := by
  simp (maxDischargeDepth := 40) [State.chooseRole, ok]

@[simp] theorem State.promote_ok (s : State) (ok : s.memOk) :
    (State.promote s).memOk := by
  simp (maxDischargeDepth := 40) [State.promote, ok]

@[simp] theorem State.compareDigest_ok (c : Colophon) (s : State) (ok : s.memOk) : okSnd (State.compareDigest c s) := by
  have hr := fun n => State.setReg_ok s MIR_MATCH n ok
  unfold State.compareDigest
  extract_lets check
  split
  · exact State.bump_ok _ _ ok
  · split
    · exact State.bump_ok _ _ ok
    · split
      · exact ite_ok _ _ _ (State.mark_ok _ _ (State.mirNext_ok _ _ (hr _))) (hr _)
      · exact ite_ok _ _ _ (State.mark_ok _ _ (State.mirNext_ok _ _ (State.bump_ok _ _ (hr _)))) (State.bump_ok _ _ (hr _))

@[simp] theorem State.dualLead_ok (cmp : Option Bool) (s : State) (ok : s.memOk) :
    (State.dualLead cmp s).memOk := by
  simp (maxDischargeDepth := 40) [State.dualLead, ok]

@[simp] theorem State.mirrorRelease_ok (lead : Option Colophon) (s : State) (ok : s.memOk) :
    (State.mirrorRelease lead s).memOk := by
  unfold State.mirrorRelease
  split
  · extract_lets t comparing
    have ht : t.memOk := State.peerAges_ok _ ok
    split
    rename_i cmp u e
    have hu : u.memOk := by
      cases lead with
      | none => cases e; exact ht
      | some c =>
        dsimp only at e
        split at e
        · exact okSnd_eq e (State.compareDigest_ok _ _ ht)
        · cases e; exact ht
    clear e
    split <;> simp [hu]
  · exact ok

@[simp] theorem State.resync_ok (s : State) (ok : s.memOk) :
    (State.resync s).memOk := by
  simp (maxDischargeDepth := 40) [State.resync, ok]

@[simp] theorem State.handover_ok (s : State) (ok : s.memOk) :
    (State.handover s).memOk := by
  simp (maxDischargeDepth := 40) [State.handover, ok]

/-! ### Machine/TimeBase.lean -/

@[simp] theorem State.setTb_ok (i : Nat) (x : TimeBase) (s : State) (ok : s.memOk) :
    (State.setTb i x s).memOk := by
  simp (maxDischargeDepth := 40) [State.setTb, ok]

@[simp] theorem State.tbSync_ok (i : Nat) (s : State) (ok : s.memOk) :
    (State.tbSync i s).memOk := by
  simp (maxDischargeDepth := 40) [State.tbSync, ok]

@[simp] theorem State.tbsSync_ok (s : State) (ok : s.memOk) :
    (State.tbsSync s).memOk := by
  simp (maxDischargeDepth := 40) +contextual [State.tbsSync, ok]

@[simp] theorem State.pulFire_ok (k : Nat) (s : State) (ok : s.memOk) :
    (State.pulFire k s).memOk := by
  simp (maxDischargeDepth := 40) [State.pulFire, ok]

@[simp] theorem State.pulRefuse_ok (k : Nat) (s : State) (ok : s.memOk) :
    (State.pulRefuse k s).memOk := by
  simp (maxDischargeDepth := 40) +contextual [State.pulRefuse, ok]

@[simp] theorem State.pulArm_ok (k : Nat) (s : State) (ok : s.memOk) :
    (State.pulArm k s).memOk := by
  simp (maxDischargeDepth := 40) [State.pulArm, ok]

@[simp] theorem State.pulStepped_ok (i k : Nat) (s : State) (ok : s.memOk) :
    (State.pulStepped i k s).memOk := by
  simp (maxDischargeDepth := 40) [State.pulStepped, ok]

@[simp] theorem State.alignDue_ok (s : State) (ok : s.memOk) :
    (State.alignDue s).memOk := by
  simp (maxDischargeDepth := 40) [State.alignDue, ok]

@[simp] theorem State.tbStep_ok (i : Nat) (c : BitVec 64) (v : Nat) (p : Int) (s : State) (ok : s.memOk) :
    (State.tbStep i c v p s).memOk := by
  unfold State.tbStep
  repeat' (first | split | extract_lets _)
  all_goals simp (maxDischargeDepth := 40) +zetaDelta +contextual [*]

@[simp] theorem State.tbSet_ok (i : Nat) (s : State) (ok : s.memOk) :
    (State.tbSet i s).memOk := by
  simp (maxDischargeDepth := 40) [State.tbSet, ok]

@[simp] theorem State.tbAdj_ok (i : Nat) (ns : Word) (s : State) (ok : s.memOk) :
    (State.tbAdj i ns s).memOk := by
  simp (maxDischargeDepth := 40) [State.tbAdj, ok]

@[simp] theorem State.tbSetRate_ok (i : Nat) (r : Int) (s : State) (ok : s.memOk) :
    (State.tbSetRate i r s).memOk := by
  simp (maxDischargeDepth := 40) [State.tbSetRate, ok]

@[simp] theorem State.setCapt_ok (k : Nat) (x : Capt) (s : State) (ok : s.memOk) :
    (State.setCapt k x s).memOk := by
  simp (maxDischargeDepth := 40) [State.setCapt, ok]

@[simp] theorem State.capPop_ok (port : Port) (k : Nat) (s : State) (ok : s.memOk) :
    okSnd (State.capPop port k s) := by
  unfold State.capPop
  repeat' (first | split | extract_lets _)
  all_goals simp (maxDischargeDepth := 40) +zetaDelta [*]

/-! ### Machine/Reference.lean -/

@[simp] theorem State.setRefIn_ok (i : Nat) (x : RefIn) (s : State) (ok : s.memOk) :
    (State.setRefIn i x s).memOk := by
  simp (maxDischargeDepth := 40) [State.setRefIn, ok]

@[simp] theorem State.setAbsorb_ok (x : Int) (s : State) (ok : s.memOk) :
    (State.setAbsorb x s).memOk := by
  simp (maxDischargeDepth := 40) [State.setAbsorb, ok]

@[simp] theorem State.setY_ok (y : Int) (s : State) (ok : s.memOk) :
    (State.setY y s).memOk := by
  simp (maxDischargeDepth := 40) [State.setY, ok]

@[simp] theorem State.setH_ok (h : Int) (s : State) (ok : s.memOk) :
    (State.setH h s).memOk := by
  simp (maxDischargeDepth := 40) [State.setH, ok]

@[simp] theorem State.unlockLoop_ok (tell : Bool) (s : State) (ok : s.memOk) :
    (State.unlockLoop tell s).memOk := by
  simp (maxDischargeDepth := 40) [State.unlockLoop, ok]

@[simp] theorem State.setLoop_ok (l : Nat) (s : State) (ok : s.memOk) :
    (State.setLoop l s).memOk := by
  simp (maxDischargeDepth := 40) [State.setLoop, ok]

@[simp] theorem State.measureFast_ok (i : Nat) (s : State) (ok : s.memOk) :
    (State.measureFast i s).memOk := by
  unfold State.measureFast
  repeat' (first
    | (rename_i e; have e' := okSnd_eq e; clear e; simp (maxDischargeDepth := 40) +zetaDelta [*] at e'; have e'' : State.memOk _ := e'; clear e')
    | split
    | extract_lets _)
  all_goals simp (maxDischargeDepth := 40) +zetaDelta +contextual [*]

@[simp] theorem State.noteWindow_ok (i : Nat) (slow : Option Word) (s : State) (ok : s.memOk) :
    (State.noteWindow i slow s).memOk := by
  unfold State.noteWindow
  repeat' (first
    | (rename_i e; have e' := okSnd_eq e; clear e; simp (maxDischargeDepth := 40) +zetaDelta [*] at e'; have e'' : State.memOk _ := e'; clear e')
    | split
    | extract_lets _)
  all_goals simp (maxDischargeDepth := 40) +zetaDelta +contextual [*]

@[simp] theorem State.measure_ok (i : Nat) (s : State) (ok : s.memOk) :
    (State.measure i s).memOk := by
  simp (maxDischargeDepth := 40) +contextual [State.measure, ok]

@[simp] theorem State.qualify_ok (i : Nat) (s : State) (ok : s.memOk) :
    (State.qualify i s).memOk := by
  simp (maxDischargeDepth := 40) [State.qualify, ok]

@[simp] theorem State.enterHoldover_ok (s : State) (ok : s.memOk) :
    (State.enterHoldover s).memOk := by
  simp (maxDischargeDepth := 40) [State.enterHoldover, ok]

@[simp] theorem State.activate_ok (i : Nat) (s : State) (ok : s.memOk) :
    (State.activate i s).memOk := by
  simp (maxDischargeDepth := 40) [State.activate, ok]

@[simp] theorem State.narrow_ok (s : State) (ok : s.memOk) :
    (State.narrow s).memOk := by
  simp (maxDischargeDepth := 40) [State.narrow, ok]

@[simp] theorem State.judgePhase_ok (e : Int) (s : State) (ok : s.memOk) :
    (State.judgePhase e s).memOk := by
  simp (maxDischargeDepth := 40) [State.judgePhase, ok]

@[simp] theorem State.trim_ok (s : State) (ok : s.memOk) :
    (State.trim s).memOk := by
  unfold State.trim
  repeat' (first | split | extract_lets _)
  all_goals simp (maxDischargeDepth := 40) +zetaDelta [*]

@[simp] theorem State.loopSample_ok (x : BitVec 64) (s : State) (ok : s.memOk) :
    (State.loopSample x s).memOk := by
  simp (maxDischargeDepth := 40) +contextual [State.loopSample, ok]

@[simp] theorem State.holdCount_ok (s : State) (ok : s.memOk) :
    (State.holdCount s).memOk := by
  simp (maxDischargeDepth := 40) [State.holdCount, ok]

@[simp] theorem State.estimate_ok (s : State) (ok : s.memOk) :
    (State.estimate s).memOk := by
  simp (maxDischargeDepth := 40) +contextual [State.estimate, ok]

@[simp] theorem State.history_ok (s : State) (ok : s.memOk) :
    (State.history s).memOk := by
  simp (maxDischargeDepth := 40) +contextual [State.history, ok]

@[simp] theorem State.judgeDispute_ok (s : State) (ok : s.memOk) :
    (State.judgeDispute s).memOk := by
  simp (maxDischargeDepth := 40) +contextual [State.judgeDispute, ok]

@[simp] theorem State.reselect_ok (s : State) (ok : s.memOk) :
    (State.reselect s).memOk := by
  simp (maxDischargeDepth := 40) +contextual [State.reselect, ok]

@[simp] theorem State.updateLoop_ok (s : State) (ok : s.memOk) :
    (State.updateLoop s).memOk := by
  unfold State.updateLoop
  repeat' (first
    | (rename_i e; have e' := okSnd_eq e; clear e; simp (maxDischargeDepth := 40) +zetaDelta [*] at e'; have e'' : State.memOk _ := e'; clear e')
    | split
    | extract_lets _)
  all_goals simp (maxDischargeDepth := 40) +zetaDelta +contextual [*]

@[simp] theorem State.endEval_ok (s : State) (ok : s.memOk) :
    (State.endEval s).memOk := by
  simp (maxDischargeDepth := 40) +contextual [State.endEval, ok]

@[simp] theorem State.refsRestart_ok (s : State) (ok : s.memOk) :
    (State.refsRestart s).memOk := by
  unfold State.refsRestart
  all_goals simp (maxDischargeDepth := 40) +zetaDelta +contextual [*]

end Sys2Proof.Machine
end

