-- ==== Sys2Proof/Laws/KeepNet.lean ====
section
/-! SUPPORT. Every operation of the network transport keeps memory in its canonical form. -/

namespace Sys2Proof.Machine

/-! ### Machine/Net.lean -/

@[simp] theorem State.setNetPort_ok (i : Nat) (x : NetPort) (s : State) (ok : s.memOk) :
    (State.setNetPort i x s).memOk := by
  simp (maxDischargeDepth := 40) [State.setNetPort, ok]

@[simp] theorem State.setNw_ok (w : Nat) (x : NetNw) (s : State) (ok : s.memOk) :
    (State.setNw w x s).memOk := by
  simp (maxDischargeDepth := 40) [State.setNw, ok]

@[simp] theorem State.bumpBytes_ok (lo hi sat bit n : Nat) (s : State) (ok : s.memOk) :
    (State.bumpBytes lo hi sat bit n s).memOk := by
  simp (maxDischargeDepth := 40) [State.bumpBytes, ok]

@[simp] theorem State.rxBytes_ok (i n : Nat) (s : State) (ok : s.memOk) :
    (State.rxBytes i n s).memOk := by
  simp (maxDischargeDepth := 40) [State.rxBytes, ok]

@[simp] theorem State.rxGood_ok (i n : Nat) (s : State) (ok : s.memOk) :
    (State.rxGood i n s).memOk := by
  simp (maxDischargeDepth := 40) [State.rxGood, ok]

@[simp] theorem State.sendOn_ok (i : Nat) (f : Frame) (s : State) (ok : s.memOk) :
    (State.sendOn i f s).memOk := by
  unfold State.sendOn
  repeat' (first | split | extract_lets _)
  all_goals simp (maxDischargeDepth := 40) +zetaDelta [*]

@[simp] theorem State.startFrames_ok (i : Nat) (s : State) (ok : s.memOk) :
    (State.startFrames i s).memOk := by
  simp (maxDischargeDepth := 40) +contextual [State.startFrames, ok]

@[simp] theorem State.sendStream_ok (w : Nat) (f : Frame) (s : State) (ok : s.memOk) :
    (State.sendStream w f s).memOk := by
  simp (maxDischargeDepth := 40) [State.sendStream, ok]

@[simp] theorem State.sendCtl_ok (w : Nat) (f : Frame) (s : State) (ok : s.memOk) :
    (State.sendCtl w f s).memOk := by
  simp (maxDischargeDepth := 40) [State.sendCtl, ok]

@[simp] theorem State.dropQueued_ok (i : Nat) (s : State) (ok : s.memOk) : (State.dropQueued i s).memOk := by
  unfold State.dropQueued
  extract_lets old l t
  refine each_ok _ _ _ (fun f s h => ?_) (by simp (maxDischargeDepth := 40) +zetaDelta [ok])
  refine State.mark_ok _ _ (State.bump_ok _ _ ?_)
  split <;> simp [h]

@[simp] theorem State.setRxFlow_ok (f : Nat) (x : RxFlow) (s : State) (ok : s.memOk) :
    (State.setRxFlow f x s).memOk := by
  simp (maxDischargeDepth := 40) [State.setRxFlow, ok]

@[simp] theorem State.setTxFlow_ok (f : Nat) (x : TxFlow) (s : State) (ok : s.memOk) :
    (State.setTxFlow f x s).memOk := by
  simp (maxDischargeDepth := 40) [State.setTxFlow, ok]

@[simp] theorem State.reportChange_ok (w : Nat) (v6 : Bool) (j l : List Group) (s : State) (ok : s.memOk) :
    (State.reportChange w v6 j l s).memOk := by
  simp (maxDischargeDepth := 40) [State.reportChange, ok]

@[simp] theorem State.flowSet_ok (f : Nat) (on : Bool) (s : State) (ok : s.memOk) :
    (State.flowSet f on s).memOk := by
  unfold State.flowSet
  repeat' (first | split | extract_lets _)
  all_goals simp (maxDischargeDepth := 40) +zetaDelta +contextual [*]

@[simp] theorem State.setPtp_ok (w : Nat) (x : Ptp) (s : State) (ok : s.memOk) :
    (State.setPtp w x s).memOk := by
  simp (maxDischargeDepth := 40) [State.setPtp, ok]

@[simp] theorem State.announce_ok (w : Nat) (s : State) (ok : s.memOk) :
    (State.announce w s).memOk := by
  unfold State.announce
  all_goals simp (maxDischargeDepth := 40) +zetaDelta +contextual [*]

@[simp] theorem State.setActive_ok (w i : Nat) (s : State) (ok : s.memOk) :
    (State.setActive w i s).memOk := by
  simp (maxDischargeDepth := 40) [State.setActive, ok]

@[simp] theorem State.failover_ok (w i : Nat) (s : State) (ok : s.memOk) :
    (State.failover w i s).memOk := by
  simp (maxDischargeDepth := 40) [State.failover, ok]

@[simp] theorem State.linkDown_ok (i : Nat) (s : State) (ok : s.memOk) :
    (State.linkDown i s).memOk := by
  simp (maxDischargeDepth := 40) [State.linkDown, ok]

@[simp] theorem State.takesFrame_ok (i : Nat) (x : RxWire) (arp : Bool) (s : State) (ok : s.memOk) :
    okSnd (State.takesFrame i x arp s) := by
  simp (maxDischargeDepth := 40) +contextual [State.takesFrame, ok]

@[simp] theorem State.queryIn_ok (i : Nat) (v6 : Bool) (q : GroupQuery) (x : RxWire) (s : State) (ok : s.memOk) :
    (State.queryIn i v6 q x s).memOk := by
  simp (maxDischargeDepth := 40) +contextual [State.queryIn, ok]

/-! ### Machine/NetTx.lean -/

@[simp] theorem fetchBlocks_ok (base : Nat) (y0 : Nat) (s : State) (ok : s.memOk) :
    okSnd (fetchBlocks base y0 s) := by
  induction y0 generalizing base s
  all_goals
    unfold fetchBlocks
    repeat' (first
      | (rename_i e; have e' := okSnd_eq e; clear e; simp (maxDischargeDepth := 40) +zetaDelta [*] at e'; have e'' : State.memOk _ := e'; clear e')
      | split
      | extract_lets _)
    all_goals simp (maxDischargeDepth := 40) +zetaDelta [*]

@[simp] theorem State.gsfSend_ok (t : Nat) (p : GsfPacket) (s : State) (ok : s.memOk) :
    (State.gsfSend t p s).memOk := by
  unfold State.gsfSend
  repeat' (first | split | extract_lets _)
  all_goals simp (maxDischargeDepth := 40) +zetaDelta +contextual [*]

@[simp] theorem State.launchGsf_ok (t : Nat) (s : State) (ok : s.memOk) :
    (State.launchGsf t s).memOk := by
  simp (maxDischargeDepth := 40) [State.launchGsf, ok]

@[simp] theorem State.rtpSend_ok (t : Nat) (x0 : Int) (rows : List (List Word × Bool)) (s : State) (ok : s.memOk) :
    (State.rtpSend t x0 rows s).memOk := by
  unfold State.rtpSend
  repeat' (first | split | extract_lets _)
  all_goals simp (maxDischargeDepth := 40) +zetaDelta +contextual [*]

@[simp] theorem rtpFlush_ok (t : Nat) (y0 : Nat) (s : State) (ok : s.memOk) :
    (rtpFlush t y0 s).memOk := by
  induction y0 generalizing t s
  all_goals
    unfold rtpFlush
    repeat' (first | split | extract_lets _)
    all_goals simp (maxDischargeDepth := 40) +zetaDelta [*]

@[simp] theorem State.launchRtp_ok (t : Nat) (s : State) (ok : s.memOk) :
    (State.launchRtp t s).memOk := by
  simp (maxDischargeDepth := 40) [State.launchRtp, ok]

@[simp] theorem State.launchState_ok (t : Nat) (s : State) (ok : s.memOk) :
    (State.launchState t s).memOk := by
  simp (maxDischargeDepth := 40) [State.launchState, ok]

@[simp] theorem State.passAdvance_ok (s : State) (ok : s.memOk) :
    (State.passAdvance s).memOk := by
  simp (maxDischargeDepth := 40) [State.passAdvance, ok]

@[simp] theorem State.launchFlow_ok (t : Nat) (s : State) (ok : s.memOk) :
    (State.launchFlow t s).memOk := by
  simp (maxDischargeDepth := 40) [State.launchFlow, ok]

/-! ### Machine/NetRx.lean -/

@[simp] theorem State.noteSkew_ok (r : Nat) (a b : Option (BitVec 64)) (s : State) (ok : s.memOk) :
    (State.noteSkew r a b s).memOk := by
  unfold State.noteSkew
  repeat' (first | split | extract_lets _)
  all_goals simp (maxDischargeDepth := 40) +zetaDelta [*]

@[simp] theorem State.noteSeq_ok (r : Nat) (last : Option (BitVec 16)) (q : BitVec 16) (s : State) (ok : s.memOk) :
    (State.noteSeq r last q s).memOk := by
  unfold State.noteSeq
  repeat' (first | split | extract_lets _)
  all_goals simp (maxDischargeDepth := 40) +zetaDelta [*]

@[simp] theorem State.secondCopy_ok (f w : Nat) (c : Copy) (p : GsfPacket) (s : State) (ok : s.memOk) :
    (State.secondCopy f w c p s).memOk := by
  simp (maxDischargeDepth := 40) [State.secondCopy, ok]

@[simp] theorem State.firstCopy_ok (f w : Nat) (p : GsfPacket) (s : State) (ok : s.memOk) :
    (State.firstCopy f w p s).memOk := by
  unfold State.firstCopy
  repeat' (first | split | extract_lets _)
  all_goals simp (maxDischargeDepth := 40) +zetaDelta [*]

@[simp] theorem State.secondRtp_ok (f w : Nat) (c : RtpCopy) (s : State) (ok : s.memOk) :
    (State.secondRtp f w c s).memOk := by
  simp (maxDischargeDepth := 40) [State.secondRtp, ok]

@[simp] theorem State.firstRtp_ok (f w : Nat) (p : RtpPacket) (s : State) (ok : s.memOk) :
    (State.firstRtp f w p s).memOk := by
  simp (maxDischargeDepth := 40) [State.firstRtp, ok]

@[simp] theorem State.netWrite_ok (slot : Nat) (words : List Word) (stale : Bool) (s : State) (ok : s.memOk) :
    (State.netWrite slot words stale s).memOk := by
  simp (maxDischargeDepth := 40) [State.netWrite, ok]

@[simp] theorem State.releaseZeros_ok (f : Nat) (s : State) (ok : s.memOk) :
    (State.releaseZeros f s).memOk := by
  unfold State.releaseZeros
  all_goals simp (maxDischargeDepth := 40) +zetaDelta +contextual [*]

@[simp] theorem State.releaseMiss_ok (f : Nat) (s : State) (ok : s.memOk) :
    (State.releaseMiss f s).memOk := by
  simp (maxDischargeDepth := 40) [State.releaseMiss, ok]

@[simp] theorem State.releaseAudio_ok (f : Nat) (p : GsfPacket) (s : State) (ok : s.memOk) :
    (State.releaseAudio f p s).memOk := by
  unfold State.releaseAudio
  repeat' (first | split | extract_lets _)
  all_goals simp (maxDischargeDepth := 40) +zetaDelta +contextual [*]

@[simp] theorem State.watch_ok (f : Nat) (c : Option Copy) (s : State) (ok : s.memOk) :
    (State.watch f c s).memOk := by
  unfold State.watch
  repeat' (first | split | extract_lets _)
  all_goals simp (maxDischargeDepth := 40) +zetaDelta +contextual [*]

@[simp] theorem State.releaseCounts_ok (f : Nat) (c : Copy) (s : State) (ok : s.memOk) :
    (State.releaseCounts f c s).memOk := by
  simp (maxDischargeDepth := 40) [State.releaseCounts, ok]

@[simp] theorem State.releaseGsf_ok (f : Nat) (s : State) (ok : s.memOk) :
    (State.releaseGsf f s).memOk := by
  unfold State.releaseGsf
  repeat' (first | split | extract_lets _)
  all_goals (simp (maxDischargeDepth := 40) +zetaDelta [*] <;> (repeat' split) <;> simp (maxDischargeDepth := 40) [*])

@[simp] theorem State.releaseRtp_ok (f : Nat) (s : State) (ok : s.memOk) :
    (State.releaseRtp f s).memOk := by
  unfold State.releaseRtp
  extract_lets r j sn base cs hit hits rows full any onA onB a b c x d
  have ha : a.memOk := State.setFld_ok _ _ _ _ (State.setFld_ok _ _ _ _ ok)
  have hb : b.memOk := each_ok _ _ _ (fun _ _ h => State.netWrite_ok _ _ _ _ h) ha
  have hc : c.memOk := ite_ok _ _ _ (State.bump_ok _ _ hb) (ite_ok _ _ _ (State.bump_ok _ _ hb) hb)
  have hd : d.memOk := ite_ok _ _ _ (State.setRxFlow_ok _ _ _ (State.bump_ok _ _ hc)) (State.releaseMiss_ok _ _ hc)
  exact State.setRxFlow_ok _ _ _ hd

@[simp] theorem State.judgeSource_ok (i : Fin 32) (s : State) (ok : s.memOk) :
    (State.judgeSource i s).memOk := by
  unfold State.judgeSource
  repeat' (first | split | extract_lets _)
  all_goals simp (maxDischargeDepth := 40) +zetaDelta +contextual [*]

@[simp] theorem State.countNoSource_ok (f : Nat) (s : State) (ok : s.memOk) :
    (State.countNoSource f s).memOk := by
  simp (maxDischargeDepth := 40) [State.countNoSource, ok]

@[simp] theorem State.releaseDone_ok (f : Nat) (s : State) (ok : s.memOk) :
    (State.releaseDone f s).memOk := by
  simp (maxDischargeDepth := 40) [State.releaseDone, ok]

/-! ### Machine/PtpExec.lean -/

@[simp] theorem State.ptpIn_ok (w : Nat) (x : Wire) (s : State) (ok : s.memOk) :
    okSnd (State.ptpIn w x s) := by
  simp (maxDischargeDepth := 40) [State.ptpIn, ok]

@[simp] theorem State.setLock_ok (w : Nat) (b : Bool) (s : State) (ok : s.memOk) :
    (State.setLock w b s).memOk := by
  simp (maxDischargeDepth := 40) [State.setLock, ok]

@[simp] theorem State.ptpEnter_ok (w x : Nat) (s : State) (ok : s.memOk) :
    (State.ptpEnter w x s).memOk := by
  simp (maxDischargeDepth := 40) [State.ptpEnter, ok]

@[simp] theorem State.judgeLock_ok (w : Nat) (o : Int) (s : State) (ok : s.memOk) :
    (State.judgeLock w o s).memOk := by
  simp (maxDischargeDepth := 40) [State.judgeLock, ok]

@[simp] theorem State.setPend_ok (w : Nat) (p : Int) (s : State) (ok : s.memOk) :
    (State.setPend w p s).memOk := by
  simp (maxDischargeDepth := 40) [State.setPend, ok]

@[simp] theorem State.servo_ok (w : Nat) (o : Int) (s : State) (ok : s.memOk) :
    (State.servo w o s).memOk := by
  simp (maxDischargeDepth := 40) [State.servo, ok]

@[simp] theorem State.ptpMeasure_ok (w : Nat) (t1 : PtpTime) (corr : Int) (rx : BitVec 64) (s : State) (ok : s.memOk) :
    (State.ptpMeasure w t1 corr rx s).memOk := by
  simp (maxDischargeDepth := 40) [State.ptpMeasure, ok]

@[simp] theorem State.setDelay_ok (w : Nat) (d : Int) (s : State) (ok : s.memOk) :
    (State.setDelay w d s).memOk := by
  simp (maxDischargeDepth := 40) +contextual [State.setDelay, ok]

@[simp] theorem State.ptpSend_ok (w : Nat) (k : PtpKind) (q : BitVec 16) (t : Option PtpTime) (port : BitVec 80) (s : State) (ok : s.memOk) :
    (State.ptpSend w k q t port s).memOk := by
  simp (maxDischargeDepth := 40) +contextual [State.ptpSend, ok]

@[simp] theorem State.setGm_ok (w : Nat) (g : BitVec 64) (s : State) (ok : s.memOk) :
    (State.setGm w g s).memOk := by
  simp (maxDischargeDepth := 40) [State.setGm, ok]

@[simp] theorem State.ptpAlone_ok (w : Nat) (s : State) (ok : s.memOk) :
    (State.ptpAlone w s).memOk := by
  simp (maxDischargeDepth := 40) [State.ptpAlone, ok]

end Sys2Proof.Machine
end

