-- ==== Sys2Proof/Laws/KeepMode.lean ====
section
/-! SUPPORT. Every operation of the power, memory groups, relief, modes, boot and security keeps memory in its canonical form. -/

namespace Sys2Proof.Machine

/-! ### Machine/Spares.lean -/

@[simp] theorem State.mapRow_ok (x row : Nat) (s : State) (ok : s.memOk) :
    (State.mapRow x row s).memOk := by
  simp (maxDischargeDepth := 40) [State.mapRow, ok]

@[simp] theorem State.dropSpares_ok (d : Domain) (s : State) (ok : s.memOk) :
    (State.dropSpares d s).memOk := by
  unfold State.dropSpares
  all_goals simp (maxDischargeDepth := 40) +zetaDelta +contextual [*]

@[simp] theorem State.ledgerPush_ok (kind : Nat) (loc : Word) (s : State) (ok : s.memOk) :
    (State.ledgerPush kind loc s).memOk := by
  simp (maxDischargeDepth := 40) [State.ledgerPush, ok]

@[simp] theorem State.ledgerView_ok (s : State) (ok : s.memOk) :
    (State.ledgerView s).memOk := by
  simp (maxDischargeDepth := 40) [State.ledgerView, ok]

@[simp] theorem State.ledgerAppend_ok (kind : Nat) (loc : Word) (s : State) (ok : s.memOk) :
    (State.ledgerAppend kind loc s).memOk := by
  unfold State.ledgerAppend
  repeat' (first | split | extract_lets _)
  all_goals simp (maxDischargeDepth := 40) +zetaDelta +contextual [*]

/-! ### Machine/Power.lean -/

@[simp] theorem State.wipe_ok (d : Domain) (s : State) (ok : s.memOk) :
    (State.wipe d s).memOk := by
  unfold State.wipe
  repeat' (first | split | extract_lets _)
  all_goals simp (maxDischargeDepth := 40) +zetaDelta [*]

@[simp] theorem State.restoreRows_ok (d : Domain) (s : State) (ok : s.memOk) :
    (State.restoreRows d s).memOk := by
  unfold State.restoreRows
  all_goals simp (maxDischargeDepth := 40) +zetaDelta +contextual [*]

@[simp] theorem State.setGateBit_ok (d : Domain) (off : Nat) (b : Bool) (s : State) (ok : s.memOk) :
    (State.setGateBit d off b s).memOk := by
  unfold State.setGateBit
  repeat' (first | split | extract_lets _)
  all_goals simp (maxDischargeDepth := 40) +zetaDelta [*]

@[simp] theorem State.powerUp1_ok (d : Domain) (s : State) (ok : s.memOk) : (State.powerUp1 d s).memOk := by
  unfold State.powerUp1
  extract_lets x
  split
  · exact ok
  · rename_i s1 s2 _
    have h2 : s2.memOk := State.setDom_ok _ _ _ (State.restoreRows_ok _ _ (State.wipe_ok _ _ ok))
    split <;> simp [h2]

@[simp] theorem State.powerUp_ok (d : Domain) (s : State) (ok : s.memOk) :
    (State.powerUp d s).memOk := by
  unfold State.powerUp
  repeat' (first | split | extract_lets _)
  all_goals simp (maxDischargeDepth := 40) +zetaDelta [*]

@[simp] theorem State.lose_ok (d : Domain) (s : State) (ok : s.memOk) :
    (State.lose d s).memOk := by
  unfold State.lose
  repeat' (first
    | (rename_i e; have e' := okSnd_eq e; clear e; simp (maxDischargeDepth := 40) +zetaDelta [*] at e'; have e'' : State.memOk _ := e'; clear e')
    | split
    | extract_lets _)
  all_goals simp (maxDischargeDepth := 40) +zetaDelta +contextual [*]

@[simp] theorem State.powerDown1_ok (d : Domain) (s : State) (ok : s.memOk) :
    (State.powerDown1 d s).memOk := by
  simp (maxDischargeDepth := 40) [State.powerDown1, ok]

@[simp] theorem State.powerDown_ok (d : Domain) (s : State) (ok : s.memOk) :
    (State.powerDown d s).memOk := by
  unfold State.powerDown
  all_goals simp (maxDischargeDepth := 40) +zetaDelta +contextual [*]

@[simp] theorem State.openGate_ok (d : Domain) (s : State) (ok : s.memOk) :
    (State.openGate d s).memOk := by
  simp (maxDischargeDepth := 40) [State.openGate, ok]

@[simp] theorem State.closeGate_ok (d : Domain) (s : State) (ok : s.memOk) :
    (State.closeGate d s).memOk := by
  simp (maxDischargeDepth := 40) [State.closeGate, ok]

@[simp] theorem State.drained_ok (d : Domain) (s : State) (ok : s.memOk) :
    (State.drained d s).memOk := by
  simp (maxDischargeDepth := 40) [State.drained, ok]

@[simp] theorem State.setDead_ok (d : Domain) (s : State) (ok : s.memOk) :
    (State.setDead d s).memOk := by
  simp (maxDischargeDepth := 40) [State.setDead, ok]

/-! ### Machine/MemExec.lean -/

@[simp] theorem State.armNow_ok (g : Nat) (s : State) (ok : s.memOk) :
    (State.armNow g s).memOk := by
  simp (maxDischargeDepth := 40) [State.armNow, ok]

@[simp] theorem State.flipArm_ok (g : Nat) (s : State) (ok : s.memOk) :
    (State.flipArm g s).memOk := by
  simp (maxDischargeDepth := 40) [State.flipArm, ok]

@[simp] theorem State.flipDisarm_ok (g : Nat) (s : State) (ok : s.memOk) :
    (State.flipDisarm g s).memOk := by
  simp (maxDischargeDepth := 40) [State.flipDisarm, ok]

@[simp] theorem State.armDeferred_ok (s : State) (ok : s.memOk) :
    (State.armDeferred s).memOk := by
  unfold State.armDeferred
  all_goals simp (maxDischargeDepth := 40) +zetaDelta +contextual [*]

@[simp] theorem State.clearSummary_ok (g : Nat) (s : State) (ok : s.memOk) :
    (State.clearSummary g s).memOk := by
  unfold State.clearSummary
  repeat' (first | split | extract_lets _)
  all_goals simp (maxDischargeDepth := 40) +zetaDelta +contextual [*]

@[simp] theorem State.scrubGo_ok (g : Nat) (s : State) (ok : s.memOk) :
    (State.scrubGo g s).memOk := by
  unfold State.scrubGo
  repeat' (first | split | extract_lets _)
  all_goals simp (maxDischargeDepth := 40) +zetaDelta [*]

@[simp] theorem State.scrubStop_ok (g : Nat) (s : State) (ok : s.memOk) :
    (State.scrubStop g s).memOk := by
  simp (maxDischargeDepth := 40) [State.scrubStop, ok]

@[simp] theorem State.markHard_ok (g a : Nat) (s : State) (ok : s.memOk) :
    (State.markHard g a s).memOk := by
  unfold State.markHard
  repeat' (first | split | extract_lets _)
  all_goals simp (maxDischargeDepth := 40) +zetaDelta [*]

@[simp] theorem State.flipsBack_ok (a : Nat) (w : Word64) (m : Mark) (s : State) (ok : s.memOk) :
    (State.flipsBack a w m s).memOk := by
  simp (maxDischargeDepth := 40) +contextual [State.flipsBack, ok]

@[simp] theorem State.scrubRead_ok (g a : Nat) (stuck : Bool) (s : State) (ok : s.memOk) :
    okSnd (State.scrubRead g a stuck s) := by
  simp (maxDischargeDepth := 40) [State.scrubRead, ok]

@[simp] theorem State.sumAddr_ok (g a : Nat) (s : State) (ok : s.memOk) :
    (State.sumAddr g a s).memOk := by
  simp (maxDischargeDepth := 40) [State.sumAddr, ok]

@[simp] theorem State.summarise_ok (g a : Nat) (r : MemRes) (s : State) (ok : s.memOk) :
    (State.summarise g a r s).memOk := by
  unfold State.summarise
  repeat' (first | split | extract_lets _)
  all_goals simp (maxDischargeDepth := 40) +zetaDelta [*]

@[simp] theorem State.scrubNext_ok (g a : Nat) (s : State) (ok : s.memOk) :
    (State.scrubNext g a s).memOk := by
  unfold State.scrubNext
  repeat' (first | split | extract_lets _)
  all_goals simp (maxDischargeDepth := 40) +zetaDelta [*]

@[simp] theorem State.setPatrol_ok (g : Nat) (a : Option Nat) (s : State) (ok : s.memOk) :
    (State.setPatrol g a s).memOk := by
  simp (maxDischargeDepth := 40) [State.setPatrol, ok]

@[simp] theorem State.scrubWord_ok (g : Nat) (stuck : Bool) (s : State) (ok : s.memOk) :
    (State.scrubWord g stuck s).memOk := by
  unfold State.scrubWord
  repeat' (first
    | (rename_i e; have e' := okSnd_eq e; clear e; simp (maxDischargeDepth := 40) +zetaDelta [*] at e'; have e'' : State.memOk _ := e'; clear e')
    | split
    | extract_lets _)
  all_goals simp (maxDischargeDepth := 40) +zetaDelta [*]

@[simp] theorem State.copyRow_ok (a : Nat) (s : State) (ok : s.memOk) :
    (State.copyRow a s).memOk := by
  unfold State.copyRow
  all_goals simp (maxDischargeDepth := 40) +zetaDelta +contextual [*]

@[simp] theorem State.repairRow_ok (g : Nat) (s : State) (ok : s.memOk) :
    (State.repairRow g s).memOk := by
  unfold State.repairRow
  repeat' (first | split | extract_lets _)
  all_goals simp (maxDischargeDepth := 40) +zetaDelta [*]

/-! ### Machine/SluBase.lean -/

@[simp] theorem State.setSluState_ok (c st : Nat) (s : State) (ok : s.memOk) :
    (State.setSluState c st s).memOk := by
  simp (maxDischargeDepth := 40) [State.setSluState, ok]

@[simp] theorem State.setChain_ok (c : Nat) (x : ChainSt) (s : State) (ok : s.memOk) :
    (State.setChain c x s).memOk := by
  simp (maxDischargeDepth := 40) [State.setChain, ok]

@[simp] theorem State.sluRaise_ok (e : Evt) (c : Nat) (s : State) (ok : s.memOk) :
    (State.sluRaise e c s).memOk := by
  simp (maxDischargeDepth := 40) [State.sluRaise, ok]

@[simp] theorem State.sluStart_ok (c : Nat) (s : State) (ok : s.memOk) :
    (State.sluStart c s).memOk := by
  simp (maxDischargeDepth := 40) [State.sluStart, ok]

@[simp] theorem State.sluEnd_ok (c st : Nat) (s : State) (ok : s.memOk) :
    (State.sluEnd c st s).memOk := by
  simp (maxDischargeDepth := 40) [State.sluEnd, ok]

@[simp] theorem State.sluStop_ok (c : Nat) (s : State) (ok : s.memOk) :
    (State.sluStop c s).memOk := by
  simp (maxDischargeDepth := 40) [State.sluStop, ok]

@[simp] theorem State.sluStopAll_ok (s : State) (ok : s.memOk) :
    (State.sluStopAll s).memOk := by
  unfold State.sluStopAll
  all_goals simp (maxDischargeDepth := 40) +zetaDelta +contextual [*]

@[simp] theorem State.sluTrigger_ok (c : Nat) (first : Bool) (s : State) (ok : s.memOk) :
    (State.sluTrigger c first s).memOk := by
  simp (maxDischargeDepth := 40) [State.sluTrigger, ok]

@[simp] theorem State.earlyEnd_ok (l a : Nat) (s : State) (ok : s.memOk) :
    (State.earlyEnd l a s).memOk := by
  simp (maxDischargeDepth := 40) +contextual [State.earlyEnd, ok]

/-! ### Machine/Relief.lean -/

@[simp] theorem State.setRelState_ok (x v : Nat) (s : State) (ok : s.memOk) :
    (State.setRelState x v s).memOk := by
  simp (maxDischargeDepth := 40) [State.setRelState, ok]

@[simp] theorem State.setMove_ok (x : Nat) (m : Option ReliefMove) (s : State) (ok : s.memOk) :
    (State.setMove x m s).memOk := by
  simp (maxDischargeDepth := 40) [State.setMove, ok]

@[simp] theorem State.countBuses_ok (e : Entry) (s : State) (ok : s.memOk) :
    (State.countBuses e s).memOk := by
  simp (maxDischargeDepth := 40) +contextual [State.countBuses, ok]

@[simp] theorem State.taintNow_ok (i : Nat) (e : Entry) (s : State) (ok : s.memOk) :
    (State.taintNow i e s).memOk := by
  simp (maxDischargeDepth := 40) [State.taintNow, ok]

@[simp] theorem State.spreadTaint_ok (s : State) (ok : s.memOk) :
    (State.spreadTaint s).memOk := by
  simp (maxDischargeDepth := 40) +contextual [State.spreadTaint, ok]

@[simp] theorem State.taintStarted_ok (f : Entry → Bool) (s : State) (ok : s.memOk) :
    (State.taintStarted f s).memOk := by
  unfold State.taintStarted
  all_goals simp (maxDischargeDepth := 40) +zetaDelta +contextual [*]

@[simp] theorem State.cutSlu_ok (done : Nat) (e : Entry) (s : State) (ok : s.memOk) :
    (State.cutSlu done e s).memOk := by
  simp (maxDischargeDepth := 40) +contextual [State.cutSlu, ok]

@[simp] theorem State.cutUnit_ok (idx : Nat) (e : Entry) (s : State) (hm : s.memOk) :
    (State.cutUnit idx e s).memOk := by
  unfold State.cutUnit
  repeat' (first | split | extract_lets _)
  all_goals simp (maxDischargeDepth := 40) +zetaDelta +contextual [*]

@[simp] theorem State.stopEntry_ok (i : Nat) (e : Entry) (s : State) (ok : s.memOk) :
    (State.stopEntry i e s).memOk := by
  simp (maxDischargeDepth := 40) +contextual [State.stopEntry, ok]

@[simp] theorem State.stopRunning_ok (f : Entry → Bool) (s : State) (ok : s.memOk) :
    (State.stopRunning f s).memOk := by
  simp (maxDischargeDepth := 40) +contextual [State.stopRunning, ok]

@[simp] theorem State.joinX_ok (x : Nat) (s : State) (ok : s.memOk) :
    (State.joinX x s).memOk := by
  simp (maxDischargeDepth := 40) [State.joinX, ok]

@[simp] theorem State.retireDefer_ok (s : State) (ok : s.memOk) :
    (State.retireDefer s).memOk := by
  simp (maxDischargeDepth := 40) +contextual [State.retireDefer, ok]

@[simp] theorem State.unchoose_ok (s : State) (ok : s.memOk) :
    (State.unchoose s).memOk := by
  simp (maxDischargeDepth := 40) +contextual [State.unchoose, ok]

@[simp] theorem State.noCover_ok (s : State) (ok : s.memOk) :
    (State.noCover s).memOk := by
  simp (maxDischargeDepth := 40) [State.noCover, ok]

@[simp] theorem State.choose_ok (i : Nat) (s : State) (ok : s.memOk) :
    (State.choose i s).memOk := by
  simp (maxDischargeDepth := 40) +contextual [State.choose, ok]

@[simp] theorem State.selectReduced_ok (s : State) (ok : s.memOk) :
    (State.selectReduced s).memOk := by
  unfold State.selectReduced
  repeat' (first | split | extract_lets _)
  all_goals simp (maxDischargeDepth := 40) +zetaDelta [*]

@[simp] theorem State.activateRuling_ok (i : Nat) (s : State) (ok : s.memOk) :
    (State.activateRuling i s).memOk := by
  unfold State.activateRuling
  repeat' (first | split | extract_lets _)
  all_goals simp (maxDischargeDepth := 40) +zetaDelta [*]

@[simp] theorem State.beginMove_ok (x : Fin 16) (h : Fin 16) (rotation retire : Bool) (s : State) (ok : s.memOk) :
    (State.beginMove x h rotation retire s).memOk := by
  simp (maxDischargeDepth := 40) [State.beginMove, ok]

@[simp] theorem State.endRotation_ok (x : Fin 16) (m : ReliefMove) (next : Option (Fin 16 × Bool)) (s : State) (ok : s.memOk) :
    (State.endRotation x m next s).memOk := by
  unfold State.endRotation
  repeat' (first | split | extract_lets _)
  all_goals simp (maxDischargeDepth := 40) +zetaDelta [*]

@[simp] theorem State.needRelief_ok (x : Fin 16) (h : Fin 16) (retire : Bool) (s : State) (ok : s.memOk) :
    okSnd (State.needRelief x h retire s) := by
  unfold State.needRelief
  repeat' (first | split | extract_lets _)
  all_goals simp (maxDischargeDepth := 40) +zetaDelta [*]

@[simp] theorem State.retireByRuling_ok (n : Fin 272) (s : State) (ok : s.memOk) :
    (State.retireByRuling n s).memOk := by
  unfold State.retireByRuling
  repeat' (first | split | extract_lets _)
  all_goals simp (maxDischargeDepth := 40) +zetaDelta [*]

@[simp] theorem State.noRelief_ok (x : Fin 16) (h : Fin 16) (retire : Bool) (s : State) (ok : s.memOk) :
    (State.noRelief x h retire s).memOk := by
  simp (maxDischargeDepth := 40) +contextual [State.noRelief, ok]

@[simp] theorem State.noReliefNext_ok (x : Fin 16) (next : Option (Fin 16 × Bool)) (s : State) (ok : s.memOk) :
    (State.noReliefNext x next s).memOk := by
  unfold State.noReliefNext
  repeat' (first
    | (rename_i e; have e' := okSnd_eq e; clear e; simp (maxDischargeDepth := 40) +zetaDelta [*] at e'; have e'' : State.memOk _ := e'; clear e')
    | split
    | extract_lets _)
  all_goals simp (maxDischargeDepth := 40) +zetaDelta +contextual [*]

@[simp] theorem State.loseNib_ok (n : Fin 272) (s : State) (ok : s.memOk) :
    (State.loseNib n s).memOk := by
  simp (maxDischargeDepth := 40) [State.loseNib, ok]

@[simp] theorem State.dropTests_ok (f : TestRun → Bool) (s : State) (ok : s.memOk) :
    (State.dropTests f s).memOk := by
  simp (maxDischargeDepth := 40) +contextual [State.dropTests, ok]

@[simp] theorem State.goHome_ok (x : Fin 16) (s : State) (ok : s.memOk) :
    (State.goHome x s).memOk := by
  unfold State.goHome
  repeat' (first
    | (rename_i e; have e' := okSnd_eq e; clear e; simp (maxDischargeDepth := 40) +zetaDelta [*] at e'; have e'' : State.memOk _ := e'; clear e')
    | split
    | extract_lets _)
  all_goals simp (maxDischargeDepth := 40) +zetaDelta +contextual [*]

@[simp] theorem State.loseRelief_ok (x : Fin 16) (s : State) (ok : s.memOk) :
    (State.loseRelief x s).memOk := by
  unfold State.loseRelief
  repeat' (first | split | extract_lets _)
  all_goals (simp (maxDischargeDepth := 40) +zetaDelta [*] <;> (repeat' split) <;> simp (maxDischargeDepth := 40) [*])

@[simp] theorem loadWords_ok (a : Nat) (l : List Word) (s : State) (ok : s.memOk) :
    (loadWords a l s).memOk := by
  simp (maxDischargeDepth := 40) +contextual [loadWords, ok]

@[simp] theorem State.loadNib_ok (n : Nat) (im : NibImage) (s : State) (ok : s.memOk) :
    (State.loadNib n im s).memOk := by
  simp (maxDischargeDepth := 40) +contextual [State.loadNib, ok]

@[simp] theorem State.prepare_ok (x : Fin 16) (s : State) (ok : s.memOk) :
    (State.prepare x s).memOk := by
  unfold State.prepare
  repeat' (first
    | (rename_i e; have e' := okSnd_eq e; clear e; simp (maxDischargeDepth := 40) +zetaDelta [*] at e'; have e'' : State.memOk _ := e'; clear e')
    | split
    | extract_lets _)
  all_goals simp (maxDischargeDepth := 40) +zetaDelta +contextual [*]

@[simp] theorem State.prepareReduced_ok (s : State) (ok : s.memOk) :
    (State.prepareReduced s).memOk := by
  unfold State.prepareReduced
  repeat' (first
    | (rename_i e; have e' := okSnd_eq e; clear e; simp (maxDischargeDepth := 40) +zetaDelta [*] at e'; have e'' : State.memOk _ := e'; clear e')
    | split
    | extract_lets _)
  all_goals simp (maxDischargeDepth := 40) +zetaDelta +contextual [*]

@[simp] theorem State.commitMove_ok (x : Fin 16) (s : State) (ok : s.memOk) :
    (State.commitMove x s).memOk := by
  unfold State.commitMove
  repeat' (first | split | extract_lets _)
  all_goals simp (maxDischargeDepth := 40) +zetaDelta [*]

@[simp] theorem copyRam_ok (a b : Nat) (y0 : Nat) (s : State) (ok : s.memOk) :
    (copyRam a b y0 s).memOk := by
  induction y0 generalizing a b s
  all_goals
    unfold copyRam
    repeat' (first
      | (rename_i e; have e' := okSnd_eq e; clear e; simp (maxDischargeDepth := 40) +zetaDelta [*] at e'; have e'' : State.memOk _ := e'; clear e')
      | split
      | extract_lets _)
    all_goals simp (maxDischargeDepth := 40) +zetaDelta [*]

@[simp] theorem State.carry_ok (home : Nat) (a b : Fin 272) (s : State) (ok : s.memOk) :
    okSnd (State.carry home a b s) := by
  unfold State.carry
  repeat' (first | split | extract_lets _)
  all_goals simp (maxDischargeDepth := 40) +zetaDelta +contextual [*]

@[simp] theorem State.countRetired_ok (s : State) (ok : s.memOk) :
    (State.countRetired s).memOk := by
  simp (maxDischargeDepth := 40) [State.countRetired, ok]

@[simp] theorem State.retireNow_ok (n : Fin 272) (s : State) (ok : s.memOk) :
    (State.retireNow n s).memOk := by
  simp (maxDischargeDepth := 40) [State.retireNow, ok]

@[simp] theorem State.reliefApply_ok (x : Fin 16) (s : State) (ok : s.memOk) :
    (State.reliefApply x s).memOk := by
  unfold State.reliefApply
  repeat' (first
    | (rename_i e; have e' := okSnd_eq e; clear e; simp (maxDischargeDepth := 40) +zetaDelta [*] at e'; have e'' : State.memOk _ := e'; clear e')
    | split
    | extract_lets _)
  all_goals simp (maxDischargeDepth := 40) +zetaDelta [*]

@[simp] theorem State.rotate_ok (x : Fin 16) (h : Fin 16) (s : State) (ok : s.memOk) :
    (State.rotate x h s).memOk := by
  simp (maxDischargeDepth := 40) [State.rotate, ok]

@[simp] theorem State.rotationStep_ok (x : Fin 16) (s : State) (ok : s.memOk) :
    (State.rotationStep x s).memOk := by
  unfold State.rotationStep
  repeat' (first | split | extract_lets _)
  all_goals simp (maxDischargeDepth := 40) +zetaDelta [*]

@[simp] theorem State.haltNib_ok (n : Fin 272) (s : State) (ok : s.memOk) :
    (State.haltNib n s).memOk := by
  simp (maxDischargeDepth := 40) [State.haltNib, ok]

@[simp] theorem State.addCoff_ok (c : Contain) (s : State) (ok : s.memOk) :
    (State.addCoff c s).memOk := by
  simp (maxDischargeDepth := 40) [State.addCoff, ok]

@[simp] theorem State.coffNib_ok (n : Fin 272) (s : State) (ok : s.memOk) :
    (State.coffNib n s).memOk := by
  simp (maxDischargeDepth := 40) [State.coffNib, ok]

@[simp] theorem State.coffQuire_ok (x : Fin 16) (s : State) (ok : s.memOk) :
    (State.coffQuire x s).memOk := by
  unfold State.coffQuire
  repeat' (first | split | extract_lets _)
  all_goals simp (maxDischargeDepth := 40) +zetaDelta +contextual [*]

@[simp] theorem State.coffPolder_ok (p : Fin 4) (s : State) (ok : s.memOk) :
    (State.coffPolder p s).memOk := by
  unfold State.coffPolder
  repeat' (first | split | extract_lets _)
  all_goals simp (maxDischargeDepth := 40) +zetaDelta +contextual [*]

@[simp] theorem State.recordCoff_ok (c : Contain) (s : State) (ok : s.memOk) :
    (State.recordCoff c s).memOk := by
  unfold State.recordCoff
  repeat' (first | split | extract_lets _)
  all_goals simp (maxDischargeDepth := 40) +zetaDelta [*]

@[simp] theorem State.recordCoffs_ok (s : State) (ok : s.memOk) :
    (State.recordCoffs s).memOk := by
  unfold State.recordCoffs
  repeat' (first | split | extract_lets _)
  all_goals simp (maxDischargeDepth := 40) +zetaDelta +contextual [*]

@[simp] theorem State.retireDue_ok (n : Fin 272) (s : State) (ok : s.memOk) :
    (State.retireDue n s).memOk := by
  simp (maxDischargeDepth := 40) [State.retireDue, ok]

@[simp] theorem State.retire_ok (n : Fin 272) (s : State) (ok : s.memOk) :
    (State.retire n s).memOk := by
  simp (maxDischargeDepth := 40) [State.retire, ok]

@[simp] theorem State.rulingApply_ok (s : State) (ok : s.memOk) :
    (State.rulingApply s).memOk := by
  unfold State.rulingApply
  repeat' (first | split | extract_lets _)
  all_goals simp (maxDischargeDepth := 40) +zetaDelta +contextual [*]

@[simp] theorem State.rewriteRange_ok (lo n : Nat) (s : State) (ok : s.memOk) :
    (State.rewriteRange lo n s).memOk := by
  simp (maxDischargeDepth := 40) +contextual [State.rewriteRange, ok]

@[simp] theorem State.rewriteRow_ok (p r : Nat) (s : State) (ok : s.memOk) :
    (State.rewriteRow p r s).memOk := by
  unfold State.rewriteRow
  repeat' (first
    | (rename_i e; have e' := okSnd_eq e; clear e; simp (maxDischargeDepth := 40) +zetaDelta [*] at e'; have e'' : State.memOk _ := e'; clear e')
    | split
    | extract_lets _)
  all_goals simp (maxDischargeDepth := 40) +zetaDelta +contextual [*]

@[simp] theorem State.rewriteElem_ok (p e : Nat) (s : State) (ok : s.memOk) :
    (State.rewriteElem p e s).memOk := by
  unfold State.rewriteElem
  repeat' (first
    | (rename_i e; have e' := okSnd_eq e; clear e; simp (maxDischargeDepth := 40) +zetaDelta [*] at e'; have e'' : State.memOk _ := e'; clear e')
    | split
    | extract_lets _)
  all_goals simp (maxDischargeDepth := 40) +zetaDelta +contextual [*]

@[simp] theorem State.rewriteMap_ok (a : Nat) (s : State) (ok : s.memOk) :
    (State.rewriteMap a s).memOk := by
  unfold State.rewriteMap
  repeat' (first
    | (rename_i e; have e' := okSnd_eq e; clear e; simp (maxDischargeDepth := 40) +zetaDelta [*] at e'; have e'' : State.memOk _ := e'; clear e')
    | split
    | extract_lets _)
  all_goals simp (maxDischargeDepth := 40) +zetaDelta +contextual [*]

/-! ### Machine/Modes.lean -/

@[simp] theorem State.kick_ok (port : Port) (s : State) (ok : s.memOk) :
    (State.kick port s).memOk := by
  simp (maxDischargeDepth := 40) [State.kick, ok]

@[simp] theorem State.run_ok (s : State) (ok : s.memOk) :
    (State.run s).memOk := by
  simp (maxDischargeDepth := 40) [State.run, ok]

@[simp] theorem State.poise_ok (s : State) (ok : s.memOk) :
    (State.poise s).memOk := by
  simp (maxDischargeDepth := 40) [State.poise, ok]

@[simp] theorem State.reload_ok (s : State) (ok : s.memOk) :
    (State.reload s).memOk := by
  simp (maxDischargeDepth := 40) [State.reload, ok]

@[simp] theorem State.setTestState_ok (v : Nat) (s : State) (ok : s.memOk) :
    (State.setTestState v s).memOk := by
  simp (maxDischargeDepth := 40) [State.setTestState, ok]

@[simp] theorem State.testAccept_ok (s : State) (ok : s.memOk) :
    (State.testAccept s).memOk := by
  simp (maxDischargeDepth := 40) [State.testAccept, ok]

@[simp] theorem State.addTest_ok (t : TestRun) (s : State) (ok : s.memOk) :
    (State.addTest t s).memOk := by
  simp (maxDischargeDepth := 40) [State.addTest, ok]

@[simp] theorem State.testNib_ok (i : Nat) (s : State) (ok : s.memOk) :
    (State.testNib i s).memOk := by
  unfold State.testNib
  repeat' (first | split | extract_lets _)
  all_goals simp (maxDischargeDepth := 40) +zetaDelta [*]

@[simp] theorem State.startFull_ok (s : State) (ok : s.memOk) :
    (State.startFull s).memOk := by
  simp (maxDischargeDepth := 40) [State.startFull, ok]

@[simp] theorem State.testFull_ok (s : State) (ok : s.memOk) :
    (State.testFull s).memOk := by
  simp (maxDischargeDepth := 40) [State.testFull, ok]

@[simp] theorem State.testCancel_ok (s : State) (ok : s.memOk) :
    (State.testCancel s).memOk := by
  simp (maxDischargeDepth := 40) [State.testCancel, ok]

@[simp] theorem State.testResult_ok (n : Nat) (r : TestResult) (s : State) (ok : s.memOk) :
    (State.testResult n r s).memOk := by
  simp (maxDischargeDepth := 40) [State.testResult, ok]

@[simp] theorem fillFree_ok (a : Nat) (y0 : Nat) (s : State) (ok : s.memOk) :
    (fillFree a y0 s).memOk := by
  induction y0 generalizing a s
  all_goals
    unfold fillFree
    repeat' (first
      | (rename_i e; have e' := okSnd_eq e; clear e; simp (maxDischargeDepth := 40) +zetaDelta [*] at e'; have e'' : State.memOk _ := e'; clear e')
      | split
      | extract_lets _)
    all_goals simp (maxDischargeDepth := 40) +zetaDelta [*]

@[simp] theorem State.nibPatterns_ok (n : Fin 272) (s : State) (ok : s.memOk) :
    (State.nibPatterns n s).memOk := by
  simp (maxDischargeDepth := 40) +contextual [State.nibPatterns, ok]

@[simp] theorem State.rotationFail_ok (x : Fin 16) (n : Nat) (s : State) (ok : s.memOk) :
    (State.rotationFail x n s).memOk := by
  simp (maxDischargeDepth := 40) [State.rotationFail, ok]

@[simp] theorem State.testEnded_ok (t : TestRun) (r : TestResult) (s : State) (ok : s.memOk) :
    (State.testEnded t r s).memOk := by
  unfold State.testEnded
  repeat' (first | split | extract_lets _)
  all_goals simp (maxDischargeDepth := 40) +zetaDelta [*]

@[simp] theorem State.testPatterns_ok (s : State) (ok : s.memOk) :
    (State.testPatterns s).memOk := by
  unfold State.testPatterns
  all_goals simp (maxDischargeDepth := 40) +zetaDelta +contextual [*]

@[simp] theorem State.resetBanks_ok (l : List (Nat × Nat)) (s : State) (ok : s.memOk) :
    (State.resetBanks l s).memOk := by
  unfold State.resetBanks
  all_goals simp (maxDischargeDepth := 40) +zetaDelta +contextual [*]

@[simp] theorem State.allOff_ok (s : State) (ok : s.memOk) :
    (State.allOff s).memOk := by
  unfold State.allOff
  repeat' (first | split | extract_lets _)
  all_goals simp (maxDischargeDepth := 40) +zetaDelta +contextual [*]

@[simp] theorem State.dropDeferred_ok (s : State) (ok : s.memOk) :
    (State.dropDeferred s).memOk := by
  unfold State.dropDeferred
  repeat' (first | split | extract_lets _)
  all_goals simp (maxDischargeDepth := 40) +zetaDelta +contextual [*]

@[simp] theorem State.folioClear_ok (s : State) (ok : s.memOk) :
    (State.folioClear s).memOk := by
  simp (maxDischargeDepth := 40) [State.folioClear, ok]

@[simp] theorem State.loadEntry_ok (s : State) (ok : s.memOk) :
    (State.loadEntry s).memOk := by
  simp (maxDischargeDepth := 40) [State.loadEntry, ok]

@[simp] theorem State.noteMode_ok (t : Nat) (s : State) (ok : s.memOk) :
    (State.noteMode t s).memOk := by
  simp (maxDischargeDepth := 40) [State.noteMode, ok]

@[simp] theorem State.governPrimary_ok (s : State) (ok : s.memOk) :
    (State.governPrimary s).memOk := by
  simp (maxDischargeDepth := 40) [State.governPrimary, ok]

@[simp] theorem State.deferredAct_ok (s : State) (ok : s.memOk) :
    (State.deferredAct s).memOk := by
  unfold State.deferredAct
  repeat' (first | split | extract_lets _)
  all_goals simp (maxDischargeDepth := 40) +zetaDelta +contextual [*]

@[simp] theorem State.enterAligned_ok (s : State) (ok : s.memOk) :
    (State.enterAligned s).memOk := by
  simp (maxDischargeDepth := 40) [State.enterAligned, ok]

@[simp] theorem State.stagerDiscard_ok (s : State) (ok : s.memOk) :
    (State.stagerDiscard s).memOk := by
  simp (maxDischargeDepth := 40) [State.stagerDiscard, ok]

@[simp] theorem State.relaysDiscard_ok (s : State) (ok : s.memOk) :
    (State.relaysDiscard s).memOk := by
  simp (maxDischargeDepth := 40) [State.relaysDiscard, ok]

@[simp] theorem State.streamsStop_ok (s : State) (ok : s.memOk) :
    (State.streamsStop s).memOk := by
  simp (maxDischargeDepth := 40) [State.streamsStop, ok]

@[simp] theorem State.alignDrop_ok (s : State) (ok : s.memOk) :
    (State.alignDrop s).memOk := by
  simp (maxDischargeDepth := 40) [State.alignDrop, ok]

@[simp] theorem State.leaveRunning_ok (s : State) (ok : s.memOk) :
    (State.leaveRunning s).memOk := by
  simp (maxDischargeDepth := 40) [State.leaveRunning, ok]

@[simp] theorem State.bootStart_ok (s : State) (ok : s.memOk) :
    (State.bootStart s).memOk := by
  simp (maxDischargeDepth := 40) [State.bootStart, ok]

@[simp] theorem State.enterMode_ok (t : Nat) (s : State) (ok : s.memOk) :
    (State.enterMode t s).memOk := by
  simp (maxDischargeDepth := 40) [State.enterMode, ok]

@[simp] theorem State.modePhase1_ok (s : State) (ok : s.memOk) :
    okSnd (State.modePhase1 s) := by
  unfold State.modePhase1
  repeat' (first | split | extract_lets _)
  all_goals simp (maxDischargeDepth := 40) +zetaDelta [*]

@[simp] theorem State.modePhase0_ok (s : State) (ok : s.memOk) :
    (State.modePhase0 s).memOk := by
  simp (maxDischargeDepth := 40) [State.modePhase0, ok]

/-! ### Machine/Freeboard.lean -/

@[simp] theorem State.gaugeStore_ok (r : GaugeRead) (s : State) (ok : s.memOk) :
    (State.gaugeStore r s).memOk := by
  unfold State.gaugeStore
  repeat' (first | split | extract_lets _)
  all_goals simp (maxDischargeDepth := 40) +zetaDelta +contextual [*]

@[simp] theorem State.fbMin_ok (s : State) (ok : s.memOk) :
    (State.fbMin s).memOk := by
  unfold State.fbMin
  repeat' (first | split | extract_lets _)
  all_goals (simp (maxDischargeDepth := 40) +zetaDelta [*] <;> (repeat' split) <;> simp (maxDischargeDepth := 40) [*])

@[simp] theorem State.gaugesStore_ok (l : List GaugeRead) (s : State) (ok : s.memOk) :
    (State.gaugesStore l s).memOk := by
  unfold State.gaugesStore
  repeat' (first | split | extract_lets _)
  all_goals simp (maxDischargeDepth := 40) +zetaDelta +contextual [*]

@[simp] theorem State.setFbState_ok (v : Nat) (s : State) (ok : s.memOk) :
    (State.setFbState v s).memOk := by
  simp (maxDischargeDepth := 40) [State.setFbState, ok]

@[simp] theorem State.retireCheck_ok (s : State) (ok : s.memOk) :
    (State.retireCheck s).memOk := by
  unfold State.retireCheck
  repeat' (first | split | extract_lets _)
  all_goals simp (maxDischargeDepth := 40) +zetaDelta +contextual [*]

@[simp] theorem State.fbRequest_ok (v : Nat) (k : VStep) (s : State) (ok : s.memOk) :
    (State.fbRequest v k s).memOk := by
  simp (maxDischargeDepth := 40) [State.fbRequest, ok]

@[simp] theorem State.fbLoop_ok (s : State) (ok : s.memOk) :
    (State.fbLoop s).memOk := by
  simp (maxDischargeDepth := 40) [State.fbLoop, ok]

@[simp] theorem State.fbAdapt_ok (s : State) (ok : s.memOk) :
    (State.fbAdapt s).memOk := by
  simp (maxDischargeDepth := 40) [State.fbAdapt, ok]

@[simp] theorem State.addLife_ok (s : State) (ok : s.memOk) :
    (State.addLife s).memOk := by
  simp (maxDischargeDepth := 40) [State.addLife, ok]

@[simp] theorem State.ledgerRestore_ok (s : State) (ok : s.memOk) :
    (State.ledgerRestore s).memOk := by
  simp (maxDischargeDepth := 40) +contextual [State.ledgerRestore, ok]

@[simp] theorem State.ledgerCopy_ok (loaded : Fin 2) (here there : Bool) (s : State) (ok : s.memOk) :
    (State.ledgerCopy loaded here there s).memOk := by
  simp (maxDischargeDepth := 40) +contextual [State.ledgerCopy, ok]

/-! ### Machine/Boot.lean -/

@[simp] theorem State.setBootState_ok (v : Nat) (s : State) (hm : s.memOk) :
    (State.setBootState v s).memOk := by
  simp (maxDischargeDepth := 40) [State.setBootState, hm]

@[simp] theorem State.setStep_ok (b : BootStep) (s : State) (hm : s.memOk) :
    (State.setStep b s).memOk := by
  simp (maxDischargeDepth := 40) [State.setStep, hm]

@[simp] theorem State.setPage_ok (p : Nat) (l : List Word) (s : State) (hm : s.memOk) :
    (State.setPage p l s).memOk := by
  simp (maxDischargeDepth := 40) [State.setPage, hm]

@[simp] theorem State.pageFree_ok (p : Nat) (s : State) (hm : s.memOk) :
    (State.pageFree p s).memOk := by
  simp (maxDischargeDepth := 40) [State.pageFree, hm]

@[simp] theorem State.beginSlot_ok (x : Fin 2) (s : State) (hm : s.memOk) :
    (State.beginSlot x s).memOk := by
  simp (maxDischargeDepth := 40) [State.beginSlot, hm]

@[simp] theorem State.slotError_ok (x : Fin 2) (code sec check : Nat) (s : State) (hm : s.memOk) :
    (State.slotError x code sec check s).memOk := by
  simp (maxDischargeDepth := 40) [State.slotError, hm]

@[simp] theorem State.slotFail_ok (x : Fin 2) (code sec check : Nat) (s : State) (hm : s.memOk) :
    (State.slotFail x code sec check s).memOk := by
  simp (maxDischargeDepth := 40) [State.slotFail, hm]

@[simp] theorem State.flashInit_ok (i : FlashInfo) (s : State) (hm : s.memOk) :
    (State.flashInit i s).memOk := by
  simp (maxDischargeDepth := 40) [State.flashInit, hm]

@[simp] theorem State.otpCheck_ok (s : State) (hm : s.memOk) :
    (State.otpCheck s).memOk := by
  simp (maxDischargeDepth := 40) [State.otpCheck, hm]

@[simp] theorem State.pass1_ok (x : Fin 2) (h : FolioHeader) (digest : BitVec 384) (signature : BitVec 768) (s : State) (ok : s.memOk) :
    (State.pass1 x h digest signature s).memOk := by
  unfold State.pass1
  repeat' (first
    | (rename_i e; have e' := okSnd_eq e; clear e; simp (maxDischargeDepth := 40) +zetaDelta [*] at e'; have e'' : State.memOk _ := e'; clear e')
    | split
    | extract_lets _)
  all_goals simp (maxDischargeDepth := 40) +zetaDelta +contextual [*]

@[simp] theorem State.loadSection_ok (x : FolioSection) (s : State) (hm : s.memOk) :
    (State.loadSection x s).memOk := by
  unfold State.loadSection
  repeat' (first | split | extract_lets _)
  all_goals simp (maxDischargeDepth := 40) +zetaDelta +contextual [*]

@[simp] theorem State.setRate_ok (h : FolioHeader) (s : State) (ok : s.memOk) :
    (State.setRate h s).memOk := by
  simp (maxDischargeDepth := 40) +contextual [State.setRate, ok]

@[simp] theorem State.loadSections_ok (h : FolioHeader) (l : List FolioSection) (s : State) (ok : s.memOk) :
    (State.loadSections h l s).memOk := by
  simp (maxDischargeDepth := 40) +contextual [State.loadSections, ok]

@[simp] theorem State.pass2_ok (x : Fin 2) (l : List StoredSection) (digest : BitVec 384) (fault : Option (BitVec 8)) (s : State) (ok : s.memOk) :
    (State.pass2 x l digest fault s).memOk := by
  unfold State.pass2
  repeat' (first
    | (rename_i e; have e' := okSnd_eq e; clear e; simp (maxDischargeDepth := 40) +zetaDelta [*] at e'; have e'' : State.memOk _ := e'; clear e')
    | split
    | extract_lets _)
  all_goals simp (maxDischargeDepth := 40) +zetaDelta +contextual [*]

@[simp] theorem State.retiredAtLoad_ok (x : Fin 16) (s : State) (ok : s.memOk) : (State.retiredAtLoad x s).memOk := by
  unfold State.retiredAtLoad
  extract_lets t
  have ht : t.memOk := by
    refine each_ok _ _ _ (fun n s h => ?_) ok
    refine ite_ok _ _ _ ?_ h
    exact ite_ok _ _ _ (State.setRegBit_ok _ _ _ _ (State.setDead_ok _ _ h)) (State.setRelState_ok _ _ _ (State.setDead_ok _ _ h))
  clear_value t
  split
  · exact ht
  · split
    · exact State.joinX_ok _ _ ht
    · exact State.setRelState_ok _ _ _ (State.setFld_ok _ _ _ _ (State.setFld_ok _ _ _ _ ht))
  · exact State.joinX_ok _ _ ht

@[simp] theorem State.firstRuling_ok (s : State) (ok : s.memOk) : (State.firstRuling s).memOk := by
  have h : (each (List.finRange 16) State.retiredAtLoad (s.activateRuling 0)).memOk :=
    each_ok _ _ _ (fun _ _ h => State.retiredAtLoad_ok _ _ h) (State.activateRuling_ok _ _ ok)
  unfold State.firstRuling
  extract_lets t
  replace h : t.memOk := h
  clear_value t
  split
  · exact h
  · split
    · exact State.mark_ok _ _ (State.activateRuling_ok _ _ h)
    · exact State.noCover_ok _ h

@[simp] theorem State.ptpsListen_ok (s : State) (hm : s.memOk) :
    (State.ptpsListen s).memOk := by
  unfold State.ptpsListen
  all_goals simp (maxDischargeDepth := 40) +zetaDelta +contextual [*]

@[simp] theorem State.refLoads_ok (s : State) (ok : s.memOk) :
    (State.refLoads s).memOk := by
  simp (maxDischargeDepth := 40) +contextual [State.refLoads, ok]

@[simp] theorem State.rulingChannels_ok (s : State) (ok : s.memOk) :
    (State.rulingChannels s).memOk := by
  simp (maxDischargeDepth := 40) +contextual [State.rulingChannels, ok]

@[simp] theorem State.tableCounts_ok (s : State) (ok : s.memOk) :
    (State.tableCounts s).memOk := by
  simp (maxDischargeDepth := 40) +contextual [State.tableCounts, ok]

@[simp] theorem State.loaded_ok (x : Fin 2) (h : FolioHeader) (s : State) (ok : s.memOk) :
    (State.loaded x h s).memOk := by
  simp (maxDischargeDepth := 40) +contextual [State.loaded, ok]

@[simp] theorem State.validated_ok (x : Fin 2) (s : State) (ok : s.memOk) :
    (State.validated x s).memOk := by
  unfold State.validated
  repeat' (first
    | (rename_i e; have e' := okSnd_eq e; clear e; simp (maxDischargeDepth := 40) +zetaDelta [*] at e'; have e'' : State.memOk _ := e'; clear e')
    | split
    | extract_lets _)
  all_goals simp (maxDischargeDepth := 40) +zetaDelta +contextual [*]

@[simp] theorem State.setFlState_ok (v : Nat) (s : State) (hm : s.memOk) :
    (State.setFlState v s).memOk := by
  simp (maxDischargeDepth := 40) [State.setFlState, hm]

@[simp] theorem State.ledgerLose_ok (a : Nat) (s : State) (hm : s.memOk) :
    (State.ledgerLose a s).memOk := by
  simp (maxDischargeDepth := 40) [State.ledgerLose, hm]

@[simp] theorem State.flErase_ok (s : State) (hm : s.memOk) :
    (State.flErase s).memOk := by
  simp (maxDischargeDepth := 40) [State.flErase, hm]

@[simp] theorem State.flProgram_ok (s : State) (hm : s.memOk) :
    (State.flProgram s).memOk := by
  simp (maxDischargeDepth := 40) [State.flProgram, hm]

@[simp] theorem State.flRetry_ok (s : State) (hm : s.memOk) :
    (State.flRetry s).memOk := by
  simp (maxDischargeDepth := 40) [State.flRetry, hm]

@[simp] theorem State.flComplete_ok (ok : Bool) (s : State) (hm : s.memOk) :
    (State.flComplete ok s).memOk := by
  unfold State.flComplete
  repeat' (first | split | extract_lets _)
  all_goals simp (maxDischargeDepth := 40) +zetaDelta +contextual [*]

@[simp] theorem State.imageDone_ok (act : ImageAction) (s : State) (ok : s.memOk) :
    (State.imageDone act s).memOk := by
  unfold State.imageDone
  repeat' (first
    | (rename_i e; have e' := okSnd_eq e; clear e; simp (maxDischargeDepth := 40) +zetaDelta [*] at e'; have e'' : State.memOk _ := e'; clear e')
    | split
    | extract_lets _)
  all_goals simp (maxDischargeDepth := 40) +zetaDelta +contextual [*]

@[simp] theorem State.imageAbandon_ok (act : ImageAction) (sec : BitVec 8) (x : Fin 2) (s : State) (hm : s.memOk) :
    (State.imageAbandon act sec x s).memOk := by
  unfold State.imageAbandon
  repeat' (first | split | extract_lets _)
  all_goals simp (maxDischargeDepth := 40) +zetaDelta [*]

/-! ### Machine/Sec.lean -/

@[simp] theorem State.keysZero_ok (s : State) (hm : s.memOk) :
    (State.keysZero s).memOk := by
  simp (maxDischargeDepth := 40) [State.keysZero, hm]

@[simp] theorem State.blot_ok (cause : Nat) (s : State) (ok : s.memOk) : (State.blot cause s).memOk := by
  unfold State.blot
  extract_lets a s1 b s2 c d e f g
  have hc : c.memOk := State.withMf_ok _ (State.withSec_ok _
    (State.setFld_ok _ _ _ _ (State.setFld_ok _ _ _ _ (State.setFld_ok _ _ _ _ ok))) _) _
  have hd : d.memOk := State.streamsStop_ok _ (State.lanesOff_ok _ (State.setFld_ok _ _ _ _ hc))
  clear_value d
  have he : e.memOk := each_ok _ _ _ (fun _ _ h => State.closeGate_ok _ _ h) hd
  clear_value e
  have hf : f.memOk := State.zeroMem_ok _ _ _ (State.zeroMem_ok _ _ _ (State.keysZero_ok _ he))
  clear_value f
  have hg : g.memOk := State.withSlate_ok _ hf _
  clear_value g
  split
  · exact hg
  · exact State.decideMode_ok _ _ hg

@[simp] theorem State.lid_ok (s : State) (ok : s.memOk) : (State.lid s).memOk := by
  unfold State.lid
  extract_lets a b
  have ha : a.memOk := State.setFld_ok _ _ _ _ (State.otpCheck_ok _ ok)
  have hb : b.memOk := State.mark_ok _ _ ha
  clear_value b a
  exact ite_ok _ _ _ ha (ite_ok _ _ _ (State.keysZero_ok _ hb) (ite_ok _ _ _ hb (State.blot_ok _ _ hb)))

@[simp] theorem State.blotEnd_ok (s : State) (ok : s.memOk) :
    (State.blotEnd s).memOk := by
  simp (maxDischargeDepth := 40) +contextual [State.blotEnd, ok]

@[simp] theorem State.setTap_ok (ir : TapIr) (dr : List Bool) (s : State) (hm : s.memOk) :
    (State.setTap ir dr s).memOk := by
  simp (maxDischargeDepth := 40) [State.setTap, hm]

@[simp] theorem State.brFail_ok (s : State) (hm : s.memOk) :
    (State.brFail s).memOk := by
  simp (maxDischargeDepth := 40) [State.brFail, hm]

@[simp] theorem State.response_ok (shifted : List Word) (s : State) (hm : s.memOk) :
    (State.response shifted s).memOk := by
  unfold State.response
  repeat' (first | split | extract_lets _)
  all_goals simp (maxDischargeDepth := 40) +zetaDelta [*]

end Sys2Proof.Machine
end

