-- ==== Sys2Proof/Laws/KeepBlock.lean ====
section
/-! SUPPORT. Every operation of the register access, fabric, sluice, chain and the stroke boundary keeps memory in its canonical form. -/

namespace Sys2Proof.Machine

/-! ### Machine/Idle.lean -/

@[simp] theorem State.idle_ok (s : State) (hm : s.memOk) :
    (State.idle s).memOk := by
  simp (maxDischargeDepth := 40) [State.idle, hm]

/-! ### Machine/Views.lean -/

@[simp] theorem State.readClear_ok (a : Nat) (s : State) (hm : s.memOk) :
    (State.readClear a s).memOk := by
  unfold State.readClear
  repeat' (first | split | extract_lets _)
  all_goals simp (maxDischargeDepth := 40) +zetaDelta [hm]

@[simp] theorem State.readReg_ok (port : Port) (a : Nat) (s : State) (hm : s.memOk) :
    okSnd (State.readReg port a s) := by
  unfold State.readReg
  repeat' (first | split | extract_lets _)
  all_goals simp (maxDischargeDepth := 40) +zetaDelta +contextual [hm]

/-! ### Machine/Commit.lean -/

@[simp] theorem State.realign_ok (s : State) (hm : s.memOk) :
    (State.realign s).memOk := by
  simp (maxDischargeDepth := 40) [State.realign, hm]

@[simp] theorem State.commitFlows_ok (i : Nat) (w : Word) (s : State) (hm : s.memOk) :
    (State.commitFlows i w s).memOk := by
  unfold State.commitFlows
  all_goals simp (maxDischargeDepth := 40) +zetaDelta +contextual [*]

@[simp] theorem State.commitTest_ok (w : Word) (s : State) (hm : s.memOk) :
    (State.commitTest w s).memOk := by
  unfold State.commitTest
  repeat' (first | split | extract_lets _)
  all_goals simp (maxDischargeDepth := 40) +zetaDelta [*]

@[simp] theorem State.commitFlash_ok (w : Word) (s : State) (hm : s.memOk) :
    (State.commitFlash w s).memOk := by
  unfold State.commitFlash
  repeat' (first | split | extract_lets _)
  all_goals simp (maxDischargeDepth := 40) +zetaDelta [*]

@[simp] theorem onBit_ok (w : Word) (i : Nat) (f : State → State) (s : State) (h : ∀ s, s.memOk → (f s).memOk)
    (ok : s.memOk) : (onBit w i f s).memOk := by
  unfold onBit; split <;> simp [h, ok]

@[simp] theorem State.commitPulse_ok (a : Nat) (w : Word) (s : State) (hm : s.memOk) :
    (State.commitPulse a w s).memOk := by
  unfold State.commitPulse
  repeat' (first | split | extract_lets _)
  all_goals simp (maxDischargeDepth := 40) +zetaDelta +contextual [hm]

@[simp] theorem State.commitLane_ok (a : Nat) (w : Word) (s : State) (hm : s.memOk) :
    (State.commitLane a w s).memOk := by
  unfold State.commitLane
  repeat' (first | split | extract_lets _)
  all_goals simp (maxDischargeDepth := 40) +zetaDelta +contextual [hm]

@[simp] theorem State.commitTb_ok (a : Nat) (w : Word) (s : State) (hm : s.memOk) :
    (State.commitTb a w s).memOk := by
  unfold State.commitTb
  repeat' (first | split | extract_lets _)
  all_goals simp (maxDischargeDepth := 40) +zetaDelta +contextual [hm]

@[simp] theorem State.commitMem_ok (a : Nat) (w : Word) (s : State) (hm : s.memOk) :
    (State.commitMem a w s).memOk := by
  unfold State.commitMem
  repeat' (first | split | extract_lets _)
  all_goals simp (maxDischargeDepth := 40) +zetaDelta +contextual [hm]

@[simp] theorem State.commitReg_ok (a : Nat) (w : Word) (s : State) (ok : s.memOk) : (State.commitReg a w s).memOk := by
  unfold State.commitReg
  extract_lets v
  refine ite_ok _ _ _ (onBit_ok _ _ _ _ (fun _ h => State.realign_ok _ h) ok) ?_
  refine ite_ok _ _ _ (State.commitLane_ok _ _ _ ok) ?_
  refine ite_ok _ _ _ (State.commitFlows_ok _ _ _ ok) ?_
  refine ite_ok _ _ _ (State.commitTb_ok _ _ _ ok) ?_
  refine ite_ok _ _ _ (State.commitPulse_ok _ _ _ ok) ?_
  refine ite_ok _ _ _ (State.commitMem_ok _ _ _ ok) ?_
  refine ite_ok _ _ _ (onBit_ok _ _ _ _ (fun _ h => State.reload_ok _ h)
    (onBit_ok _ _ _ _ (fun _ h => State.poise_ok _ h) (onBit_ok _ _ _ _ (fun _ h => State.run_ok _ h) ok))) ?_
  refine ite_ok _ _ _ (State.commitTest_ok _ _ ok) ?_
  refine ite_ok _ _ _ (onBit_ok _ _ _ _ (fun _ h => State.resync_ok _ h)
    (onBit_ok _ _ _ _ (fun _ h => State.handover_ok _ h) ok)) ?_
  refine ite_ok _ _ _ (State.withRef_ok _ (State.setReg_ok _ _ _ ok) _) ?_
  refine ite_ok _ _ _ (State.commitFlash_ok _ _ ok) ?_
  extract_lets
  exact ite_ok _ _ _ (onBit_ok _ _ _ _ (fun _ h => State.sluStop_ok _ _ h)
    (onBit_ok _ _ _ _ (fun _ h => State.sluStart_ok _ _ h) ok)) (State.setReg_ok _ _ _ ok)

@[simp] theorem State.clearBits_ok (a : Nat) (m : Word) (s : State) (ok : s.memOk) : (State.clearBits a m s).memOk := by
  unfold State.clearBits
  refine each_ok _ _ _ (fun i s h => ?_) (State.setReg_ok _ _ _ ok)
  refine ite_ok _ _ _ ?_ h
  split <;> simp [h]

@[simp] theorem State.writeNow_ok (a : Nat) (w mask : Word) (s : State) (hm : s.memOk) :
    (State.writeNow a w mask s).memOk := by
  unfold State.writeNow
  repeat' (first | split | extract_lets _)
  all_goals simp (maxDischargeDepth := 40) +zetaDelta [*]

@[simp] theorem State.chainWrite_ok (a : Nat) (w mask : Word) (s : State) (hm : s.memOk) :
    okSnd (State.chainWrite a w mask s) := by
  unfold State.chainWrite
  repeat' (first
    | (rename_i e; have e' := okSnd_eq e; clear e; simp (maxDischargeDepth := 40) +zetaDelta [*] at e'; have e'' : State.memOk _ := e'; clear e')
    | split
    | extract_lets _)
  all_goals simp (maxDischargeDepth := 40) +zetaDelta [*]

@[simp] theorem State.regWrite_ok (port : Port) (a : Nat) (w mask : Word) (s : State) (hm : s.memOk) :
    (State.regWrite port a w mask s).memOk := by
  unfold State.regWrite
  repeat' (first | split | extract_lets _)
  all_goals simp (maxDischargeDepth := 40) +zetaDelta [*]

@[simp] theorem State.applyReg_ok (a : Nat) (v m : Word) (s : State) (hm : s.memOk) :
    okSnd (State.applyReg a v m s) := by
  unfold State.applyReg
  repeat' (first | split | extract_lets _)
  all_goals (simp (maxDischargeDepth := 40) +zetaDelta [*] <;> (repeat' split) <;> simp (maxDischargeDepth := 40) [*])

@[simp] theorem State.applyMem_ok (a : Nat) (v m : Word) (s : State) (hm : s.memOk) :
    okSnd (State.applyMem a v m s) := by
  simp (maxDischargeDepth := 40) [State.applyMem, hm]

@[simp] theorem State.applyWord_ok (t : Nat) (v m : Word) (s : State) (hm : s.memOk) :
    okSnd (State.applyWord t v m s) := by
  unfold State.applyWord
  repeat' (first | split | extract_lets _)
  all_goals simp (maxDischargeDepth := 40) +zetaDelta [hm]

@[simp] theorem State.applyChange_ok (c : Change) (s : State) (ok : s.memOk) :
    okSnd (State.applyChange c s) := by
  unfold State.applyChange
  repeat' (first
    | (rename_i e; have e' := okSnd_eq e; clear e; simp (maxDischargeDepth := 40) +zetaDelta [*] at e'; have e'' : State.memOk _ := e'; clear e')
    | split
    | extract_lets _)
  all_goals simp (maxDischargeDepth := 40) +zetaDelta +contextual [*]

@[simp] theorem applyChanges_ok (n : Nat) (l : List Change) (s : State) (ok : s.memOk) : (applyChanges n l s).memOk := by
  induction n generalizing l s with
  | zero => cases l <;> exact ok
  | succ n ih =>
    cases l with
    | nil => exact ok
    | cons c l =>
      unfold applyChanges
      split
      rename_i e
      exact ih _ _ (okSnd_eq e (State.applyChange_ok _ _ ok))

@[simp] theorem State.putImage_ok (i : Nat) (d : Word64) (psn : Bool) (s : State) (ok : s.memOk) :
    (State.putImage i d psn s).memOk := by
  simp (maxDischargeDepth := 40) +contextual [State.putImage, ok]

@[simp] theorem State.putMirror_ok (m : Nat) (d : Word64) (psn : Bool) (s : State) (ok : s.memOk) :
    (State.putMirror m d psn s).memOk := by
  simp (maxDischargeDepth := 40) [State.putMirror, ok]

@[simp] theorem State.takeRecord_ok (g : RawTag) (s : State) (ok : s.memOk) :
    (State.takeRecord g s).memOk := by
  unfold State.takeRecord
  repeat' (first
    | (rename_i e; split at e)
    | split
    | extract_lets _)
  all_goals simp (maxDischargeDepth := 40) +zetaDelta [*]

@[simp] theorem State.takeRecords_ok (s : State) (ok : s.memOk) :
    (State.takeRecords s).memOk := by
  unfold State.takeRecords
  repeat' (first | split | extract_lets _)
  all_goals simp (maxDischargeDepth := 40) +zetaDelta +contextual [*]

@[simp] theorem State.refuseDue_ok (c : Change) (s : State) (hm : s.memOk) :
    (State.refuseDue c s).memOk := by
  simp (maxDischargeDepth := 40) [State.refuseDue, hm]

@[simp] theorem State.actLast_ok (l : List Change) (s : State) (ok : s.memOk) : (State.actLast l s).memOk := by
  unfold State.actLast
  extract_lets on t
  have ht : t.memOk := each_ok _ _ _ (fun c s h => by
    split
    · exact ite_ok _ _ _ h (onBit_ok _ _ _ _ (fun _ h => State.tbSet_ok _ _ h) h)
    · exact h) ok
  exact each_ok _ _ _ (fun c s h => ite_ok _ _ _ (State.commitFlash_ok _ _ h) h) ht

@[simp] theorem State.phase2_ok (s : State) (ok : s.memOk) : (State.phase2 s).memOk := by
  unfold State.phase2
  extract_lets a late due s1 b now c d
  have ha : a.memOk := State.takeIntakes_ok _ (State.takeRecords_ok _ (State.expireHistory_ok _ ok))
  have hb : b.memOk := State.withStager_ok _ ha _
  have hc : c.memOk := applyChanges_ok _ _ _ hb
  exact State.actLast_ok _ _ (each_ok _ _ _ (fun _ _ h => State.refuseDue_ok _ _ h) hc)

@[simp] theorem State.noteDry_ok (port : Port) (l : Nat) (s : State) (hm : s.memOk) :
    (State.noteDry port l s).memOk := by
  simp (maxDischargeDepth := 40) [State.noteDry, hm]

@[simp] theorem State.portLast_ok (port : Port) (t : FabTx) (s : State) (hm : s.memOk) :
    (State.portLast port t s).memOk := by
  simp (maxDischargeDepth := 40) [State.portLast, hm]

/-! ### Machine/Fabric.lean -/

@[simp] theorem State.dryNoted_ok (port : Port) (w : DryWhy) (s : State) (hm : s.memOk) :
    (State.dryNoted port w s).memOk := by
  unfold State.dryNoted
  repeat' (first | split | extract_lets _)
  all_goals simp (maxDischargeDepth := 40) +zetaDelta [*]

@[simp] theorem State.slateRead_ok (port : Port) (a : Nat) (s : State) (ok : s.memOk) :
    okSnd (State.slateRead port a s) := by
  unfold State.slateRead
  repeat' (first
    | (rename_i e; have e' := okSnd_eq e; clear e; simp (maxDischargeDepth := 40) +zetaDelta [*] at e'; have e'' : State.memOk _ := e'; clear e')
    | split
    | extract_lets _)
  all_goals simp (maxDischargeDepth := 40) +zetaDelta +contextual [*]

@[simp] theorem State.sramRead_ok (a : Nat) (s : State) (hm : s.memOk) :
    okSnd (State.sramRead a s) := by
  simp (maxDischargeDepth := 40) [State.sramRead, hm]

@[simp] theorem State.keyWrite_ok (o : Nat) (w : Word64) (be : BitVec 8) (s : State) (hm : s.memOk) :
    (State.keyWrite o w be s).memOk := by
  simp (maxDischargeDepth := 40) [State.keyWrite, hm]

@[simp] theorem State.regBeat_ok (port : Port) (a : Nat) (s : State) (hm : s.memOk) :
    okSnd (State.regBeat port a s) := by
  simp (maxDischargeDepth := 40) [State.regBeat, hm]

@[simp] theorem State.targetRead_ok (port : Port) (narrow : Bool) (a : Nat) (t : Target) (s : State) (ok : s.memOk) :
    okSnd (State.targetRead port narrow a t s) := by
  unfold State.targetRead
  repeat' (first
    | (rename_i e; have e' := okSnd_eq e; clear e; simp (maxDischargeDepth := 40) +zetaDelta [*] at e'; have e'' : State.memOk _ := e'; clear e')
    | split
    | extract_lets _)
  all_goals simp (maxDischargeDepth := 40) +zetaDelta +contextual [*]

@[simp] theorem twoWords_ok (f : Nat → Word → Word → State → State) (a : Nat) (w : Word64) (be : BitVec 8) (s : State)
    (h : ∀ a w m s, s.memOk → (f a w m s).memOk) (ok : s.memOk) : (twoWords f a w be s).memOk := by
  unfold twoWords
  extract_lets t
  have ht : t.memOk := ite_ok _ _ _ ok (h _ _ _ _ ok)
  exact ite_ok _ _ _ ht (h _ _ _ _ ht)

@[simp] theorem State.slateWrite_ok (port : Port) (a : Nat) (w : Word64) (be : BitVec 8) (psn : Bool) (s : State) (hm : s.memOk) :
    (State.slateWrite port a w be psn s).memOk := by
  simp (maxDischargeDepth := 40) [State.slateWrite, hm]

@[simp] theorem State.sramWrite_ok (a : Nat) (w : Word64) (be : BitVec 8) (psn : Bool) (s : State) (hm : s.memOk) :
    (State.sramWrite a w be psn s).memOk := by
  simp (maxDischargeDepth := 40) [State.sramWrite, hm]

@[simp] theorem State.itemWrite_ok (port : Port) (a : Nat) (w mask : Word) (s : State) (hm : s.memOk) :
    (State.itemWrite port a w mask s).memOk := by
  simp (maxDischargeDepth := 40) [State.itemWrite, hm]

@[simp] theorem State.scribeWord_ok (psn : Bool) (a : Nat) (w mask : Word) (s : State) (ok : s.memOk) :
    (State.scribeWord psn a w mask s).memOk := by
  simp (maxDischargeDepth := 40) +contextual [State.scribeWord, ok]

@[simp] theorem State.sramWord_ok (port : Port) (psn : Bool) (a : Nat) (w mask : Word) (s : State) (ok : s.memOk) :
    (State.sramWord port psn a w mask s).memOk := by
  simp (maxDischargeDepth := 40) +contextual [State.sramWord, ok]

@[simp] theorem State.targetWrite_ok (port : Port) (a : Nat) (t : Target) (w : Word64) (be : BitVec 8) (psn : Bool) (s : State) (ok : s.memOk) :
    (State.targetWrite port a t w be psn s).memOk := by
  unfold State.targetWrite
  repeat' (first
    | (rename_i e; have e' := okSnd_eq e; clear e; simp (maxDischargeDepth := 40) +zetaDelta [*] at e'; have e'' : State.memOk _ := e'; clear e')
    | split
    | extract_lets _)
  all_goals simp (maxDischargeDepth := 40) +zetaDelta +contextual [*]

@[simp] theorem State.setPort_ok (port : Port) (x : PortSt) (s : State) (hm : s.memOk) :
    (State.setPort port x s).memOk := by
  simp (maxDischargeDepth := 40) [State.setPort, hm]

@[simp] theorem readBeats_ok (port : Port) (narrow : Bool) (a : Nat) (t : Target) (y0 : Nat) (s : State) (hm : s.memOk) :
    okSnd (readBeats port narrow a t y0 s) := by
  induction y0 generalizing port narrow a t s
  all_goals
    unfold readBeats
    repeat' (first
      | (rename_i e; have e' := okSnd_eq e; clear e; simp (maxDischargeDepth := 40) +zetaDelta [*] at e'; have e'' : State.memOk _ := e'; clear e')
      | split
      | extract_lets _)
    all_goals simp (maxDischargeDepth := 40) +zetaDelta [*]

@[simp] theorem State.countBeat_ok (port : Port) (s : State) (ok : s.memOk) :
    (State.countBeat port s).memOk := by
  unfold State.countBeat
  repeat' (first
    | (rename_i e; have e' := okSnd_eq e; clear e; simp (maxDischargeDepth := 40) +zetaDelta [*] at e'; have e'' : State.memOk _ := e'; clear e')
    | split
    | extract_lets _)
  all_goals simp (maxDischargeDepth := 40) +zetaDelta +contextual [*]

@[simp] theorem writeBurst_ok (port : Port) (remap : Bool) (a : Nat) (l : List (Word64 × BitVec 8 × Bool)) (s : State) (ok : s.memOk) :
    (writeBurst port remap a l s).memOk := by
  induction l generalizing a s with
  | nil => exact ok
  | cons x l ih =>
    unfold writeBurst
    extract_lets t
    have h : t.memOk := State.countBeat_ok _ _ ok
    exact ih _ _ (by split <;> simp [h])

@[simp] theorem State.serve_ok (port : Port) (limit : Nat) (r : FabReq) (t : Target) (s : State) (ok : s.memOk) :
    okSnd (State.serve port limit r t s) := by
  unfold State.serve
  repeat' (first
    | (rename_i e; have e' := okSnd_eq e; clear e; simp (maxDischargeDepth := 40) +zetaDelta [*] at e'; have e'' : State.memOk _ := e'; clear e')
    | split
    | extract_lets _)
  all_goals simp (maxDischargeDepth := 40) +zetaDelta +contextual [*]

@[simp] theorem State.issueReq_ok (port : Port) (limit : Nat) (r : FabReq) (s : State) (ok : s.memOk) :
    (State.issueReq port limit r s).memOk := by
  unfold State.issueReq
  repeat' (first
    | (rename_i e; have e' := okSnd_eq e; clear e; simp (maxDischargeDepth := 40) +zetaDelta [*] at e'; have e'' : State.memOk _ := e'; clear e')
    | split
    | extract_lets _)
  all_goals simp (maxDischargeDepth := 40) +zetaDelta +contextual [*]

@[simp] theorem State.request_ok (port : Port) (limit : Nat) (r : FabReq) (s : State) (ok : s.memOk) :
    (State.request port limit r s).memOk := by
  simp (maxDischargeDepth := 40) +contextual [State.request, ok]

@[simp] theorem State.release_ok (port : Port) (x0 : Nat) (s : State) (ok : s.memOk) :
    (State.release port x0 s).memOk := by
  induction x0 generalizing port s
  all_goals
    unfold State.release
    repeat' (first
      | (rename_i e; have e' := okSnd_eq e; clear e; simp (maxDischargeDepth := 40) +zetaDelta [*] at e'; have e'' : State.memOk _ := e'; clear e')
      | split
      | extract_lets _)
    all_goals simp (maxDischargeDepth := 40) +zetaDelta +contextual [*]

@[simp] theorem State.finishTx_ok (port : Port) (t : FabTx) (s : State) (ok : s.memOk) :
    (State.finishTx port t s).memOk := by
  unfold State.finishTx
  repeat' (first
    | (rename_i e; have e' := okSnd_eq e; clear e; simp (maxDischargeDepth := 40) +zetaDelta [*] at e'; have e'' : State.memOk _ := e'; clear e')
    | split
    | extract_lets _)
  all_goals simp (maxDischargeDepth := 40) +zetaDelta +contextual [*]

@[simp] theorem State.respond_ok (port : Port) (id : BitVec 4) (s : State) (hm : s.memOk) :
    (State.respond port id s).memOk := by
  unfold State.respond
  repeat' (first | split | extract_lets _)
  all_goals simp (maxDischargeDepth := 40) +zetaDelta [*]

@[simp] theorem State.dropTx_ok (port : Port) (t : FabTx) (s : State) (ok : s.memOk) :
    (State.dropTx port t s).memOk := by
  simp (maxDischargeDepth := 40) +contextual [State.dropTx, ok]

@[simp] theorem State.resetPort_ok (port : Port) (s : State) (ok : s.memOk) :
    (State.resetPort port s).memOk := by
  simp (maxDischargeDepth := 40) +contextual [State.resetPort, ok]

@[simp] theorem State.forceDry_ok (g : Domain) (port : Port) (s : State) (ok : s.memOk) :
    (State.forceDry g port s).memOk := by
  simp (maxDischargeDepth := 40) +contextual [State.forceDry, ok]

/-! ### Machine/SluMove.lean -/

@[simp] theorem State.sluRead_ok (c : Nat) (ruling first : Bool) (a : Nat) (s : State) (hm : s.memOk) :
    okSnd (State.sluRead c ruling first a s) := by
  unfold State.sluRead
  repeat' (first
    | (rename_i e; have e' := okSnd_eq e; clear e; simp (maxDischargeDepth := 40) +zetaDelta [*] at e'; have e'' : State.memOk _ := e'; clear e')
    | split
    | extract_lets _)
  all_goals simp (maxDischargeDepth := 40) +zetaDelta [*]

@[simp] theorem State.sluWrite_ok (c : Nat) (ruling first : Bool) (a : Nat) (w : Word64) (psn : Bool) (s : State) (hm : s.memOk) :
    okSnd (State.sluWrite c ruling first a w psn s) := by
  unfold State.sluWrite
  repeat' (first | split | extract_lets _)
  all_goals simp (maxDischargeDepth := 40) +zetaDelta [*]

@[simp] theorem State.chainDry_ok (c : Nat) (s : State) (hm : s.memOk) :
    (State.chainDry c s).memOk := by
  simp (maxDischargeDepth := 40) [State.chainDry, hm]

@[simp] theorem State.chainStep_ok (c : Nat) (d : Desc) (s : State) (hm : s.memOk) :
    (State.chainStep c d s).memOk := by
  simp (maxDischargeDepth := 40) [State.chainStep, hm]

@[simp] theorem State.mismatch_ok (c a : Nat) (psn : Bool) (s : State) (hm : s.memOk) :
    (State.mismatch c a psn s).memOk := by
  simp (maxDischargeDepth := 40) [State.mismatch, hm]

@[simp] theorem State.chainWord_ok (c : Nat) (d : Desc) (s : State) (hm : s.memOk) :
    okSnd (State.chainWord c d s) := by
  unfold State.chainWord
  repeat' (first
    | (rename_i e; have e' := okSnd_eq e; clear e; simp (maxDischargeDepth := 40) +zetaDelta [*] at e'; have e'' : State.memOk _ := e'; clear e')
    | split
    | extract_lets _)
  all_goals simp (maxDischargeDepth := 40) +zetaDelta [*]

@[simp] theorem chainMove_ok (c : Nat) (d : Desc) (y0 : Nat) (s : State) (hm : s.memOk) :
    (chainMove c d y0 s).memOk := by
  induction y0 generalizing c d s
  all_goals
    unfold chainMove
    repeat' (first
      | (rename_i e; have e' := okSnd_eq e; clear e; simp (maxDischargeDepth := 40) +zetaDelta [*] at e'; have e'' : State.memOk _ := e'; clear e')
      | split
      | extract_lets _)
    all_goals simp (maxDischargeDepth := 40) +zetaDelta [*]

@[simp] theorem chainTail_ok (c : Nat) (d : Desc) (x0 : Nat) (x1 : List (Word64 × BitVec 8 × Bool)) (s : State) (ok : s.memOk) :
    okSnd (chainTail c d x0 x1 s) := by
  induction x0 generalizing c d x1 s
  all_goals
    unfold chainTail
    repeat' (first
      | (rename_i e; have e' := okSnd_eq e; clear e; simp (maxDischargeDepth := 40) +zetaDelta [*] at e'; have e'' : State.memOk _ := e'; clear e')
      | split
      | extract_lets _)
    all_goals simp (maxDischargeDepth := 40) +zetaDelta +contextual [*]

@[simp] theorem State.chainRun_ok (c : Nat) (d : Desc) (limit : Nat) (s : State) (ok : s.memOk) :
    (State.chainRun c d limit s).memOk := by
  simp (maxDischargeDepth := 40) +contextual [State.chainRun, ok]

@[simp] theorem State.flushSlu_ok (c : Nat) (s : State) (ok : s.memOk) :
    (State.flushSlu c s).memOk := by
  simp (maxDischargeDepth := 40) +contextual [State.flushSlu, ok]

@[simp] theorem State.chainEnd_ok (c st : Nat) (e : Nat → Evt) (s : State) (hm : s.memOk) :
    (State.chainEnd c st e s).memOk := by
  simp (maxDischargeDepth := 40) [State.chainEnd, hm]

@[simp] theorem State.descFetched_ok (c a limit : Nat) (ws : List (Word64 × Bool)) (s : State) (hm : s.memOk) :
    (State.descFetched c a limit ws s).memOk := by
  simp (maxDischargeDepth := 40) [State.descFetched, hm]

@[simp] theorem descWords_ok (c a : Nat) (y0 : Nat) (y1 : Nat) (s : State) (hm : s.memOk) :
    okSnd (descWords c a y0 y1 s) := by
  induction y0 generalizing c a y1 s
  all_goals
    unfold descWords
    repeat' (first
      | (rename_i e; have e' := okSnd_eq e; clear e; simp (maxDischargeDepth := 40) +zetaDelta [*] at e'; have e'' : State.memOk _ := e'; clear e')
      | split
      | extract_lets _)
    all_goals simp (maxDischargeDepth := 40) +zetaDelta [*]

@[simp] theorem State.descFetch_ok (c limit : Nat) (s : State) (hm : s.memOk) :
    (State.descFetch c limit s).memOk := by
  unfold State.descFetch
  repeat' (first
    | (rename_i e; have e' := okSnd_eq e; clear e; simp (maxDischargeDepth := 40) +zetaDelta [*] at e'; have e'' : State.memOk _ := e'; clear e')
    | split
    | extract_lets _)
  all_goals simp (maxDischargeDepth := 40) +zetaDelta [*]

@[simp] theorem State.descComplete_ok (c : Nat) (s : State) (hm : s.memOk) :
    (State.descComplete c s).memOk := by
  unfold State.descComplete
  repeat' (first | split | extract_lets _)
  all_goals simp (maxDischargeDepth := 40) +zetaDelta [*]

@[simp] theorem State.dryEnd_ok (c : Nat) (s : State) (hm : s.memOk) :
    (State.dryEnd c s).memOk := by
  simp (maxDischargeDepth := 40) [State.dryEnd, hm]

/-! ### Machine/RulingExec.lean -/

@[simp] theorem State.entryDone_ok (i n : Nat) (running : Bool) (s : State) (hm : s.memOk) :
    (State.entryDone i n running s).memOk := by
  simp (maxDischargeDepth := 40) [State.entryDone, hm]

@[simp] theorem sluReads_ok (e : Entry) (y0 : Nat) (y1 : Nat) (y2 : SluRun) (s : State) (hm : s.memOk) :
    okSnd (sluReads e y0 y1 y2 s) := by
  induction y0 generalizing e y1 y2 s
  all_goals
    unfold sluReads
    repeat' (first
      | (rename_i e; have e' := okSnd_eq e; clear e; simp (maxDischargeDepth := 40) +zetaDelta [*] at e'; have e'' : State.memOk _ := e'; clear e')
      | split
      | extract_lets _)
    all_goals simp (maxDischargeDepth := 40) +zetaDelta [*]

@[simp] theorem sluWrites_ok (e : Entry) (y0 : List (Word64 × Bool)) (y1 : Nat) (s : State) (hm : s.memOk) :
    (sluWrites e y0 y1 s).memOk := by
  induction y0 generalizing e y1 s
  all_goals
    unfold sluWrites
    all_goals simp (maxDischargeDepth := 40) +zetaDelta [*]

@[simp] theorem sluIntake_ok (idx : Nat) (e : Entry) (l : List (Word64 × Bool)) (j : Nat) (s : State) (ok : s.memOk) :
    (sluIntake idx e l j s).memOk := by
  induction l, j, s using sluIntake.induct (e := e) (idx := idx) with
  | case1 x y l j s ws t ih => unfold sluIntake; exact ih (State.intakeWrite_ok _ _ _ _ (State.bumpBy_ok _ _ _ ok))
  | case2 => unfold sluIntake; split <;> simp_all

@[simp] theorem State.sluEntry_ok (idx limit acc : Nat) (e : Entry) (s : State) (ok : s.memOk) :
    (State.sluEntry idx limit acc e s).memOk := by
  simp (maxDischargeDepth := 40) +contextual [State.sluEntry, ok]

@[simp] theorem State.startEntry_ok (idx limit acc : Nat) (e : Entry) (s : State) (ok : s.memOk) :
    (State.startEntry idx limit acc e s).memOk := by
  unfold State.startEntry
  repeat' (first
    | (rename_i e; have e' := okSnd_eq e; clear e; simp (maxDischargeDepth := 40) +zetaDelta [*] at e'; have e'' : State.memOk _ := e'; clear e')
    | split
    | extract_lets _)
  all_goals simp (maxDischargeDepth := 40) +zetaDelta +contextual [*]

@[simp] theorem State.cutEntry_ok (idx : Nat) (e : Entry) (s : State) (hm : s.memOk) :
    (State.cutEntry idx e s).memOk := by
  simp (maxDischargeDepth := 40) [State.cutEntry, hm]

@[simp] theorem State.notify_ok (e : Entry) (s : State) (hm : s.memOk) :
    (State.notify e s).memOk := by
  unfold State.notify
  all_goals simp (maxDischargeDepth := 40) +zetaDelta +contextual [*]

@[simp] theorem State.sluComplete_ok (idx : Nat) (e : Entry) (s : State) (hm : s.memOk) :
    (State.sluComplete idx e s).memOk := by
  simp (maxDischargeDepth := 40) [State.sluComplete, hm]

/-! ### Machine/Mch.lean -/

@[simp] theorem State.setMch_ok (x : Mch) (s : State) (hm : s.memOk) :
    (State.setMch x s).memOk := by
  simp (maxDischargeDepth := 40) [State.setMch, hm]

@[simp] theorem State.send_ok (f : MchFrame) (s : State) (hm : s.memOk) :
    (State.send f s).memOk := by
  simp (maxDischargeDepth := 40) [State.send, hm]

@[simp] theorem State.mchSeen_ok (s : State) (hm : s.memOk) :
    (State.mchSeen s).memOk := by
  simp (maxDischargeDepth := 40) [State.mchSeen, hm]

@[simp] theorem State.mchFrame_ok (act : State → State) (s : State) (h : ∀ s, s.memOk → (act s).memOk) (ok : s.memOk) :
    (State.mchFrame act s).memOk := by
  unfold State.mchFrame
  exact ite_ok _ _ _ (ite_ok _ _ _ (h _ (State.mchSeen_ok _ ok)) (State.send_ok _ _ (State.mchSeen_ok _ ok))) ok

@[simp] theorem State.mchCrc_ok (s : State) (hm : s.memOk) :
    (State.mchCrc s).memOk := by
  simp (maxDischargeDepth := 40) [State.mchCrc, hm]

@[simp] theorem State.mchReadWord_ok (a : Nat) (s : State) (hm : s.memOk) :
    okSnd (State.mchReadWord a s) := by
  unfold State.mchReadWord
  repeat' (first
    | (rename_i e; have e' := okSnd_eq e; clear e; simp (maxDischargeDepth := 40) +zetaDelta [*] at e'; have e'' : State.memOk _ := e'; clear e')
    | split
    | extract_lets _)
  all_goals simp (maxDischargeDepth := 40) +zetaDelta [*]

@[simp] theorem State.mchWriteWord_ok (a : Nat) (w mask : Word) (s : State) (hm : s.memOk) :
    okSnd (State.mchWriteWord a w mask s) := by
  unfold State.mchWriteWord
  repeat' (first | split | extract_lets _)
  all_goals simp (maxDischargeDepth := 40) +zetaDelta [*]

@[simp] theorem State.hold_ok (f : MchFrame) (status : Nat) (data : Word) (s : State) (hm : s.memOk) :
    (State.hold f status data s).memOk := by
  simp (maxDischargeDepth := 40) [State.hold, hm]

@[simp] theorem State.addRun_ok (f : MchFrame) (res : Option (Nat × Word)) (s : State) (hm : s.memOk) :
    (State.addRun f res s).memOk := by
  simp (maxDischargeDepth := 40) [State.addRun, hm]

@[simp] theorem State.mchTake_ok (f : MchFrame) (s : State) (hm : s.memOk) :
    (State.mchTake f s).memOk := by
  unfold State.mchTake
  repeat' (first
    | (rename_i e; have e' := okSnd_eq e; clear e; simp (maxDischargeDepth := 40) +zetaDelta [*] at e'; have e'' : State.memOk _ := e'; clear e')
    | split
    | extract_lets _)
  all_goals simp (maxDischargeDepth := 40) +zetaDelta [*]

@[simp] theorem State.frameRead_ok (f : MchFrame) (s : State) (hm : s.memOk) :
    (State.frameRead f s).memOk := by
  simp (maxDischargeDepth := 40) [State.frameRead, hm]

@[simp] theorem State.frameWrite_ok (f : MchFrame) (s : State) (hm : s.memOk) :
    (State.frameWrite f s).memOk := by
  simp (maxDischargeDepth := 40) [State.frameWrite, hm]

@[simp] theorem State.frameBroadcast_ok (f : MchFrame) (s : State) (hm : s.memOk) :
    (State.frameBroadcast f s).memOk := by
  simp (maxDischargeDepth := 40) [State.frameBroadcast, hm]

@[simp] theorem State.setMchAddr_ok (x : Nat) (s : State) (hm : s.memOk) :
    (State.setMchAddr x s).memOk := by
  simp (maxDischargeDepth := 40) [State.setMchAddr, hm]

@[simp] theorem State.frameEnum_ok (f : MchFrame) (s : State) (hm : s.memOk) :
    (State.frameEnum f s).memOk := by
  simp (maxDischargeDepth := 40) [State.frameEnum, hm]

@[simp] theorem State.frameEmpty_ok (f : MchFrame) (s : State) (hm : s.memOk) :
    (State.frameEmpty f s).memOk := by
  unfold State.frameEmpty
  repeat' (first | split | extract_lets _)
  all_goals simp (maxDischargeDepth := 40) +zetaDelta [*]

@[simp] theorem State.mchDone_ok (s : State) (hm : s.memOk) :
    (State.mchDone s).memOk := by
  unfold State.mchDone
  repeat' (first | split | extract_lets _)
  all_goals simp (maxDischargeDepth := 40) +zetaDelta [*]

@[simp] theorem State.orphan_ok (s : State) (hm : s.memOk) :
    (State.orphan s).memOk := by
  simp (maxDischargeDepth := 40) [State.orphan, hm]

/-! ### Machine/Tide.lean -/

@[simp] theorem State.tideMark_ok (m : TideMark) (s : State) (hm : s.memOk) :
    (State.tideMark m s).memOk := by
  unfold State.tideMark
  repeat' (first | split | extract_lets _)
  all_goals simp (maxDischargeDepth := 40) +zetaDelta [*]

@[simp] theorem State.tideReport_ok (port : Port) (a : Nat) (s : State) (hm : s.memOk) :
    (State.tideReport port a s).memOk := by
  unfold State.tideReport
  repeat' (first | split | extract_lets _)
  all_goals simp (maxDischargeDepth := 40) +zetaDelta +contextual [*]

@[simp] theorem State.tideUnit_ok (port : Port) (s : State) (hm : s.memOk) :
    (State.tideUnit port s).memOk := by
  unfold State.tideUnit
  repeat' (first | split | extract_lets _)
  all_goals simp (maxDischargeDepth := 40) +zetaDelta [*]

@[simp] theorem State.tide_ok (port : Port) (s : State) (hm : s.memOk) :
    (State.tide port s).memOk := by
  unfold State.tide
  repeat' (first | split | extract_lets _)
  all_goals simp (maxDischargeDepth := 40) +zetaDelta [*]

/-! ### Machine/Boundary.lean -/

@[simp] theorem State.takeSteer_ok (s : State) (ok : s.memOk) :
    (State.takeSteer s).memOk := by
  simp (maxDischargeDepth := 40) +contextual [State.takeSteer, ok]

@[simp] theorem State.noteErr_ok (e : Int) (s : State) (hm : s.memOk) :
    (State.noteErr e s).memOk := by
  simp (maxDischargeDepth := 40) [State.noteErr, hm]

@[simp] theorem State.judgeErr_ok (e : Int) (s : State) (hm : s.memOk) :
    (State.judgeErr e s).memOk := by
  simp (maxDischargeDepth := 40) [State.judgeErr, hm]

@[simp] theorem State.measureAlign_ok (s : State) (hm : s.memOk) :
    (State.measureAlign s).memOk := by
  simp (maxDischargeDepth := 40) [State.measureAlign, hm]

@[simp] theorem State.alignStart_ok (s : State) (hm : s.memOk) :
    (State.alignStart s).memOk := by
  simp (maxDischargeDepth := 40) [State.alignStart, hm]

@[simp] theorem State.countStroke_ok (s : State) (hm : s.memOk) :
    (State.countStroke s).memOk := by
  unfold State.countStroke
  repeat' (first | split | extract_lets _)
  all_goals simp (maxDischargeDepth := 40) +zetaDelta [*]

@[simp] theorem State.clearClaims_ok (s : State) (hm : s.memOk) :
    (State.clearClaims s).memOk := by
  simp (maxDischargeDepth := 40) [State.clearClaims, hm]

@[simp] theorem State.rearm_ok (s : State) (hm : s.memOk) :
    (State.rearm s).memOk := by
  unfold State.rearm
  repeat' (first | split | extract_lets _)
  all_goals simp (maxDischargeDepth := 40) +zetaDelta +contextual [*]

@[simp] theorem State.fallOver_ok (s : State) (hm : s.memOk) :
    (State.fallOver s).memOk := by
  simp (maxDischargeDepth := 40) [State.fallOver, hm]

@[simp] theorem State.noteAligned_ok (s : State) (hm : s.memOk) :
    (State.noteAligned s).memOk := by
  simp (maxDischargeDepth := 40) [State.noteAligned, hm]

@[simp] theorem State.phase0_ok (s : State) (hm : s.memOk) :
    (State.phase0 s).memOk := by
  simp (maxDischargeDepth := 40) [State.phase0, hm]

@[simp] theorem State.ruleCause_ok (s : State) (hm : s.memOk) :
    (State.ruleCause s).memOk := by
  simp (maxDischargeDepth := 40) [State.ruleCause, hm]

@[simp] theorem State.phase1_ok (s : State) (hm : s.memOk) :
    (State.phase1 s).memOk := by
  unfold State.phase1
  repeat' (first
    | (rename_i e; have e' := okSnd_eq e; clear e; simp (maxDischargeDepth := 40) +zetaDelta [*] at e'; have e'' : State.memOk _ := e'; clear e')
    | split
    | extract_lets _)
  all_goals simp (maxDischargeDepth := 40) +zetaDelta +contextual [*]

@[simp] theorem State.phase3_ok (s : State) (hm : s.memOk) :
    (State.phase3 s).memOk := by
  simp (maxDischargeDepth := 40) [State.phase3, hm]

@[simp] theorem State.noteArmed_ok (s : State) (ok : s.memOk) :
    (State.noteArmed s).memOk := by
  simp (maxDischargeDepth := 40) +contextual [State.noteArmed, ok]

@[simp] theorem State.phase4_ok (s : State) (hm : s.memOk) :
    (State.phase4 s).memOk := by
  unfold State.phase4
  repeat' (first | split | extract_lets _)
  all_goals simp (maxDischargeDepth := 40) +zetaDelta +contextual [*]

@[simp] theorem State.phase5_ok (spill taint : Bool) (s : State) (hm : s.memOk) :
    (State.phase5 spill taint s).memOk := by
  simp (maxDischargeDepth := 40) [State.phase5, hm]

@[simp] theorem State.boundary_ok (s : State) (hm : s.memOk) :
    (State.boundary s).memOk := by
  simp (maxDischargeDepth := 40) [State.boundary, hm]

/-! ### Machine/System.lean -/

@[simp] theorem State.outlast_ok (s : State) : (State.outlast s).memOk := by
  have h : ∀ t : State, t.mem = [] → t.memOk := fun t e => by unfold State.memOk; rw [e]; rfl
  exact h _ rfl

@[simp] theorem State.domainsReset_ok (s : State) : (State.domainsReset s).memOk := by
  have h : ∀ t : State, t.mem = [] → t.memOk := fun t e => by unfold State.memOk; rw [e]; rfl
  exact h _ rfl

@[simp] theorem State.resetN_ok (s : State) : (State.resetN s).memOk := by
  simp (maxDischargeDepth := 40) [State.resetN]

@[simp] theorem State.chipZero_ok (s : State) (hm : s.memOk) :
    (State.chipZero s).memOk := by
  simp (maxDischargeDepth := 40) [State.chipZero, hm]

@[simp] theorem State.straps_ok (bootSwap mchHead : Bool) (fwrev : BitVec 16) (s : State) (hm : s.memOk) :
    (State.straps bootSwap mchHead fwrev s).memOk := by
  simp (maxDischargeDepth := 40) [State.straps, hm]

end Sys2Proof.Machine
end

