-- ==== Sys2Proof/Laws/Regs.lean ====
section
/-! SUPPORT. The laws of registers, fields, bits, counters and nib records: what each operation changes, and that it
changes nothing else. -/

namespace Sys2Proof.Machine

/-! ### Bits and fields -/

theorem bitOf_setBit {w : Nat} (x : BitVec w) (i j : Nat) (b : Bool) (hi : i < w) :
    bitOf (setBit x i b) j = if j = i then b else bitOf x j := by
  unfold bitOf setBit
  have hp : ∀ k, (BitVec.ofNat w (2 ^ i)).getLsbD k = decide (k = i) := by
    intro k
    rw [BitVec.getLsbD_ofNat]
    by_cases hk : k = i
    · subst hk; simp [hi]
    · have : Nat.testBit (2 ^ i) k = false := by
        rw [Nat.testBit_two_pow]; simp [Ne.symm hk]
      simp [this, hk]
  cases b
  · simp only [Bool.false_eq_true, if_false, BitVec.getLsbD_and, BitVec.getLsbD_not, hp]
    by_cases hj : j = i
    · subst hj; simp
    · by_cases hw : j < w
      · simp [hj, hw]
      · simp [hj, hw, BitVec.getLsbD_of_ge x j (by omega)]
  · simp only [if_true, BitVec.getLsbD_or, hp]
    by_cases hj : j = i <;> simp [hj]

@[simp] theorem bitOf_setBit_same {w : Nat} (x : BitVec w) (i : Nat) (b : Bool) (hi : i < w) :
    bitOf (setBit x i b) i = b := by
  simp [bitOf_setBit x i i b hi]

theorem bitOf_setBit_ne {w : Nat} (x : BitVec w) {i j : Nat} (b : Bool) (hi : i < w) (h : j ≠ i) :
    bitOf (setBit x i b) j = bitOf x j := by
  simp [bitOf_setBit x i j b hi, h]

theorem Fld.get_lt (f : Fld) (w : Word) : f.get w < 2 ^ (f.hi + 1 - f.lo) := Nat.mod_lt _ (Nat.two_pow_pos _)

/-- A number cut into the part above a field, the field, the part below it. -/
theorem Fld.split (f : Fld) (w : Word) (h : f.lo ≤ f.hi) :
    w.toNat = w.toNat / 2 ^ (f.hi + 1) * 2 ^ (f.hi + 1) + f.get w * 2 ^ f.lo + w.toNat % 2 ^ f.lo := by
  unfold Fld.get
  have e : 2 ^ (f.hi + 1) = 2 ^ f.lo * 2 ^ (f.hi + 1 - f.lo) := by rw [← Nat.pow_add]; congr 1; omega
  have h1 := Nat.div_add_mod w.toNat (2 ^ f.lo)
  have h2 := Nat.div_add_mod (w.toNat / 2 ^ f.lo) (2 ^ (f.hi + 1 - f.lo))
  rw [e, ← Nat.div_div_eq_div_mul]
  generalize w.toNat / 2 ^ f.lo / 2 ^ (f.hi + 1 - f.lo) = q at *
  generalize w.toNat / 2 ^ f.lo % 2 ^ (f.hi + 1 - f.lo) = g at *
  generalize 2 ^ (f.hi + 1 - f.lo) = B at *
  generalize 2 ^ f.lo = A at *
  rw [← h2] at h1
  have : q * (A * B) + g * A = A * (B * q + g) := by ring
  omega

/-- What a word with a field replaced is, as a number. -/
theorem Fld.put_toNat (f : Fld) (w : Word) (v : Nat) (h : f.lo ≤ f.hi) (h32 : f.hi < 32) :
    (f.put w v).toNat =
      w.toNat / 2 ^ (f.hi + 1) * 2 ^ (f.hi + 1) + v % 2 ^ (f.hi + 1 - f.lo) * 2 ^ f.lo + w.toNat % 2 ^ f.lo := by
  have hs := f.split w h
  unfold Fld.put
  rw [BitVec.toNat_ofNat]
  have e : 2 ^ (f.hi + 1) = 2 ^ (f.hi + 1 - f.lo) * 2 ^ f.lo := by rw [← Nat.pow_add]; congr 1; omega
  have e32 : (2 : Nat) ^ 32 = 2 ^ (31 - f.hi) * 2 ^ (f.hi + 1) := by rw [← Nat.pow_add]; congr 1; omega
  have hw := w.isLt
  have hv : v % 2 ^ (f.hi + 1 - f.lo) < 2 ^ (f.hi + 1 - f.lo) := Nat.mod_lt _ (Nat.two_pow_pos _)
  have hr : w.toNat % 2 ^ f.lo < 2 ^ f.lo := Nat.mod_lt _ (Nat.two_pow_pos _)
  have hq : w.toNat / 2 ^ (f.hi + 1) < 2 ^ (31 - f.hi) := by
    rw [Nat.div_lt_iff_lt_mul (Nat.two_pow_pos _), ← e32]; exact hw
  generalize v % 2 ^ (f.hi + 1 - f.lo) = g at *
  generalize w.toNat / 2 ^ (f.hi + 1) = q at *
  generalize w.toNat % 2 ^ f.lo = r at *
  have hb : g * 2 ^ f.lo + r < 2 ^ (f.hi + 1) := by
    rw [e]
    calc g * 2 ^ f.lo + r < g * 2 ^ f.lo + 2 ^ f.lo := by omega
      _ = (g + 1) * 2 ^ f.lo := by ring
      _ ≤ _ := Nat.mul_le_mul_right _ hv
  have hb2 : q * 2 ^ (f.hi + 1) + 2 ^ (f.hi + 1) ≤ 2 ^ 32 := by
    rw [e32]
    calc q * 2 ^ (f.hi + 1) + 2 ^ (f.hi + 1) = (q + 1) * 2 ^ (f.hi + 1) := by ring
      _ ≤ _ := Nat.mul_le_mul_right _ hq
  have : w.toNat - f.get w * 2 ^ f.lo + g * 2 ^ f.lo = q * 2 ^ (f.hi + 1) + g * 2 ^ f.lo + r := by omega
  rw [this]
  exact Nat.mod_eq_of_lt (by omega)

/-- A field reads as what was put into it. -/
theorem Fld.get_put (f : Fld) (w : Word) (v : Nat) (h : f.lo ≤ f.hi) (h32 : f.hi < 32) :
    f.get (f.put w v) = v % 2 ^ (f.hi + 1 - f.lo) := by
  have hp := f.put_toNat w v h h32
  have hr : w.toNat % 2 ^ f.lo < 2 ^ f.lo := Nat.mod_lt _ (Nat.two_pow_pos _)
  have e : 2 ^ (f.hi + 1) = 2 ^ f.lo * 2 ^ (f.hi + 1 - f.lo) := by rw [← Nat.pow_add]; congr 1; omega
  unfold Fld.get
  rw [hp, e]
  generalize w.toNat / (2 ^ f.lo * 2 ^ (f.hi + 1 - f.lo)) = q
  generalize w.toNat % 2 ^ f.lo = r at *
  have : q * (2 ^ f.lo * 2 ^ (f.hi + 1 - f.lo)) + v % 2 ^ (f.hi + 1 - f.lo) * 2 ^ f.lo + r
      = r + 2 ^ f.lo * (v % 2 ^ (f.hi + 1 - f.lo) + 2 ^ (f.hi + 1 - f.lo) * q) := by ring
  rw [this, Nat.add_mul_div_left _ _ (Nat.two_pow_pos _), Nat.div_eq_of_lt hr, Nat.zero_add,
    Nat.add_mul_mod_self_left, Nat.mod_mod]

/-- A field that lies above or below the one put reads as before. -/
theorem Fld.get_put_ne (f g : Fld) (w : Word) (v : Nat) (h : f.lo ≤ f.hi) (h32 : f.hi < 32)
    (hg : g.lo ≤ g.hi) (hd : f.hi < g.lo ∨ g.hi < f.lo) : g.get (f.put w v) = g.get w := by
  have hp := f.put_toNat w v h h32
  have hs := f.split w h
  unfold Fld.get at *
  rw [hp]
  generalize ha : w.toNat / 2 ^ (f.hi + 1) = q at *
  generalize w.toNat / 2 ^ f.lo % 2 ^ (f.hi + 1 - f.lo) = old at *
  generalize hn : v % 2 ^ (f.hi + 1 - f.lo) = new at *
  have hnew : new < 2 ^ (f.hi + 1 - f.lo) := by rw [← hn]; exact Nat.mod_lt _ (Nat.two_pow_pos _)
  generalize hr : w.toNat % 2 ^ f.lo = r at *
  have hrl : r < 2 ^ f.lo := by rw [← hr]; exact Nat.mod_lt _ (Nat.two_pow_pos _)
  rcases hd with hd | hd
  · have e : 2 ^ g.lo = 2 ^ (f.hi + 1) * 2 ^ (g.lo - (f.hi + 1)) := by rw [← Nat.pow_add]; congr 1; omega
    have key : ∀ m, m < 2 ^ (f.hi + 1 - f.lo) → (q * 2 ^ (f.hi + 1) + m * 2 ^ f.lo + r) / 2 ^ g.lo = q / 2 ^ (g.lo - (f.hi + 1)) := by
      intro m hm
      have e2 : 2 ^ (f.hi + 1) = 2 ^ (f.hi + 1 - f.lo) * 2 ^ f.lo := by rw [← Nat.pow_add]; congr 1; omega
      have hb : m * 2 ^ f.lo + r < 2 ^ (f.hi + 1) := by
        rw [e2]
        calc m * 2 ^ f.lo + r < m * 2 ^ f.lo + 2 ^ f.lo := by omega
          _ = (m + 1) * 2 ^ f.lo := by ring
          _ ≤ _ := Nat.mul_le_mul_right _ hm
      rw [e, ← Nat.div_div_eq_div_mul]
      congr 1
      rw [Nat.add_assoc, Nat.mul_comm q, Nat.mul_add_div (Nat.two_pow_pos _), Nat.div_eq_of_lt hb, Nat.add_zero]
    rw [key new hnew]
    have hw : w.toNat / 2 ^ g.lo = q / 2 ^ (g.lo - (f.hi + 1)) := by
      rw [e, ← Nat.div_div_eq_div_mul, ha]
    rw [hw]
  · have e1 : 2 ^ f.lo = 2 ^ g.lo * 2 ^ (g.hi + 1 - g.lo) * 2 ^ (f.lo - (g.hi + 1)) := by
      rw [← Nat.pow_add, ← Nat.pow_add]; congr 1; omega
    have e2 : 2 ^ (f.hi + 1) = 2 ^ f.lo * 2 ^ (f.hi + 1 - f.lo) := by rw [← Nat.pow_add]; congr 1; omega
    have key : ∀ m, (q * 2 ^ (f.hi + 1) + m * 2 ^ f.lo + r) / 2 ^ g.lo % 2 ^ (g.hi + 1 - g.lo) =
        r / 2 ^ g.lo % 2 ^ (g.hi + 1 - g.lo) := by
      intro m
      have : q * 2 ^ (f.hi + 1) + m * 2 ^ f.lo + r =
          r + 2 ^ g.lo * (2 ^ (g.hi + 1 - g.lo) * (2 ^ (f.lo - (g.hi + 1)) * (q * 2 ^ (f.hi + 1 - f.lo) + m))) := by
        rw [e2, e1]; ring
      rw [this, Nat.add_mul_div_left _ _ (Nat.two_pow_pos _), Nat.add_mul_mod_self_left]
    rw [key new, hs, key old]

/-! ### Registers -/

theorem State.reg_setReg (s : State) (a b : Nat) (w : Word) : (s.setReg a w).reg b = if b = a then w else s.reg b := by
  simp [State.reg, State.setReg, SMap.get_set]

@[simp] theorem State.reg_setReg_same (s : State) (a : Nat) (w : Word) : (s.setReg a w).reg a = w := by
  simp [State.reg_setReg]

theorem State.reg_setReg_ne (s : State) {a b : Nat} (w : Word) (h : b ≠ a) : (s.setReg a w).reg b = s.reg b := by
  simp [State.reg_setReg, h]

theorem State.reg_setFld (s : State) (a b : Nat) (f : Fld) (v : Nat) :
    (s.setFld a f v).reg b = if b = a then f.put (s.reg a) v else s.reg b := State.reg_setReg ..

@[simp] theorem State.reg_setFld_same (s : State) (a : Nat) (f : Fld) (v : Nat) :
    (s.setFld a f v).reg a = f.put (s.reg a) v := State.reg_setReg_same ..

theorem State.reg_setFld_ne (s : State) {a b : Nat} (f : Fld) (v : Nat) (h : b ≠ a) :
    (s.setFld a f v).reg b = s.reg b := State.reg_setReg_ne _ _ h

theorem State.reg_setRegBit (s : State) (a b i : Nat) (x : Bool) :
    (s.setRegBit a i x).reg b = if b = a then setBit (s.reg a) i x else s.reg b := State.reg_setReg ..

@[simp] theorem State.reg_setRegBit_same (s : State) (a i : Nat) (x : Bool) :
    (s.setRegBit a i x).reg a = setBit (s.reg a) i x := State.reg_setReg_same ..

theorem State.reg_setRegBit_ne (s : State) {a b : Nat} (i : Nat) (x : Bool) (h : b ≠ a) :
    (s.setRegBit a i x).reg b = s.reg b := State.reg_setReg_ne _ _ h

/-- Raising a source touches its status register and, of class DEGRADE, MF_FAULT; no other register. -/
theorem State.reg_mark_ne (s : State) (e : Evt) {b : Nat} (h : b ≠ e.reg) (hf : b ≠ MF_FAULT) :
    (s.mark e).reg b = s.reg b := by
  unfold State.mark
  simp only
  split
  · rw [State.reg_setRegBit_ne _ _ _ hf, State.reg_setRegBit_ne _ _ _ h]
  · exact State.reg_setRegBit_ne _ _ _ h

/-- A source raised stands in its status register. -/
theorem State.bit_mark (s : State) (e : Evt) (h : e.bit < 32) (hf : e.reg ≠ MF_FAULT) :
    bitOf ((s.mark e).reg e.reg) e.bit = true := by
  unfold State.mark
  simp only
  split
  · rw [State.reg_setRegBit_ne _ _ _ hf]; simp [h]
  · simp [h]

/-- Counting touches the counter and, at all ones, its SATURATED bit; no other register. -/
theorem State.reg_bumpBy_ne (s : State) (c : Ctr) (n : Nat) {b : Nat} (h : b ≠ c.addr) (hs : b ≠ c.satReg) :
    (s.bumpBy c n).reg b = s.reg b := by
  unfold State.bumpBy
  extract_lets v t
  split
  · rw [State.reg_setRegBit_ne _ _ _ hs]; exact State.reg_setReg_ne _ _ h
  · exact State.reg_setReg_ne _ _ h

/-- A counter counts up to all ones and stays there (R14). -/
theorem State.reg_bumpBy_same (s : State) (c : Ctr) (n : Nat) (h : c.addr ≠ c.satReg) :
    (s.bumpBy c n).reg c.addr = BitVec.ofNat 32 (Nat.min ((s.reg c.addr).toNat + n) c.max) := by
  unfold State.bumpBy
  extract_lets v t
  split
  · rw [State.reg_setRegBit_ne _ _ _ h]; exact State.reg_setReg_same ..
  · exact State.reg_setReg_same ..

/-- A field reads as what was stored into it. -/
theorem State.fld_setFld_same (s : State) (a : Nat) (f : Fld) (v : Nat) (h : f.lo ≤ f.hi) (h32 : f.hi < 32) :
    (s.setFld a f v).fld a f = v % 2 ^ (f.hi + 1 - f.lo) := by
  simp [State.fld, Fld.get_put f _ v h h32]

/-- A field that does not meet the one stored reads as before. -/
theorem State.fld_setFld_ne (s : State) (a : Nat) (f g : Fld) (v : Nat) (h : f.lo ≤ f.hi) (h32 : f.hi < 32)
    (hg : g.lo ≤ g.hi) (hd : f.hi < g.lo ∨ g.hi < f.lo) : (s.setFld a f v).fld a g = s.fld a g := by
  simp [State.fld, Fld.get_put_ne f g _ v h h32 hg hd]

theorem State.fld_setReg_ne (s : State) {a b : Nat} (w : Word) (g : Fld) (h : b ≠ a) :
    (s.setReg a w).fld b g = s.fld b g := by
  simp [State.fld, State.reg_setReg_ne _ _ h]

theorem State.fld_setFld_other (s : State) {a b : Nat} (f g : Fld) (v : Nat) (h : b ≠ a) :
    (s.setFld a f v).fld b g = s.fld b g := State.fld_setReg_ne _ _ _ h

/-! ### Nibs -/

theorem State.nib_setNib (s : State) (n m : Nat) (x : Nib) : (s.setNib n x).nib m = if m = n then x else s.nib m := by
  simp [State.nib, State.setNib, SMap.get_set]

@[simp] theorem State.nib_setNib_same (s : State) (n : Nat) (x : Nib) : (s.setNib n x).nib n = x := by
  simp [State.nib_setNib]

theorem State.nib_setNib_ne (s : State) {n m : Nat} (x : Nib) (h : m ≠ n) : (s.setNib n x).nib m = s.nib m := by
  simp [State.nib_setNib, h]

/-! ### What each operation leaves alone -/

@[simp] theorem State.reg_withPending (s : State) (x : List Instr) (a : Nat) : (s.withPending x).reg a = s.reg a := by simp [State.reg]
@[simp] theorem State.reg_withFree (s : State) (x : Nat) (a : Nat) : (s.withFree x).reg a = s.reg a := by simp [State.reg]
@[simp] theorem State.reg_withTim (s : State) (x : Timer) (a : Nat) : (s.withTim x).reg a = s.reg a := by simp [State.reg]
@[simp] theorem State.reg_withLatch (s : State) (x : SMap (List Word)) (a : Nat) : (s.withLatch x).reg a = s.reg a := by simp [State.reg]
@[simp] theorem State.reg_withMem (s : State) (x : List Host.Cell) (a : Nat) : (s.withMem x).reg a = s.reg a := by simp [State.reg]
@[simp] theorem State.reg_withMarks (s : State) (x : SMap Mark) (a : Nat) : (s.withMarks x).reg a = s.reg a := by simp [State.reg]
@[simp] theorem State.reg_withGroups (s : State) (x : SMap MemGroup) (a : Nat) : (s.withGroups x).reg a = s.reg a := by simp [State.reg]
@[simp] theorem State.reg_withNibs (s : State) (x : SMap Nib) (a : Nat) : (s.withNibs x).reg a = s.reg a := by simp [State.reg]
@[simp] theorem State.reg_withSlate (s : State) (x : SMap SlotCopy) (a : Nat) : (s.withSlate x).reg a = s.reg a := by simp [State.reg]
@[simp] theorem State.reg_withRul (s : State) (x : Rul) (a : Nat) : (s.withRul x).reg a = s.reg a := by simp [State.reg]
@[simp] theorem State.reg_withInkPrev (s : State) (x : SMap Word) (a : Nat) : (s.withInkPrev x).reg a = s.reg a := by simp [State.reg]
@[simp] theorem State.reg_withBrus (s : State) (x : SMap Bru) (a : Nat) : (s.withBrus x).reg a = s.reg a := by simp [State.reg]
@[simp] theorem State.reg_withBruLive (s : State) (x : List Nat) (a : Nat) : (s.withBruLive x).reg a = s.reg a := by simp [State.reg]
@[simp] theorem State.reg_withDoms (s : State) (x : SMap Dom) (a : Nat) : (s.withDoms x).reg a = s.reg a := by simp [State.reg]
@[simp] theorem State.reg_withSaps (s : State) (x : SMap Sap) (a : Nat) : (s.withSaps x).reg a = s.reg a := by simp [State.reg]
@[simp] theorem State.reg_withSapHeld (s : State) (x : List Nat) (a : Nat) : (s.withSapHeld x).reg a = s.reg a := by simp [State.reg]
@[simp] theorem State.reg_withSapRemap (s : State) (x : Bool) (a : Nat) : (s.withSapRemap x).reg a = s.reg a := by simp [State.reg]
@[simp] theorem State.reg_withSapMasks (s : State) (x : SMap Word) (a : Nat) : (s.withSapMasks x).reg a = s.reg a := by simp [State.reg]
@[simp] theorem State.reg_withLanes (s : State) (x : SMap Lane) (a : Nat) : (s.withLanes x).reg a = s.reg a := by simp [State.reg]
@[simp] theorem State.reg_withSenseBad (s : State) (x : List Sense) (a : Nat) : (s.withSenseBad x).reg a = s.reg a := by simp [State.reg]
@[simp] theorem State.reg_withAuxBits (s : State) (x : SMap (List Bool)) (a : Nat) : (s.withAuxBits x).reg a = s.reg a := by simp [State.reg]
@[simp] theorem State.reg_withNet (s : State) (x : Net) (a : Nat) : (s.withNet x).reg a = s.reg a := by simp [State.reg]
@[simp] theorem State.reg_withStager (s : State) (x : Stager) (a : Nat) : (s.withStager x).reg a = s.reg a := by simp [State.reg]
@[simp] theorem State.reg_withMir (s : State) (x : Mir) (a : Nat) : (s.withMir x).reg a = s.reg a := by simp [State.reg]
@[simp] theorem State.reg_withRef (s : State) (x : Ref) (a : Nat) : (s.withRef x).reg a = s.reg a := by simp [State.reg]
@[simp] theorem State.reg_withTbs (s : State) (x : SMap TimeBase) (a : Nat) : (s.withTbs x).reg a = s.reg a := by simp [State.reg]
@[simp] theorem State.reg_withPtps (s : State) (x : SMap Ptp) (a : Nat) : (s.withPtps x).reg a = s.reg a := by simp [State.reg]
@[simp] theorem State.reg_withPulses (s : State) (x : SMap Pulse) (a : Nat) : (s.withPulses x).reg a = s.reg a := by simp [State.reg]
@[simp] theorem State.reg_withCapts (s : State) (x : SMap Capt) (a : Nat) : (s.withCapts x).reg a = s.reg a := by simp [State.reg]
@[simp] theorem State.reg_withCapLatch (s : State) (x : SMap (Option CapEntry)) (a : Nat) : (s.withCapLatch x).reg a = s.reg a := by simp [State.reg]
@[simp] theorem State.reg_withFab (s : State) (x : Fab) (a : Nat) : (s.withFab x).reg a = s.reg a := by simp [State.reg]
@[simp] theorem State.reg_withChains (s : State) (x : SMap ChainSt) (a : Nat) : (s.withChains x).reg a = s.reg a := by simp [State.reg]
@[simp] theorem State.reg_withFb (s : State) (x : Fb) (a : Nat) : (s.withFb x).reg a = s.reg a := by simp [State.reg]
@[simp] theorem State.reg_withSec (s : State) (x : Sec) (a : Nat) : (s.withSec x).reg a = s.reg a := by simp [State.reg]
@[simp] theorem State.reg_withBoot (s : State) (x : Boot) (a : Nat) : (s.withBoot x).reg a = s.reg a := by simp [State.reg]
@[simp] theorem State.reg_withMch (s : State) (x : Mch) (a : Nat) : (s.withMch x).reg a = s.reg a := by simp [State.reg]
@[simp] theorem State.reg_withMf (s : State) (x : Mf) (a : Nat) : (s.withMf x).reg a = s.reg a := by simp [State.reg]

@[simp] theorem State.setReg_pending (s : State) (a : Nat) (w : Word) : (s.setReg a w).pending = s.pending := by simp [State.setReg]
@[simp] theorem State.setReg_free (s : State) (a : Nat) (w : Word) : (s.setReg a w).free = s.free := by simp [State.setReg]
@[simp] theorem State.setReg_tim (s : State) (a : Nat) (w : Word) : (s.setReg a w).tim = s.tim := by simp [State.setReg]
@[simp] theorem State.setReg_latch (s : State) (a : Nat) (w : Word) : (s.setReg a w).latch = s.latch := by simp [State.setReg]
@[simp] theorem State.setReg_mem (s : State) (a : Nat) (w : Word) : (s.setReg a w).mem = s.mem := by simp [State.setReg]
@[simp] theorem State.setReg_marks (s : State) (a : Nat) (w : Word) : (s.setReg a w).marks = s.marks := by simp [State.setReg]
@[simp] theorem State.setReg_groups (s : State) (a : Nat) (w : Word) : (s.setReg a w).groups = s.groups := by simp [State.setReg]
@[simp] theorem State.setReg_nibs (s : State) (a : Nat) (w : Word) : (s.setReg a w).nibs = s.nibs := by simp [State.setReg]
@[simp] theorem State.setReg_slate (s : State) (a : Nat) (w : Word) : (s.setReg a w).slate = s.slate := by simp [State.setReg]
@[simp] theorem State.setReg_rul (s : State) (a : Nat) (w : Word) : (s.setReg a w).rul = s.rul := by simp [State.setReg]
@[simp] theorem State.setReg_inkPrev (s : State) (a : Nat) (w : Word) : (s.setReg a w).inkPrev = s.inkPrev := by simp [State.setReg]
@[simp] theorem State.setReg_brus (s : State) (a : Nat) (w : Word) : (s.setReg a w).brus = s.brus := by simp [State.setReg]
@[simp] theorem State.setReg_bruLive (s : State) (a : Nat) (w : Word) : (s.setReg a w).bruLive = s.bruLive := by simp [State.setReg]
@[simp] theorem State.setReg_doms (s : State) (a : Nat) (w : Word) : (s.setReg a w).doms = s.doms := by simp [State.setReg]
@[simp] theorem State.setReg_saps (s : State) (a : Nat) (w : Word) : (s.setReg a w).saps = s.saps := by simp [State.setReg]
@[simp] theorem State.setReg_sapHeld (s : State) (a : Nat) (w : Word) : (s.setReg a w).sapHeld = s.sapHeld := by simp [State.setReg]
@[simp] theorem State.setReg_sapRemap (s : State) (a : Nat) (w : Word) : (s.setReg a w).sapRemap = s.sapRemap := by simp [State.setReg]
@[simp] theorem State.setReg_sapMasks (s : State) (a : Nat) (w : Word) : (s.setReg a w).sapMasks = s.sapMasks := by simp [State.setReg]
@[simp] theorem State.setReg_lanes (s : State) (a : Nat) (w : Word) : (s.setReg a w).lanes = s.lanes := by simp [State.setReg]
@[simp] theorem State.setReg_senseBad (s : State) (a : Nat) (w : Word) : (s.setReg a w).senseBad = s.senseBad := by simp [State.setReg]
@[simp] theorem State.setReg_auxBits (s : State) (a : Nat) (w : Word) : (s.setReg a w).auxBits = s.auxBits := by simp [State.setReg]
@[simp] theorem State.setReg_net (s : State) (a : Nat) (w : Word) : (s.setReg a w).net = s.net := by simp [State.setReg]
@[simp] theorem State.setReg_stager (s : State) (a : Nat) (w : Word) : (s.setReg a w).stager = s.stager := by simp [State.setReg]
@[simp] theorem State.setReg_mir (s : State) (a : Nat) (w : Word) : (s.setReg a w).mir = s.mir := by simp [State.setReg]
@[simp] theorem State.setReg_ref (s : State) (a : Nat) (w : Word) : (s.setReg a w).ref = s.ref := by simp [State.setReg]
@[simp] theorem State.setReg_tbs (s : State) (a : Nat) (w : Word) : (s.setReg a w).tbs = s.tbs := by simp [State.setReg]
@[simp] theorem State.setReg_ptps (s : State) (a : Nat) (w : Word) : (s.setReg a w).ptps = s.ptps := by simp [State.setReg]
@[simp] theorem State.setReg_pulses (s : State) (a : Nat) (w : Word) : (s.setReg a w).pulses = s.pulses := by simp [State.setReg]
@[simp] theorem State.setReg_capts (s : State) (a : Nat) (w : Word) : (s.setReg a w).capts = s.capts := by simp [State.setReg]
@[simp] theorem State.setReg_capLatch (s : State) (a : Nat) (w : Word) : (s.setReg a w).capLatch = s.capLatch := by simp [State.setReg]
@[simp] theorem State.setReg_fab (s : State) (a : Nat) (w : Word) : (s.setReg a w).fab = s.fab := by simp [State.setReg]
@[simp] theorem State.setReg_chains (s : State) (a : Nat) (w : Word) : (s.setReg a w).chains = s.chains := by simp [State.setReg]
@[simp] theorem State.setReg_fb (s : State) (a : Nat) (w : Word) : (s.setReg a w).fb = s.fb := by simp [State.setReg]
@[simp] theorem State.setReg_sec (s : State) (a : Nat) (w : Word) : (s.setReg a w).sec = s.sec := by simp [State.setReg]
@[simp] theorem State.setReg_boot (s : State) (a : Nat) (w : Word) : (s.setReg a w).boot = s.boot := by simp [State.setReg]
@[simp] theorem State.setReg_mch (s : State) (a : Nat) (w : Word) : (s.setReg a w).mch = s.mch := by simp [State.setReg]
@[simp] theorem State.setReg_mf (s : State) (a : Nat) (w : Word) : (s.setReg a w).mf = s.mf := by simp [State.setReg]

@[simp] theorem State.setFld_pending (s : State) (a : Nat) (f : Fld) (v : Nat) : (s.setFld a f v).pending = s.pending := by simp [State.setFld]
@[simp] theorem State.setFld_free (s : State) (a : Nat) (f : Fld) (v : Nat) : (s.setFld a f v).free = s.free := by simp [State.setFld]
@[simp] theorem State.setFld_tim (s : State) (a : Nat) (f : Fld) (v : Nat) : (s.setFld a f v).tim = s.tim := by simp [State.setFld]
@[simp] theorem State.setFld_latch (s : State) (a : Nat) (f : Fld) (v : Nat) : (s.setFld a f v).latch = s.latch := by simp [State.setFld]
@[simp] theorem State.setFld_mem (s : State) (a : Nat) (f : Fld) (v : Nat) : (s.setFld a f v).mem = s.mem := by simp [State.setFld]
@[simp] theorem State.setFld_marks (s : State) (a : Nat) (f : Fld) (v : Nat) : (s.setFld a f v).marks = s.marks := by simp [State.setFld]
@[simp] theorem State.setFld_groups (s : State) (a : Nat) (f : Fld) (v : Nat) : (s.setFld a f v).groups = s.groups := by simp [State.setFld]
@[simp] theorem State.setFld_nibs (s : State) (a : Nat) (f : Fld) (v : Nat) : (s.setFld a f v).nibs = s.nibs := by simp [State.setFld]
@[simp] theorem State.setFld_slate (s : State) (a : Nat) (f : Fld) (v : Nat) : (s.setFld a f v).slate = s.slate := by simp [State.setFld]
@[simp] theorem State.setFld_rul (s : State) (a : Nat) (f : Fld) (v : Nat) : (s.setFld a f v).rul = s.rul := by simp [State.setFld]
@[simp] theorem State.setFld_inkPrev (s : State) (a : Nat) (f : Fld) (v : Nat) : (s.setFld a f v).inkPrev = s.inkPrev := by simp [State.setFld]
@[simp] theorem State.setFld_brus (s : State) (a : Nat) (f : Fld) (v : Nat) : (s.setFld a f v).brus = s.brus := by simp [State.setFld]
@[simp] theorem State.setFld_bruLive (s : State) (a : Nat) (f : Fld) (v : Nat) : (s.setFld a f v).bruLive = s.bruLive := by simp [State.setFld]
@[simp] theorem State.setFld_doms (s : State) (a : Nat) (f : Fld) (v : Nat) : (s.setFld a f v).doms = s.doms := by simp [State.setFld]
@[simp] theorem State.setFld_saps (s : State) (a : Nat) (f : Fld) (v : Nat) : (s.setFld a f v).saps = s.saps := by simp [State.setFld]
@[simp] theorem State.setFld_sapHeld (s : State) (a : Nat) (f : Fld) (v : Nat) : (s.setFld a f v).sapHeld = s.sapHeld := by simp [State.setFld]
@[simp] theorem State.setFld_sapRemap (s : State) (a : Nat) (f : Fld) (v : Nat) : (s.setFld a f v).sapRemap = s.sapRemap := by simp [State.setFld]
@[simp] theorem State.setFld_sapMasks (s : State) (a : Nat) (f : Fld) (v : Nat) : (s.setFld a f v).sapMasks = s.sapMasks := by simp [State.setFld]
@[simp] theorem State.setFld_lanes (s : State) (a : Nat) (f : Fld) (v : Nat) : (s.setFld a f v).lanes = s.lanes := by simp [State.setFld]
@[simp] theorem State.setFld_senseBad (s : State) (a : Nat) (f : Fld) (v : Nat) : (s.setFld a f v).senseBad = s.senseBad := by simp [State.setFld]
@[simp] theorem State.setFld_auxBits (s : State) (a : Nat) (f : Fld) (v : Nat) : (s.setFld a f v).auxBits = s.auxBits := by simp [State.setFld]
@[simp] theorem State.setFld_net (s : State) (a : Nat) (f : Fld) (v : Nat) : (s.setFld a f v).net = s.net := by simp [State.setFld]
@[simp] theorem State.setFld_stager (s : State) (a : Nat) (f : Fld) (v : Nat) : (s.setFld a f v).stager = s.stager := by simp [State.setFld]
@[simp] theorem State.setFld_mir (s : State) (a : Nat) (f : Fld) (v : Nat) : (s.setFld a f v).mir = s.mir := by simp [State.setFld]
@[simp] theorem State.setFld_ref (s : State) (a : Nat) (f : Fld) (v : Nat) : (s.setFld a f v).ref = s.ref := by simp [State.setFld]
@[simp] theorem State.setFld_tbs (s : State) (a : Nat) (f : Fld) (v : Nat) : (s.setFld a f v).tbs = s.tbs := by simp [State.setFld]
@[simp] theorem State.setFld_ptps (s : State) (a : Nat) (f : Fld) (v : Nat) : (s.setFld a f v).ptps = s.ptps := by simp [State.setFld]
@[simp] theorem State.setFld_pulses (s : State) (a : Nat) (f : Fld) (v : Nat) : (s.setFld a f v).pulses = s.pulses := by simp [State.setFld]
@[simp] theorem State.setFld_capts (s : State) (a : Nat) (f : Fld) (v : Nat) : (s.setFld a f v).capts = s.capts := by simp [State.setFld]
@[simp] theorem State.setFld_capLatch (s : State) (a : Nat) (f : Fld) (v : Nat) : (s.setFld a f v).capLatch = s.capLatch := by simp [State.setFld]
@[simp] theorem State.setFld_fab (s : State) (a : Nat) (f : Fld) (v : Nat) : (s.setFld a f v).fab = s.fab := by simp [State.setFld]
@[simp] theorem State.setFld_chains (s : State) (a : Nat) (f : Fld) (v : Nat) : (s.setFld a f v).chains = s.chains := by simp [State.setFld]
@[simp] theorem State.setFld_fb (s : State) (a : Nat) (f : Fld) (v : Nat) : (s.setFld a f v).fb = s.fb := by simp [State.setFld]
@[simp] theorem State.setFld_sec (s : State) (a : Nat) (f : Fld) (v : Nat) : (s.setFld a f v).sec = s.sec := by simp [State.setFld]
@[simp] theorem State.setFld_boot (s : State) (a : Nat) (f : Fld) (v : Nat) : (s.setFld a f v).boot = s.boot := by simp [State.setFld]
@[simp] theorem State.setFld_mch (s : State) (a : Nat) (f : Fld) (v : Nat) : (s.setFld a f v).mch = s.mch := by simp [State.setFld]
@[simp] theorem State.setFld_mf (s : State) (a : Nat) (f : Fld) (v : Nat) : (s.setFld a f v).mf = s.mf := by simp [State.setFld]

@[simp] theorem State.setRegBit_pending (s : State) (a i : Nat) (b : Bool) : (s.setRegBit a i b).pending = s.pending := by simp [State.setRegBit]
@[simp] theorem State.setRegBit_free (s : State) (a i : Nat) (b : Bool) : (s.setRegBit a i b).free = s.free := by simp [State.setRegBit]
@[simp] theorem State.setRegBit_tim (s : State) (a i : Nat) (b : Bool) : (s.setRegBit a i b).tim = s.tim := by simp [State.setRegBit]
@[simp] theorem State.setRegBit_latch (s : State) (a i : Nat) (b : Bool) : (s.setRegBit a i b).latch = s.latch := by simp [State.setRegBit]
@[simp] theorem State.setRegBit_mem (s : State) (a i : Nat) (b : Bool) : (s.setRegBit a i b).mem = s.mem := by simp [State.setRegBit]
@[simp] theorem State.setRegBit_marks (s : State) (a i : Nat) (b : Bool) : (s.setRegBit a i b).marks = s.marks := by simp [State.setRegBit]
@[simp] theorem State.setRegBit_groups (s : State) (a i : Nat) (b : Bool) : (s.setRegBit a i b).groups = s.groups := by simp [State.setRegBit]
@[simp] theorem State.setRegBit_nibs (s : State) (a i : Nat) (b : Bool) : (s.setRegBit a i b).nibs = s.nibs := by simp [State.setRegBit]
@[simp] theorem State.setRegBit_slate (s : State) (a i : Nat) (b : Bool) : (s.setRegBit a i b).slate = s.slate := by simp [State.setRegBit]
@[simp] theorem State.setRegBit_rul (s : State) (a i : Nat) (b : Bool) : (s.setRegBit a i b).rul = s.rul := by simp [State.setRegBit]
@[simp] theorem State.setRegBit_inkPrev (s : State) (a i : Nat) (b : Bool) : (s.setRegBit a i b).inkPrev = s.inkPrev := by simp [State.setRegBit]
@[simp] theorem State.setRegBit_brus (s : State) (a i : Nat) (b : Bool) : (s.setRegBit a i b).brus = s.brus := by simp [State.setRegBit]
@[simp] theorem State.setRegBit_bruLive (s : State) (a i : Nat) (b : Bool) : (s.setRegBit a i b).bruLive = s.bruLive := by simp [State.setRegBit]
@[simp] theorem State.setRegBit_doms (s : State) (a i : Nat) (b : Bool) : (s.setRegBit a i b).doms = s.doms := by simp [State.setRegBit]
@[simp] theorem State.setRegBit_saps (s : State) (a i : Nat) (b : Bool) : (s.setRegBit a i b).saps = s.saps := by simp [State.setRegBit]
@[simp] theorem State.setRegBit_sapHeld (s : State) (a i : Nat) (b : Bool) : (s.setRegBit a i b).sapHeld = s.sapHeld := by simp [State.setRegBit]
@[simp] theorem State.setRegBit_sapRemap (s : State) (a i : Nat) (b : Bool) : (s.setRegBit a i b).sapRemap = s.sapRemap := by simp [State.setRegBit]
@[simp] theorem State.setRegBit_sapMasks (s : State) (a i : Nat) (b : Bool) : (s.setRegBit a i b).sapMasks = s.sapMasks := by simp [State.setRegBit]
@[simp] theorem State.setRegBit_lanes (s : State) (a i : Nat) (b : Bool) : (s.setRegBit a i b).lanes = s.lanes := by simp [State.setRegBit]
@[simp] theorem State.setRegBit_senseBad (s : State) (a i : Nat) (b : Bool) : (s.setRegBit a i b).senseBad = s.senseBad := by simp [State.setRegBit]
@[simp] theorem State.setRegBit_auxBits (s : State) (a i : Nat) (b : Bool) : (s.setRegBit a i b).auxBits = s.auxBits := by simp [State.setRegBit]
@[simp] theorem State.setRegBit_net (s : State) (a i : Nat) (b : Bool) : (s.setRegBit a i b).net = s.net := by simp [State.setRegBit]
@[simp] theorem State.setRegBit_stager (s : State) (a i : Nat) (b : Bool) : (s.setRegBit a i b).stager = s.stager := by simp [State.setRegBit]
@[simp] theorem State.setRegBit_mir (s : State) (a i : Nat) (b : Bool) : (s.setRegBit a i b).mir = s.mir := by simp [State.setRegBit]
@[simp] theorem State.setRegBit_ref (s : State) (a i : Nat) (b : Bool) : (s.setRegBit a i b).ref = s.ref := by simp [State.setRegBit]
@[simp] theorem State.setRegBit_tbs (s : State) (a i : Nat) (b : Bool) : (s.setRegBit a i b).tbs = s.tbs := by simp [State.setRegBit]
@[simp] theorem State.setRegBit_ptps (s : State) (a i : Nat) (b : Bool) : (s.setRegBit a i b).ptps = s.ptps := by simp [State.setRegBit]
@[simp] theorem State.setRegBit_pulses (s : State) (a i : Nat) (b : Bool) : (s.setRegBit a i b).pulses = s.pulses := by simp [State.setRegBit]
@[simp] theorem State.setRegBit_capts (s : State) (a i : Nat) (b : Bool) : (s.setRegBit a i b).capts = s.capts := by simp [State.setRegBit]
@[simp] theorem State.setRegBit_capLatch (s : State) (a i : Nat) (b : Bool) : (s.setRegBit a i b).capLatch = s.capLatch := by simp [State.setRegBit]
@[simp] theorem State.setRegBit_fab (s : State) (a i : Nat) (b : Bool) : (s.setRegBit a i b).fab = s.fab := by simp [State.setRegBit]
@[simp] theorem State.setRegBit_chains (s : State) (a i : Nat) (b : Bool) : (s.setRegBit a i b).chains = s.chains := by simp [State.setRegBit]
@[simp] theorem State.setRegBit_fb (s : State) (a i : Nat) (b : Bool) : (s.setRegBit a i b).fb = s.fb := by simp [State.setRegBit]
@[simp] theorem State.setRegBit_sec (s : State) (a i : Nat) (b : Bool) : (s.setRegBit a i b).sec = s.sec := by simp [State.setRegBit]
@[simp] theorem State.setRegBit_boot (s : State) (a i : Nat) (b : Bool) : (s.setRegBit a i b).boot = s.boot := by simp [State.setRegBit]
@[simp] theorem State.setRegBit_mch (s : State) (a i : Nat) (b : Bool) : (s.setRegBit a i b).mch = s.mch := by simp [State.setRegBit]
@[simp] theorem State.setRegBit_mf (s : State) (a i : Nat) (b : Bool) : (s.setRegBit a i b).mf = s.mf := by simp [State.setRegBit]

@[simp] theorem State.mark_pending (s : State) (e : Evt) : (s.mark e).pending = s.pending := by unfold State.mark; split <;> simp
@[simp] theorem State.mark_free (s : State) (e : Evt) : (s.mark e).free = s.free := by unfold State.mark; split <;> simp
@[simp] theorem State.mark_tim (s : State) (e : Evt) : (s.mark e).tim = s.tim := by unfold State.mark; split <;> simp
@[simp] theorem State.mark_latch (s : State) (e : Evt) : (s.mark e).latch = s.latch := by unfold State.mark; split <;> simp
@[simp] theorem State.mark_mem (s : State) (e : Evt) : (s.mark e).mem = s.mem := by unfold State.mark; split <;> simp
@[simp] theorem State.mark_marks (s : State) (e : Evt) : (s.mark e).marks = s.marks := by unfold State.mark; split <;> simp
@[simp] theorem State.mark_groups (s : State) (e : Evt) : (s.mark e).groups = s.groups := by unfold State.mark; split <;> simp
@[simp] theorem State.mark_nibs (s : State) (e : Evt) : (s.mark e).nibs = s.nibs := by unfold State.mark; split <;> simp
@[simp] theorem State.mark_slate (s : State) (e : Evt) : (s.mark e).slate = s.slate := by unfold State.mark; split <;> simp
@[simp] theorem State.mark_rul (s : State) (e : Evt) : (s.mark e).rul = s.rul := by unfold State.mark; split <;> simp
@[simp] theorem State.mark_inkPrev (s : State) (e : Evt) : (s.mark e).inkPrev = s.inkPrev := by unfold State.mark; split <;> simp
@[simp] theorem State.mark_brus (s : State) (e : Evt) : (s.mark e).brus = s.brus := by unfold State.mark; split <;> simp
@[simp] theorem State.mark_bruLive (s : State) (e : Evt) : (s.mark e).bruLive = s.bruLive := by unfold State.mark; split <;> simp
@[simp] theorem State.mark_doms (s : State) (e : Evt) : (s.mark e).doms = s.doms := by unfold State.mark; split <;> simp
@[simp] theorem State.mark_saps (s : State) (e : Evt) : (s.mark e).saps = s.saps := by unfold State.mark; split <;> simp
@[simp] theorem State.mark_sapHeld (s : State) (e : Evt) : (s.mark e).sapHeld = s.sapHeld := by unfold State.mark; split <;> simp
@[simp] theorem State.mark_sapRemap (s : State) (e : Evt) : (s.mark e).sapRemap = s.sapRemap := by unfold State.mark; split <;> simp
@[simp] theorem State.mark_sapMasks (s : State) (e : Evt) : (s.mark e).sapMasks = s.sapMasks := by unfold State.mark; split <;> simp
@[simp] theorem State.mark_lanes (s : State) (e : Evt) : (s.mark e).lanes = s.lanes := by unfold State.mark; split <;> simp
@[simp] theorem State.mark_senseBad (s : State) (e : Evt) : (s.mark e).senseBad = s.senseBad := by unfold State.mark; split <;> simp
@[simp] theorem State.mark_auxBits (s : State) (e : Evt) : (s.mark e).auxBits = s.auxBits := by unfold State.mark; split <;> simp
@[simp] theorem State.mark_net (s : State) (e : Evt) : (s.mark e).net = s.net := by unfold State.mark; split <;> simp
@[simp] theorem State.mark_stager (s : State) (e : Evt) : (s.mark e).stager = s.stager := by unfold State.mark; split <;> simp
@[simp] theorem State.mark_mir (s : State) (e : Evt) : (s.mark e).mir = s.mir := by unfold State.mark; split <;> simp
@[simp] theorem State.mark_ref (s : State) (e : Evt) : (s.mark e).ref = s.ref := by unfold State.mark; split <;> simp
@[simp] theorem State.mark_tbs (s : State) (e : Evt) : (s.mark e).tbs = s.tbs := by unfold State.mark; split <;> simp
@[simp] theorem State.mark_ptps (s : State) (e : Evt) : (s.mark e).ptps = s.ptps := by unfold State.mark; split <;> simp
@[simp] theorem State.mark_pulses (s : State) (e : Evt) : (s.mark e).pulses = s.pulses := by unfold State.mark; split <;> simp
@[simp] theorem State.mark_capts (s : State) (e : Evt) : (s.mark e).capts = s.capts := by unfold State.mark; split <;> simp
@[simp] theorem State.mark_capLatch (s : State) (e : Evt) : (s.mark e).capLatch = s.capLatch := by unfold State.mark; split <;> simp
@[simp] theorem State.mark_fab (s : State) (e : Evt) : (s.mark e).fab = s.fab := by unfold State.mark; split <;> simp
@[simp] theorem State.mark_chains (s : State) (e : Evt) : (s.mark e).chains = s.chains := by unfold State.mark; split <;> simp
@[simp] theorem State.mark_fb (s : State) (e : Evt) : (s.mark e).fb = s.fb := by unfold State.mark; split <;> simp
@[simp] theorem State.mark_sec (s : State) (e : Evt) : (s.mark e).sec = s.sec := by unfold State.mark; split <;> simp
@[simp] theorem State.mark_boot (s : State) (e : Evt) : (s.mark e).boot = s.boot := by unfold State.mark; split <;> simp
@[simp] theorem State.mark_mch (s : State) (e : Evt) : (s.mark e).mch = s.mch := by unfold State.mark; split <;> simp
@[simp] theorem State.mark_mf (s : State) (e : Evt) : (s.mark e).mf = s.mf := by unfold State.mark; split <;> simp

@[simp] theorem State.bumpBy_pending (s : State) (c : Ctr) (n : Nat) : (s.bumpBy c n).pending = s.pending := by unfold State.bumpBy; simp only; split <;> simp
@[simp] theorem State.bumpBy_free (s : State) (c : Ctr) (n : Nat) : (s.bumpBy c n).free = s.free := by unfold State.bumpBy; simp only; split <;> simp
@[simp] theorem State.bumpBy_tim (s : State) (c : Ctr) (n : Nat) : (s.bumpBy c n).tim = s.tim := by unfold State.bumpBy; simp only; split <;> simp
@[simp] theorem State.bumpBy_latch (s : State) (c : Ctr) (n : Nat) : (s.bumpBy c n).latch = s.latch := by unfold State.bumpBy; simp only; split <;> simp
@[simp] theorem State.bumpBy_mem (s : State) (c : Ctr) (n : Nat) : (s.bumpBy c n).mem = s.mem := by unfold State.bumpBy; simp only; split <;> simp
@[simp] theorem State.bumpBy_marks (s : State) (c : Ctr) (n : Nat) : (s.bumpBy c n).marks = s.marks := by unfold State.bumpBy; simp only; split <;> simp
@[simp] theorem State.bumpBy_groups (s : State) (c : Ctr) (n : Nat) : (s.bumpBy c n).groups = s.groups := by unfold State.bumpBy; simp only; split <;> simp
@[simp] theorem State.bumpBy_nibs (s : State) (c : Ctr) (n : Nat) : (s.bumpBy c n).nibs = s.nibs := by unfold State.bumpBy; simp only; split <;> simp
@[simp] theorem State.bumpBy_slate (s : State) (c : Ctr) (n : Nat) : (s.bumpBy c n).slate = s.slate := by unfold State.bumpBy; simp only; split <;> simp
@[simp] theorem State.bumpBy_rul (s : State) (c : Ctr) (n : Nat) : (s.bumpBy c n).rul = s.rul := by unfold State.bumpBy; simp only; split <;> simp
@[simp] theorem State.bumpBy_inkPrev (s : State) (c : Ctr) (n : Nat) : (s.bumpBy c n).inkPrev = s.inkPrev := by unfold State.bumpBy; simp only; split <;> simp
@[simp] theorem State.bumpBy_brus (s : State) (c : Ctr) (n : Nat) : (s.bumpBy c n).brus = s.brus := by unfold State.bumpBy; simp only; split <;> simp
@[simp] theorem State.bumpBy_bruLive (s : State) (c : Ctr) (n : Nat) : (s.bumpBy c n).bruLive = s.bruLive := by unfold State.bumpBy; simp only; split <;> simp
@[simp] theorem State.bumpBy_doms (s : State) (c : Ctr) (n : Nat) : (s.bumpBy c n).doms = s.doms := by unfold State.bumpBy; simp only; split <;> simp
@[simp] theorem State.bumpBy_saps (s : State) (c : Ctr) (n : Nat) : (s.bumpBy c n).saps = s.saps := by unfold State.bumpBy; simp only; split <;> simp
@[simp] theorem State.bumpBy_sapHeld (s : State) (c : Ctr) (n : Nat) : (s.bumpBy c n).sapHeld = s.sapHeld := by unfold State.bumpBy; simp only; split <;> simp
@[simp] theorem State.bumpBy_sapRemap (s : State) (c : Ctr) (n : Nat) : (s.bumpBy c n).sapRemap = s.sapRemap := by unfold State.bumpBy; simp only; split <;> simp
@[simp] theorem State.bumpBy_sapMasks (s : State) (c : Ctr) (n : Nat) : (s.bumpBy c n).sapMasks = s.sapMasks := by unfold State.bumpBy; simp only; split <;> simp
@[simp] theorem State.bumpBy_lanes (s : State) (c : Ctr) (n : Nat) : (s.bumpBy c n).lanes = s.lanes := by unfold State.bumpBy; simp only; split <;> simp
@[simp] theorem State.bumpBy_senseBad (s : State) (c : Ctr) (n : Nat) : (s.bumpBy c n).senseBad = s.senseBad := by unfold State.bumpBy; simp only; split <;> simp
@[simp] theorem State.bumpBy_auxBits (s : State) (c : Ctr) (n : Nat) : (s.bumpBy c n).auxBits = s.auxBits := by unfold State.bumpBy; simp only; split <;> simp
@[simp] theorem State.bumpBy_net (s : State) (c : Ctr) (n : Nat) : (s.bumpBy c n).net = s.net := by unfold State.bumpBy; simp only; split <;> simp
@[simp] theorem State.bumpBy_stager (s : State) (c : Ctr) (n : Nat) : (s.bumpBy c n).stager = s.stager := by unfold State.bumpBy; simp only; split <;> simp
@[simp] theorem State.bumpBy_mir (s : State) (c : Ctr) (n : Nat) : (s.bumpBy c n).mir = s.mir := by unfold State.bumpBy; simp only; split <;> simp
@[simp] theorem State.bumpBy_ref (s : State) (c : Ctr) (n : Nat) : (s.bumpBy c n).ref = s.ref := by unfold State.bumpBy; simp only; split <;> simp
@[simp] theorem State.bumpBy_tbs (s : State) (c : Ctr) (n : Nat) : (s.bumpBy c n).tbs = s.tbs := by unfold State.bumpBy; simp only; split <;> simp
@[simp] theorem State.bumpBy_ptps (s : State) (c : Ctr) (n : Nat) : (s.bumpBy c n).ptps = s.ptps := by unfold State.bumpBy; simp only; split <;> simp
@[simp] theorem State.bumpBy_pulses (s : State) (c : Ctr) (n : Nat) : (s.bumpBy c n).pulses = s.pulses := by unfold State.bumpBy; simp only; split <;> simp
@[simp] theorem State.bumpBy_capts (s : State) (c : Ctr) (n : Nat) : (s.bumpBy c n).capts = s.capts := by unfold State.bumpBy; simp only; split <;> simp
@[simp] theorem State.bumpBy_capLatch (s : State) (c : Ctr) (n : Nat) : (s.bumpBy c n).capLatch = s.capLatch := by unfold State.bumpBy; simp only; split <;> simp
@[simp] theorem State.bumpBy_fab (s : State) (c : Ctr) (n : Nat) : (s.bumpBy c n).fab = s.fab := by unfold State.bumpBy; simp only; split <;> simp
@[simp] theorem State.bumpBy_chains (s : State) (c : Ctr) (n : Nat) : (s.bumpBy c n).chains = s.chains := by unfold State.bumpBy; simp only; split <;> simp
@[simp] theorem State.bumpBy_fb (s : State) (c : Ctr) (n : Nat) : (s.bumpBy c n).fb = s.fb := by unfold State.bumpBy; simp only; split <;> simp
@[simp] theorem State.bumpBy_sec (s : State) (c : Ctr) (n : Nat) : (s.bumpBy c n).sec = s.sec := by unfold State.bumpBy; simp only; split <;> simp
@[simp] theorem State.bumpBy_boot (s : State) (c : Ctr) (n : Nat) : (s.bumpBy c n).boot = s.boot := by unfold State.bumpBy; simp only; split <;> simp
@[simp] theorem State.bumpBy_mch (s : State) (c : Ctr) (n : Nat) : (s.bumpBy c n).mch = s.mch := by unfold State.bumpBy; simp only; split <;> simp
@[simp] theorem State.bumpBy_mf (s : State) (c : Ctr) (n : Nat) : (s.bumpBy c n).mf = s.mf := by unfold State.bumpBy; simp only; split <;> simp

@[simp] theorem State.bump_pending (s : State) (c : Ctr) : (s.bump c).pending = s.pending := by simp [State.bump]
@[simp] theorem State.bump_free (s : State) (c : Ctr) : (s.bump c).free = s.free := by simp [State.bump]
@[simp] theorem State.bump_tim (s : State) (c : Ctr) : (s.bump c).tim = s.tim := by simp [State.bump]
@[simp] theorem State.bump_latch (s : State) (c : Ctr) : (s.bump c).latch = s.latch := by simp [State.bump]
@[simp] theorem State.bump_mem (s : State) (c : Ctr) : (s.bump c).mem = s.mem := by simp [State.bump]
@[simp] theorem State.bump_marks (s : State) (c : Ctr) : (s.bump c).marks = s.marks := by simp [State.bump]
@[simp] theorem State.bump_groups (s : State) (c : Ctr) : (s.bump c).groups = s.groups := by simp [State.bump]
@[simp] theorem State.bump_nibs (s : State) (c : Ctr) : (s.bump c).nibs = s.nibs := by simp [State.bump]
@[simp] theorem State.bump_slate (s : State) (c : Ctr) : (s.bump c).slate = s.slate := by simp [State.bump]
@[simp] theorem State.bump_rul (s : State) (c : Ctr) : (s.bump c).rul = s.rul := by simp [State.bump]
@[simp] theorem State.bump_inkPrev (s : State) (c : Ctr) : (s.bump c).inkPrev = s.inkPrev := by simp [State.bump]
@[simp] theorem State.bump_brus (s : State) (c : Ctr) : (s.bump c).brus = s.brus := by simp [State.bump]
@[simp] theorem State.bump_bruLive (s : State) (c : Ctr) : (s.bump c).bruLive = s.bruLive := by simp [State.bump]
@[simp] theorem State.bump_doms (s : State) (c : Ctr) : (s.bump c).doms = s.doms := by simp [State.bump]
@[simp] theorem State.bump_saps (s : State) (c : Ctr) : (s.bump c).saps = s.saps := by simp [State.bump]
@[simp] theorem State.bump_sapHeld (s : State) (c : Ctr) : (s.bump c).sapHeld = s.sapHeld := by simp [State.bump]
@[simp] theorem State.bump_sapRemap (s : State) (c : Ctr) : (s.bump c).sapRemap = s.sapRemap := by simp [State.bump]
@[simp] theorem State.bump_sapMasks (s : State) (c : Ctr) : (s.bump c).sapMasks = s.sapMasks := by simp [State.bump]
@[simp] theorem State.bump_lanes (s : State) (c : Ctr) : (s.bump c).lanes = s.lanes := by simp [State.bump]
@[simp] theorem State.bump_senseBad (s : State) (c : Ctr) : (s.bump c).senseBad = s.senseBad := by simp [State.bump]
@[simp] theorem State.bump_auxBits (s : State) (c : Ctr) : (s.bump c).auxBits = s.auxBits := by simp [State.bump]
@[simp] theorem State.bump_net (s : State) (c : Ctr) : (s.bump c).net = s.net := by simp [State.bump]
@[simp] theorem State.bump_stager (s : State) (c : Ctr) : (s.bump c).stager = s.stager := by simp [State.bump]
@[simp] theorem State.bump_mir (s : State) (c : Ctr) : (s.bump c).mir = s.mir := by simp [State.bump]
@[simp] theorem State.bump_ref (s : State) (c : Ctr) : (s.bump c).ref = s.ref := by simp [State.bump]
@[simp] theorem State.bump_tbs (s : State) (c : Ctr) : (s.bump c).tbs = s.tbs := by simp [State.bump]
@[simp] theorem State.bump_ptps (s : State) (c : Ctr) : (s.bump c).ptps = s.ptps := by simp [State.bump]
@[simp] theorem State.bump_pulses (s : State) (c : Ctr) : (s.bump c).pulses = s.pulses := by simp [State.bump]
@[simp] theorem State.bump_capts (s : State) (c : Ctr) : (s.bump c).capts = s.capts := by simp [State.bump]
@[simp] theorem State.bump_capLatch (s : State) (c : Ctr) : (s.bump c).capLatch = s.capLatch := by simp [State.bump]
@[simp] theorem State.bump_fab (s : State) (c : Ctr) : (s.bump c).fab = s.fab := by simp [State.bump]
@[simp] theorem State.bump_chains (s : State) (c : Ctr) : (s.bump c).chains = s.chains := by simp [State.bump]
@[simp] theorem State.bump_fb (s : State) (c : Ctr) : (s.bump c).fb = s.fb := by simp [State.bump]
@[simp] theorem State.bump_sec (s : State) (c : Ctr) : (s.bump c).sec = s.sec := by simp [State.bump]
@[simp] theorem State.bump_boot (s : State) (c : Ctr) : (s.bump c).boot = s.boot := by simp [State.bump]
@[simp] theorem State.bump_mch (s : State) (c : Ctr) : (s.bump c).mch = s.mch := by simp [State.bump]
@[simp] theorem State.bump_mf (s : State) (c : Ctr) : (s.bump c).mf = s.mf := by simp [State.bump]

@[simp] theorem State.setNib_pending (s : State) (n : Nat) (x : Nib) : (s.setNib n x).pending = s.pending := by simp [State.setNib]
@[simp] theorem State.setNib_free (s : State) (n : Nat) (x : Nib) : (s.setNib n x).free = s.free := by simp [State.setNib]
@[simp] theorem State.setNib_tim (s : State) (n : Nat) (x : Nib) : (s.setNib n x).tim = s.tim := by simp [State.setNib]
@[simp] theorem State.setNib_regs (s : State) (n : Nat) (x : Nib) : (s.setNib n x).regs = s.regs := by simp [State.setNib]
@[simp] theorem State.setNib_latch (s : State) (n : Nat) (x : Nib) : (s.setNib n x).latch = s.latch := by simp [State.setNib]
@[simp] theorem State.setNib_mem (s : State) (n : Nat) (x : Nib) : (s.setNib n x).mem = s.mem := by simp [State.setNib]
@[simp] theorem State.setNib_marks (s : State) (n : Nat) (x : Nib) : (s.setNib n x).marks = s.marks := by simp [State.setNib]
@[simp] theorem State.setNib_groups (s : State) (n : Nat) (x : Nib) : (s.setNib n x).groups = s.groups := by simp [State.setNib]
@[simp] theorem State.setNib_slate (s : State) (n : Nat) (x : Nib) : (s.setNib n x).slate = s.slate := by simp [State.setNib]
@[simp] theorem State.setNib_rul (s : State) (n : Nat) (x : Nib) : (s.setNib n x).rul = s.rul := by simp [State.setNib]
@[simp] theorem State.setNib_inkPrev (s : State) (n : Nat) (x : Nib) : (s.setNib n x).inkPrev = s.inkPrev := by simp [State.setNib]
@[simp] theorem State.setNib_brus (s : State) (n : Nat) (x : Nib) : (s.setNib n x).brus = s.brus := by simp [State.setNib]
@[simp] theorem State.setNib_bruLive (s : State) (n : Nat) (x : Nib) : (s.setNib n x).bruLive = s.bruLive := by simp [State.setNib]
@[simp] theorem State.setNib_doms (s : State) (n : Nat) (x : Nib) : (s.setNib n x).doms = s.doms := by simp [State.setNib]
@[simp] theorem State.setNib_saps (s : State) (n : Nat) (x : Nib) : (s.setNib n x).saps = s.saps := by simp [State.setNib]
@[simp] theorem State.setNib_sapHeld (s : State) (n : Nat) (x : Nib) : (s.setNib n x).sapHeld = s.sapHeld := by simp [State.setNib]
@[simp] theorem State.setNib_sapRemap (s : State) (n : Nat) (x : Nib) : (s.setNib n x).sapRemap = s.sapRemap := by simp [State.setNib]
@[simp] theorem State.setNib_sapMasks (s : State) (n : Nat) (x : Nib) : (s.setNib n x).sapMasks = s.sapMasks := by simp [State.setNib]
@[simp] theorem State.setNib_lanes (s : State) (n : Nat) (x : Nib) : (s.setNib n x).lanes = s.lanes := by simp [State.setNib]
@[simp] theorem State.setNib_senseBad (s : State) (n : Nat) (x : Nib) : (s.setNib n x).senseBad = s.senseBad := by simp [State.setNib]
@[simp] theorem State.setNib_auxBits (s : State) (n : Nat) (x : Nib) : (s.setNib n x).auxBits = s.auxBits := by simp [State.setNib]
@[simp] theorem State.setNib_net (s : State) (n : Nat) (x : Nib) : (s.setNib n x).net = s.net := by simp [State.setNib]
@[simp] theorem State.setNib_stager (s : State) (n : Nat) (x : Nib) : (s.setNib n x).stager = s.stager := by simp [State.setNib]
@[simp] theorem State.setNib_mir (s : State) (n : Nat) (x : Nib) : (s.setNib n x).mir = s.mir := by simp [State.setNib]
@[simp] theorem State.setNib_ref (s : State) (n : Nat) (x : Nib) : (s.setNib n x).ref = s.ref := by simp [State.setNib]
@[simp] theorem State.setNib_tbs (s : State) (n : Nat) (x : Nib) : (s.setNib n x).tbs = s.tbs := by simp [State.setNib]
@[simp] theorem State.setNib_ptps (s : State) (n : Nat) (x : Nib) : (s.setNib n x).ptps = s.ptps := by simp [State.setNib]
@[simp] theorem State.setNib_pulses (s : State) (n : Nat) (x : Nib) : (s.setNib n x).pulses = s.pulses := by simp [State.setNib]
@[simp] theorem State.setNib_capts (s : State) (n : Nat) (x : Nib) : (s.setNib n x).capts = s.capts := by simp [State.setNib]
@[simp] theorem State.setNib_capLatch (s : State) (n : Nat) (x : Nib) : (s.setNib n x).capLatch = s.capLatch := by simp [State.setNib]
@[simp] theorem State.setNib_fab (s : State) (n : Nat) (x : Nib) : (s.setNib n x).fab = s.fab := by simp [State.setNib]
@[simp] theorem State.setNib_chains (s : State) (n : Nat) (x : Nib) : (s.setNib n x).chains = s.chains := by simp [State.setNib]
@[simp] theorem State.setNib_fb (s : State) (n : Nat) (x : Nib) : (s.setNib n x).fb = s.fb := by simp [State.setNib]
@[simp] theorem State.setNib_sec (s : State) (n : Nat) (x : Nib) : (s.setNib n x).sec = s.sec := by simp [State.setNib]
@[simp] theorem State.setNib_boot (s : State) (n : Nat) (x : Nib) : (s.setNib n x).boot = s.boot := by simp [State.setNib]
@[simp] theorem State.setNib_mch (s : State) (n : Nat) (x : Nib) : (s.setNib n x).mch = s.mch := by simp [State.setNib]
@[simp] theorem State.setNib_mf (s : State) (n : Nat) (x : Nib) : (s.setNib n x).mf = s.mf := by simp [State.setNib]
@[simp] theorem State.reg_setNib (s : State) (n : Nat) (x : Nib) (a : Nat) : (s.setNib n x).reg a = s.reg a := by simp [State.reg]

end Sys2Proof.Machine
end

