-- ==== Sys2Proof/Laws/Nib.lean ====
section
/-! SUPPORT. What the issue of an instruction does: all there is to say of it, case by case, so that no proof about an
instruction unfolds the sequencer. -/

namespace Sys2Proof.Machine

/-- The word fetched is the instruction's: the body acts on the state after the fetch, and the instruction closes. -/
theorem State.issue_fetchedWord {n : NibId} {w : Word} {s s1 : State} (h : FetchesWord n w s s1) {hit : Word → Bool}
    (hw : hit w = true) (body : Nib → State → Did) : s.issue n hit false body = s1.settle n (body (s1.nib n) s1) := by
  obtain ⟨hr, hf⟩ := h
  unfold State.toFetch at hf
  simp [State.issue, hr, hf, hw]

/-- The same of an instruction that no delay slot may hold, outside one. -/
theorem State.issue_fetchedWord_slotless {n : NibId} {w : Word} {s s1 : State} (h : FetchesWord n w s s1)
    (hs : (s1.nib n).slots = 0) {hit : Word → Bool} (hw : hit w = true) (body : Nib → State → Did) :
    s.issue n hit true body = s1.settle n (body (s1.nib n) s1) := by
  obtain ⟨hr, hf⟩ := h
  unfold State.toFetch at hf
  simp [State.issue, hr, hf, hw, hs]

/-- Such an instruction traps in a delay slot (R151). -/
theorem State.issue_fetchedWord_in_slot {n : NibId} {w : Word} {s s1 : State} (h : FetchesWord n w s s1)
    (hs : (s1.nib n).slots ≠ 0) {hit : Word → Bool} (hw : hit w = true) (body : Nib → State → Did) :
    s.issue n hit true body = s1.trap n trapIllegal := by
  obtain ⟨hr, hf⟩ := h
  unfold State.toFetch at hf
  simp [State.issue, hr, hf, hw, hs]

/-- Of a command whose operands its word spells. -/
theorem State.issue_fetched {n : NibId} {i : Instr} {s s1 : State} (h : Fetches n i s s1) (body : Nib → State → Did) :
    s.issue n (spells n i) false body = s1.settle n (body (s1.nib n) s1) := by
  obtain ⟨w, hw, h⟩ := h
  exact State.issue_fetchedWord h (by simp [spells, hw]) body

theorem State.issue_fetched_slotless {n : NibId} {i : Instr} {s s1 : State} (h : Fetches n i s s1)
    (hs : (s1.nib n).slots = 0) (body : Nib → State → Did) :
    s.issue n (spells n i) true body = s1.settle n (body (s1.nib n) s1) := by
  obtain ⟨w, hw, h⟩ := h
  exact State.issue_fetchedWord_slotless h hs (by simp [spells, hw]) body

theorem State.issue_in_slot {n : NibId} {i : Instr} {s s1 : State} (h : Fetches n i s s1) (hs : (s1.nib n).slots ≠ 0)
    (body : Nib → State → Did) : s.issue n (spells n i) true body = s1.trap n trapIllegal := by
  obtain ⟨w, hw, h⟩ := h
  exact State.issue_fetchedWord_in_slot h hs (by simp [spells, hw]) body

/-- A word that spells another instruction: this one does not issue. -/
theorem State.issue_missed {n : NibId} {w : Word} {s s1 : State} (h : FetchesWord n w s s1) {hit : Word → Bool}
    (hw : hit w = false) (b : Bool) (body : Nib → State → Did) : s.issue n hit b body = s := by
  obtain ⟨hr, hf⟩ := h
  unfold State.toFetch at hf
  simp [State.issue, hr, hf, hw]

/-- A fetch error ends the slice (R122). -/
theorem State.issue_bad_fetch {n : NibId} {w : Word} {s s1 : State} (hr : s.issues n = true)
    (hf : (s.toFetch n).fetchWord n = ((w, true), s1)) (hit : Word → Bool) (b : Bool) (body : Nib → State → Did) :
    s.issue n hit b body = s1.trapIfetch n := by
  unfold State.toFetch at hf
  simp [State.issue, hr, hf]

/-- A nib that cannot issue leaves everything as it is. -/
theorem State.issue_not_ready {n : NibId} {s : State} (hr : s.issues n = false) (hit : Word → Bool) (b : Bool)
    (body : Nib → State → Did) : s.issue n hit b body = s := by
  simp [State.issue, hr]

@[simp] theorem State.settle_trap (n c : Nat) (s : State) : s.settle n (.trap c) = s.trap n c := rfl
@[simp] theorem State.settle_done (n : Nat) (s t : State) : s.settle n (.done t) = t := rfl
theorem State.settle_ok_eq (n : Nat) (s t : State) : s.settle n (.ok t) = t.setNib n (t.nib n).next := rfl

end Sys2Proof.Machine
end

