-- ==== Sys2Proof/Laws/PerInstr.lean ====
section
/-! SUPPORT. A statement for every command as syntax: the commands that have an instruction word are exactly those of
the nib's instruction set (spec/04_nib_instruction_set.md). -/

open Sys2Proof Sys2Proof.Machine

/-- A command has an instruction word exactly when it issues on a nib. -/
def Sys2Proof.Laws.NibWord.Statement (i : Instr) : Prop := (nibEncode i).isSome = (nibOf i).isSome

theorem Sys2Proof.Laws.NibWord.powerGoodRise : Sys2Proof.Laws.NibWord.Statement .powerGoodRise := rfl
theorem Sys2Proof.Laws.NibWord.powerGoodFall : Sys2Proof.Laws.NibWord.Statement .powerGoodFall := rfl
theorem Sys2Proof.Laws.NibWord.resetNAssert (lowNs : Nat) :
    Sys2Proof.Laws.NibWord.Statement (.resetNAssert lowNs) := rfl
theorem Sys2Proof.Laws.NibWord.scribeRelease (bootSwap mchHead : Bool) (fwrev : BitVec 16) :
    Sys2Proof.Laws.NibWord.Statement (.scribeRelease bootSwap mchHead fwrev) := rfl
theorem Sys2Proof.Laws.NibWord.rootLoss : Sys2Proof.Laws.NibWord.Statement .rootLoss := rfl
theorem Sys2Proof.Laws.NibWord.lidEvent : Sys2Proof.Laws.NibWord.Statement .lidEvent := rfl
theorem Sys2Proof.Laws.NibWord.strokeBoundary : Sys2Proof.Laws.NibWord.Statement .strokeBoundary := rfl
theorem Sys2Proof.Laws.NibWord.alignmentFinePullDone :
    Sys2Proof.Laws.NibWord.Statement .alignmentFinePullDone := rfl
theorem Sys2Proof.Laws.NibWord.realign : Sys2Proof.Laws.NibWord.Statement .realign := rfl
theorem Sys2Proof.Laws.NibWord.rulingEntryStart (idx limit acc : Nat) :
    Sys2Proof.Laws.NibWord.Statement (.rulingEntryStart idx limit acc) := rfl
theorem Sys2Proof.Laws.NibWord.tailSweep (p : Fin 4) : Sys2Proof.Laws.NibWord.Statement (.tailSweep p) := rfl
theorem Sys2Proof.Laws.NibWord.spillwayCut (idx : Nat) : Sys2Proof.Laws.NibWord.Statement (.spillwayCut idx) := rfl
theorem Sys2Proof.Laws.NibWord.sluEntryComplete (idx : Nat) :
    Sys2Proof.Laws.NibWord.Statement (.sluEntryComplete idx) := rfl
theorem Sys2Proof.Laws.NibWord.reliefPreparation (q : Fin 16) (home : Fin 256) :
    Sys2Proof.Laws.NibWord.Statement (.reliefPreparation q home) := rfl
theorem Sys2Proof.Laws.NibWord.reliefCommit (q : Fin 16) : Sys2Proof.Laws.NibWord.Statement (.reliefCommit q) := rfl
theorem Sys2Proof.Laws.NibWord.reliefRotationStep (q : Fin 16) :
    Sys2Proof.Laws.NibWord.Statement (.reliefRotationStep q) := rfl
theorem Sys2Proof.Laws.NibWord.reducedRulingSelect : Sys2Proof.Laws.NibWord.Statement .reducedRulingSelect := rfl
theorem Sys2Proof.Laws.NibWord.reducedRulingCommit : Sys2Proof.Laws.NibWord.Statement .reducedRulingCommit := rfl
theorem Sys2Proof.Laws.NibWord.add (n : NibId) (f : Bool) (sd sa sb : BitVec 6) :
    Sys2Proof.Laws.NibWord.Statement (.add n f sd sa sb) := rfl
theorem Sys2Proof.Laws.NibWord.sub (n : NibId) (f : Bool) (sd sa sb : BitVec 6) :
    Sys2Proof.Laws.NibWord.Statement (.sub n f sd sa sb) := rfl
theorem Sys2Proof.Laws.NibWord.and (n : NibId) (f : Bool) (sd sa sb : BitVec 6) :
    Sys2Proof.Laws.NibWord.Statement (.and n f sd sa sb) := rfl
theorem Sys2Proof.Laws.NibWord.or (n : NibId) (f : Bool) (sd sa sb : BitVec 6) :
    Sys2Proof.Laws.NibWord.Statement (.or n f sd sa sb) := rfl
theorem Sys2Proof.Laws.NibWord.xor (n : NibId) (f : Bool) (sd sa sb : BitVec 6) :
    Sys2Proof.Laws.NibWord.Statement (.xor n f sd sa sb) := rfl
theorem Sys2Proof.Laws.NibWord.sll (n : NibId) (f : Bool) (sd sa sb : BitVec 6) :
    Sys2Proof.Laws.NibWord.Statement (.sll n f sd sa sb) := rfl
theorem Sys2Proof.Laws.NibWord.srl (n : NibId) (f : Bool) (sd sa sb : BitVec 6) :
    Sys2Proof.Laws.NibWord.Statement (.srl n f sd sa sb) := rfl
theorem Sys2Proof.Laws.NibWord.sra (n : NibId) (f : Bool) (sd sa sb : BitVec 6) :
    Sys2Proof.Laws.NibWord.Statement (.sra n f sd sa sb) := rfl
theorem Sys2Proof.Laws.NibWord.slli (n : NibId) (f : Bool) (sd sa : BitVec 6) (sh : BitVec 5) :
    Sys2Proof.Laws.NibWord.Statement (.slli n f sd sa sh) := rfl
theorem Sys2Proof.Laws.NibWord.srli (n : NibId) (f : Bool) (sd sa : BitVec 6) (sh : BitVec 5) :
    Sys2Proof.Laws.NibWord.Statement (.srli n f sd sa sh) := rfl
theorem Sys2Proof.Laws.NibWord.srai (n : NibId) (f : Bool) (sd sa : BitVec 6) (sh : BitVec 5) :
    Sys2Proof.Laws.NibWord.Statement (.srai n f sd sa sh) := rfl
theorem Sys2Proof.Laws.NibWord.min (n : NibId) (f : Bool) (sd sa sb : BitVec 6) :
    Sys2Proof.Laws.NibWord.Statement (.min n f sd sa sb) := rfl
theorem Sys2Proof.Laws.NibWord.max (n : NibId) (f : Bool) (sd sa sb : BitVec 6) :
    Sys2Proof.Laws.NibWord.Statement (.max n f sd sa sb) := rfl
theorem Sys2Proof.Laws.NibWord.sel (n : NibId) (sd sa sb : BitVec 6) (cond : BitVec 4) :
    Sys2Proof.Laws.NibWord.Statement (.sel n sd sa sb cond) := rfl
theorem Sys2Proof.Laws.NibWord.cmp (n : NibId) (sa sb : BitVec 6) :
    Sys2Proof.Laws.NibWord.Statement (.cmp n sa sb) := rfl
theorem Sys2Proof.Laws.NibWord.addi (n : NibId) (f : Bool) (sd sa : BitVec 6) (imm : BitVec 14) :
    Sys2Proof.Laws.NibWord.Statement (.addi n f sd sa imm) := rfl
theorem Sys2Proof.Laws.NibWord.movl (n : NibId) (sd : BitVec 6) (imm : BitVec 16) :
    Sys2Proof.Laws.NibWord.Statement (.movl n sd imm) := rfl
theorem Sys2Proof.Laws.NibWord.movh (n : NibId) (sd : BitVec 6) (imm : BitVec 16) :
    Sys2Proof.Laws.NibWord.Statement (.movh n sd imm) := rfl
theorem Sys2Proof.Laws.NibWord.fadd (n : NibId) (dd da db : BitVec 5) :
    Sys2Proof.Laws.NibWord.Statement (.fadd n dd da db) := rfl
theorem Sys2Proof.Laws.NibWord.fsub (n : NibId) (dd da db : BitVec 5) :
    Sys2Proof.Laws.NibWord.Statement (.fsub n dd da db) := rfl
theorem Sys2Proof.Laws.NibWord.fmul (n : NibId) (dd da db : BitVec 5) :
    Sys2Proof.Laws.NibWord.Statement (.fmul n dd da db) := rfl
theorem Sys2Proof.Laws.NibWord.fmin (n : NibId) (dd da db : BitVec 5) :
    Sys2Proof.Laws.NibWord.Statement (.fmin n dd da db) := rfl
theorem Sys2Proof.Laws.NibWord.fmax (n : NibId) (dd da db : BitVec 5) :
    Sys2Proof.Laws.NibWord.Statement (.fmax n dd da db) := rfl
theorem Sys2Proof.Laws.NibWord.fabs (n : NibId) (dd da : BitVec 5) :
    Sys2Proof.Laws.NibWord.Statement (.fabs n dd da) := rfl
theorem Sys2Proof.Laws.NibWord.fneg (n : NibId) (dd da : BitVec 5) :
    Sys2Proof.Laws.NibWord.Statement (.fneg n dd da) := rfl
theorem Sys2Proof.Laws.NibWord.fcmp (n : NibId) (dd da db : BitVec 5) :
    Sys2Proof.Laws.NibWord.Statement (.fcmp n dd da db) := rfl
theorem Sys2Proof.Laws.NibWord.fcvtqf (n : NibId) (dd da : BitVec 5) :
    Sys2Proof.Laws.NibWord.Statement (.fcvtqf n dd da) := rfl
theorem Sys2Proof.Laws.NibWord.fcvtfq (n : NibId) (dd da : BitVec 5) :
    Sys2Proof.Laws.NibWord.Statement (.fcvtfq n dd da) := rfl
theorem Sys2Proof.Laws.NibWord.fma (n : NibId) (dd da db : BitVec 5) :
    Sys2Proof.Laws.NibWord.Statement (.fma n dd da db) := rfl
theorem Sys2Proof.Laws.NibWord.ld (n : NibId) (dd : BitVec 5) (p : BitVec 3) (mode : MemMode) :
    Sys2Proof.Laws.NibWord.Statement (.ld n dd p mode) := rfl
theorem Sys2Proof.Laws.NibWord.st (n : NibId) (ds : BitVec 5) (p : BitVec 3) (mode : MemMode) (bx : Bool) :
    Sys2Proof.Laws.NibWord.Statement (.st n ds p mode bx) := rfl
theorem Sys2Proof.Laws.NibWord.ldq (n : NibId) (qd : BitVec 3) (p : BitVec 3) (mode : MemMode) :
    Sys2Proof.Laws.NibWord.Statement (.ldq n qd p mode) := rfl
theorem Sys2Proof.Laws.NibWord.stq (n : NibId) (qs : BitVec 3) (p : BitVec 3) (mode : MemMode) (bx : Bool) :
    Sys2Proof.Laws.NibWord.Statement (.stq n qs p mode bx) := rfl
theorem Sys2Proof.Laws.NibWord.ld2 (n : NibId) (a0 a1 : DualAcc) :
    Sys2Proof.Laws.NibWord.Statement (.ld2 n a0 a1) := rfl
theorem Sys2Proof.Laws.NibWord.qadds (n : NibId) (mask : BitVec 4) (qd qa : BitVec 3) (b : QSrc) :
    Sys2Proof.Laws.NibWord.Statement (.qadds n mask qd qa b) := rfl
theorem Sys2Proof.Laws.NibWord.qsubs (n : NibId) (mask : BitVec 4) (qd qa : BitVec 3) (b : QSrc) :
    Sys2Proof.Laws.NibWord.Statement (.qsubs n mask qd qa b) := rfl
theorem Sys2Proof.Laws.NibWord.qmulr (n : NibId) (mask : BitVec 4) (qd qa : BitVec 3) (b : QSrc) :
    Sys2Proof.Laws.NibWord.Statement (.qmulr n mask qd qa b) := rfl
theorem Sys2Proof.Laws.NibWord.qabss (n : NibId) (mask : BitVec 4) (qd qa : BitVec 3) :
    Sys2Proof.Laws.NibWord.Statement (.qabss n mask qd qa) := rfl
theorem Sys2Proof.Laws.NibWord.qnegs (n : NibId) (mask : BitVec 4) (qd qa : BitVec 3) :
    Sys2Proof.Laws.NibWord.Statement (.qnegs n mask qd qa) := rfl
theorem Sys2Proof.Laws.NibWord.qmax (n : NibId) (mask : BitVec 4) (qd qa : BitVec 3) (b : QSrc) :
    Sys2Proof.Laws.NibWord.Statement (.qmax n mask qd qa b) := rfl
theorem Sys2Proof.Laws.NibWord.qmin (n : NibId) (mask : BitVec 4) (qd qa : BitVec 3) (b : QSrc) :
    Sys2Proof.Laws.NibWord.Statement (.qmin n mask qd qa b) := rfl
theorem Sys2Proof.Laws.NibWord.qshl (n : NibId) (mask : BitVec 4) (qd qa : BitVec 3) (b : QSrc) :
    Sys2Proof.Laws.NibWord.Statement (.qshl n mask qd qa b) := rfl
theorem Sys2Proof.Laws.NibWord.faddq (n : NibId) (mask : BitVec 4) (qd qa : BitVec 3) (b : QSrc) :
    Sys2Proof.Laws.NibWord.Statement (.faddq n mask qd qa b) := rfl
theorem Sys2Proof.Laws.NibWord.fsubq (n : NibId) (mask : BitVec 4) (qd qa : BitVec 3) (b : QSrc) :
    Sys2Proof.Laws.NibWord.Statement (.fsubq n mask qd qa b) := rfl
theorem Sys2Proof.Laws.NibWord.fmulq (n : NibId) (mask : BitVec 4) (qd qa : BitVec 3) (b : QSrc) :
    Sys2Proof.Laws.NibWord.Statement (.fmulq n mask qd qa b) := rfl
theorem Sys2Proof.Laws.NibWord.fmaq (n : NibId) (mask : BitVec 4) (qd qa : BitVec 3) (b : QSrc) :
    Sys2Proof.Laws.NibWord.Statement (.fmaq n mask qd qa b) := rfl
theorem Sys2Proof.Laws.NibWord.fcvtqfq (n : NibId) (mask : BitVec 4) (qd qa : BitVec 3) :
    Sys2Proof.Laws.NibWord.Statement (.fcvtqfq n mask qd qa) := rfl
theorem Sys2Proof.Laws.NibWord.fcvtfqq (n : NibId) (mask : BitVec 4) (qd qa : BitVec 3) :
    Sys2Proof.Laws.NibWord.Statement (.fcvtfqq n mask qd qa) := rfl
theorem Sys2Proof.Laws.NibWord.qmov (n : NibId) (mask : BitVec 4) (qd : BitVec 3) (src : QSrc) :
    Sys2Proof.Laws.NibWord.Statement (.qmov n mask qd src) := by cases src <;> rfl
theorem Sys2Proof.Laws.NibWord.mpy (n : NibId) (x : Bool) (qa : BitVec 3) (b : QSrc) (ld : ParLoad) :
    Sys2Proof.Laws.NibWord.Statement (.mpy n x qa b ld) := rfl
theorem Sys2Proof.Laws.NibWord.mac (n : NibId) (x : Bool) (qa : BitVec 3) (b : QSrc) (ld : ParLoad) :
    Sys2Proof.Laws.NibWord.Statement (.mac n x qa b ld) := rfl
theorem Sys2Proof.Laws.NibWord.msu (n : NibId) (x : Bool) (qa : BitVec 3) (b : QSrc) (ld : ParLoad) :
    Sys2Proof.Laws.NibWord.Statement (.msu n x qa b ld) := rfl
theorem Sys2Proof.Laws.NibWord.ext (n : NibId) (fmt x : Bool) (qd : BitVec 3) (mask : BitVec 4) (shift : BitVec 5) (bx clr : Bool) :
    Sys2Proof.Laws.NibWord.Statement (.ext n fmt x qd mask shift bx clr) := rfl
theorem Sys2Proof.Laws.NibWord.acld (n : NibId) (x : Bool) (lane : BitVec 2) (dj : BitVec 5) :
    Sys2Proof.Laws.NibWord.Statement (.acld n x lane dj) := rfl
theorem Sys2Proof.Laws.NibWord.acst (n : NibId) (x : Bool) (lane : BitVec 2) (dj : BitVec 5) :
    Sys2Proof.Laws.NibWord.Statement (.acst n x lane dj) := rfl
theorem Sys2Proof.Laws.NibWord.br (n : NibId) (cond : BitVec 4) (target : BitVec 13) :
    Sys2Proof.Laws.NibWord.Statement (.br n cond target) := rfl
theorem Sys2Proof.Laws.NibWord.bdnz (n : NibId) (dk : BitVec 5) (target : BitVec 13) :
    Sys2Proof.Laws.NibWord.Statement (.bdnz n dk target) := rfl
theorem Sys2Proof.Laws.NibWord.rep (n : NibId) (count1 : BitVec 12) :
    Sys2Proof.Laws.NibWord.Statement (.rep n count1) := rfl
theorem Sys2Proof.Laws.NibWord.halt (n : NibId) : Sys2Proof.Laws.NibWord.Statement (.halt n) := rfl
theorem Sys2Proof.Laws.NibWord.reti (n : NibId) : Sys2Proof.Laws.NibWord.Statement (.reti n) := rfl
theorem Sys2Proof.Laws.NibWord.nop (n : NibId) : Sys2Proof.Laws.NibWord.Statement (.nop n) := rfl
theorem Sys2Proof.Laws.NibWord.fence (n : NibId) : Sys2Proof.Laws.NibWord.Statement (.fence n) := rfl
theorem Sys2Proof.Laws.NibWord.movcTo (n : NibId) (creg : BitVec 4) (sa : BitVec 6) :
    Sys2Proof.Laws.NibWord.Statement (.movcTo n creg sa) := rfl
theorem Sys2Proof.Laws.NibWord.movcFrom (n : NibId) (creg : BitVec 4) (sd : BitVec 6) :
    Sys2Proof.Laws.NibWord.Statement (.movcFrom n creg sd) := rfl
theorem Sys2Proof.Laws.NibWord.irqclr (n : NibId) (clear : BitVec 3) :
    Sys2Proof.Laws.NibWord.Statement (.irqclr n clear) := rfl
theorem Sys2Proof.Laws.NibWord.interruptEntry (n : NibId) :
    Sys2Proof.Laws.NibWord.Statement (.interruptEntry n) := rfl
theorem Sys2Proof.Laws.NibWord.timerMatch (n : NibId) : Sys2Proof.Laws.NibWord.Statement (.timerMatch n) := rfl
theorem Sys2Proof.Laws.NibWord.warnLeadReached (n : NibId) :
    Sys2Proof.Laws.NibWord.Statement (.warnLeadReached n) := rfl
theorem Sys2Proof.Laws.NibWord.nibGuardCycle (n : NibId) :
    Sys2Proof.Laws.NibWord.Statement (.nibGuardCycle n) := rfl
theorem Sys2Proof.Laws.NibWord.quireSramLoadReturn (n : NibId) (waited : Nat) :
    Sys2Proof.Laws.NibWord.Statement (.quireSramLoadReturn n waited) := rfl
theorem Sys2Proof.Laws.NibWord.postedStoreAck (n : NibId) (waited : Nat) :
    Sys2Proof.Laws.NibWord.Statement (.postedStoreAck n waited) := rfl
theorem Sys2Proof.Laws.NibWord.inkRowRewrite (p : Fin 4) (row : Fin 16384) :
    Sys2Proof.Laws.NibWord.Statement (.inkRowRewrite p row) := rfl
theorem Sys2Proof.Laws.NibWord.descriptorRewrite (p : Fin 4) (e : Fin 512) :
    Sys2Proof.Laws.NibWord.Statement (.descriptorRewrite p e) := rfl
theorem Sys2Proof.Laws.NibWord.sapFrame (k : Fin 16) (fr : SapFrame) :
    Sys2Proof.Laws.NibWord.Statement (.sapFrame k fr) := rfl
theorem Sys2Proof.Laws.NibWord.sapFsTimeout (k : Fin 16) : Sys2Proof.Laws.NibWord.Statement (.sapFsTimeout k) := rfl
theorem Sys2Proof.Laws.NibWord.sapReleasePoint (edges : List (Option (BitVec 64))) :
    Sys2Proof.Laws.NibWord.Statement (.sapReleasePoint edges) := rfl
theorem Sys2Proof.Laws.NibWord.sapTxFetch : Sys2Proof.Laws.NibWord.Statement .sapTxFetch := rfl
theorem Sys2Proof.Laws.NibWord.laneSlotRead : Sys2Proof.Laws.NibWord.Statement .laneSlotRead := rfl
theorem Sys2Proof.Laws.NibWord.carrierPeriod (k : Fin 32) (i : Fin 112) (isd vsd pair : BitVec 32) :
    Sys2Proof.Laws.NibWord.Statement (.carrierPeriod k i isd vsd pair) := rfl
theorem Sys2Proof.Laws.NibWord.ilimTrip (k : Fin 32) (isd : BitVec 10) (cycle : Fin 1600) :
    Sys2Proof.Laws.NibWord.Statement (.ilimTrip k isd cycle) := rfl
theorem Sys2Proof.Laws.NibWord.retryWaitExpiry (k : Fin 32) :
    Sys2Proof.Laws.NibWord.Statement (.retryWaitExpiry k) := rfl
theorem Sys2Proof.Laws.NibWord.tryReset (k : Fin 32) : Sys2Proof.Laws.NibWord.Statement (.tryReset k) := rfl
theorem Sys2Proof.Laws.NibWord.laneClr (k : Fin 32) : Sys2Proof.Laws.NibWord.Statement (.laneClr k) := rfl
theorem Sys2Proof.Laws.NibWord.dcLatch (k : Fin 32) : Sys2Proof.Laws.NibWord.Statement (.dcLatch k) := rfl
theorem Sys2Proof.Laws.NibWord.leveeStrokeUpdate (aux : List (List Bool)) :
    Sys2Proof.Laws.NibWord.Statement (.leveeStrokeUpdate aux) := rfl
theorem Sys2Proof.Laws.NibWord.senseFail (x : Sense) : Sys2Proof.Laws.NibWord.Statement (.senseFail x) := rfl
theorem Sys2Proof.Laws.NibWord.senseRecover (x : Sense) : Sys2Proof.Laws.NibWord.Statement (.senseRecover x) := rfl
theorem Sys2Proof.Laws.NibWord.relaySettleExpiry (k : Fin 32) :
    Sys2Proof.Laws.NibWord.Statement (.relaySettleExpiry k) := rfl
theorem Sys2Proof.Laws.NibWord.loadSenseWindowEnd (k : Fin 32) :
    Sys2Proof.Laws.NibWord.Statement (.loadSenseWindowEnd k) := rfl
theorem Sys2Proof.Laws.NibWord.ical (k : Fin 32) : Sys2Proof.Laws.NibWord.Statement (.ical k) := rfl
theorem Sys2Proof.Laws.NibWord.calibrationDone (k : Fin 32) :
    Sys2Proof.Laws.NibWord.Statement (.calibrationDone k) := rfl
theorem Sys2Proof.Laws.NibWord.linkUp (i : Fin 4) : Sys2Proof.Laws.NibWord.Statement (.linkUp i) := rfl
theorem Sys2Proof.Laws.NibWord.linkDown (i : Fin 4) : Sys2Proof.Laws.NibWord.Statement (.linkDown i) := rfl
theorem Sys2Proof.Laws.NibWord.announceRepeat (w : Fin 2) :
    Sys2Proof.Laws.NibWord.Statement (.announceRepeat w) := rfl
theorem Sys2Proof.Laws.NibWord.arpRequest (i : Fin 4) (x : RxWire) (ip sip : BitVec 32) (smac : BitVec 48) :
    Sys2Proof.Laws.NibWord.Statement (.arpRequest i x ip sip smac) := rfl
theorem Sys2Proof.Laws.NibWord.neighbourSolicitation (i : Fin 4) (x : RxWire) (ip sip : BitVec 128) (smac : BitVec 48) :
    Sys2Proof.Laws.NibWord.Statement (.neighbourSolicitation i x ip sip smac) := rfl
theorem Sys2Proof.Laws.NibWord.igmpQuery (i : Fin 4) (x : RxWire) (q : GroupQuery) :
    Sys2Proof.Laws.NibWord.Statement (.igmpQuery i x q) := rfl
theorem Sys2Proof.Laws.NibWord.mldQuery (i : Fin 4) (x : RxWire) (q : GroupQuery) :
    Sys2Proof.Laws.NibWord.Statement (.mldQuery i x q) := rfl
theorem Sys2Proof.Laws.NibWord.queryResponseDue (w : Fin 2) :
    Sys2Proof.Laws.NibWord.Statement (.queryResponseDue w) := rfl
theorem Sys2Proof.Laws.NibWord.reportRepeat (w : Fin 2) : Sys2Proof.Laws.NibWord.Statement (.reportRepeat w) := rfl
theorem Sys2Proof.Laws.NibWord.frameDropped (i : Fin 4) (frame : List Byte) :
    Sys2Proof.Laws.NibWord.Statement (.frameDropped i frame) := rfl
theorem Sys2Proof.Laws.NibWord.gsfPacket (i : Fin 4) (pkt : GsfPacket) :
    Sys2Proof.Laws.NibWord.Statement (.gsfPacket i pkt) := rfl
theorem Sys2Proof.Laws.NibWord.rtpPacket (i : Fin 4) (pkt : RtpPacket) :
    Sys2Proof.Laws.NibWord.Statement (.rtpPacket i pkt) := rfl
theorem Sys2Proof.Laws.NibWord.flowEnable (f : Fin 2048) (on : Bool) :
    Sys2Proof.Laws.NibWord.Statement (.flowEnable f on) := rfl
theorem Sys2Proof.Laws.NibWord.flowLaunch : Sys2Proof.Laws.NibWord.Statement .flowLaunch := rfl
theorem Sys2Proof.Laws.NibWord.txPacketDrop (i : Fin 4) : Sys2Proof.Laws.NibWord.Statement (.txPacketDrop i) := rfl
theorem Sys2Proof.Laws.NibWord.jitterRelease : Sys2Proof.Laws.NibWord.Statement .jitterRelease := rfl
theorem Sys2Proof.Laws.NibWord.historyExpiry : Sys2Proof.Laws.NibWord.Statement .historyExpiry := rfl
theorem Sys2Proof.Laws.NibWord.intakeRecordWrite (idx : Option Nat) (slot : Fin 256) (words : List (Word × Bool)) :
    Sys2Proof.Laws.NibWord.Statement (.intakeRecordWrite idx slot words) := rfl
theorem Sys2Proof.Laws.NibWord.tagPendAddr (port : Port) (addr : Word) :
    Sys2Proof.Laws.NibWord.Statement (.tagPendAddr port addr) := rfl
theorem Sys2Proof.Laws.NibWord.handover : Sys2Proof.Laws.NibWord.Statement .handover := rfl
theorem Sys2Proof.Laws.NibWord.resync : Sys2Proof.Laws.NibWord.Statement .resync := rfl
theorem Sys2Proof.Laws.NibWord.selectorEvaluation : Sys2Proof.Laws.NibWord.Statement .selectorEvaluation := rfl
theorem Sys2Proof.Laws.NibWord.narrowStepExpiry : Sys2Proof.Laws.NibWord.Statement .narrowStepExpiry := rfl
theorem Sys2Proof.Laws.NibWord.refInputAbsent (i : Fin 6) :
    Sys2Proof.Laws.NibWord.Statement (.refInputAbsent i) := rfl
theorem Sys2Proof.Laws.NibWord.triadAdvance : Sys2Proof.Laws.NibWord.Statement .triadAdvance := rfl
theorem Sys2Proof.Laws.NibWord.tbSet (i : Fin 4) : Sys2Proof.Laws.NibWord.Statement (.tbSet i) := rfl
theorem Sys2Proof.Laws.NibWord.tbAdj (i : Fin 4) (ns : Word) : Sys2Proof.Laws.NibWord.Statement (.tbAdj i ns) := rfl
theorem Sys2Proof.Laws.NibWord.ptpSync (w : Fin 2) (m : PtpSync) :
    Sys2Proof.Laws.NibWord.Statement (.ptpSync w m) := rfl
theorem Sys2Proof.Laws.NibWord.ptpFollowUp (w : Fin 2) (m : PtpFollowUp) :
    Sys2Proof.Laws.NibWord.Statement (.ptpFollowUp w m) := rfl
theorem Sys2Proof.Laws.NibWord.ptpAnnounce (w : Fin 2) (m : PtpAnnounce) :
    Sys2Proof.Laws.NibWord.Statement (.ptpAnnounce w m) := rfl
theorem Sys2Proof.Laws.NibWord.ptpDelayMessage (w : Fin 2) (m : PtpDelay) :
    Sys2Proof.Laws.NibWord.Statement (.ptpDelayMessage w m) := rfl
theorem Sys2Proof.Laws.NibWord.announceReceiptTimeout (w : Fin 2) :
    Sys2Proof.Laws.NibWord.Statement (.announceReceiptTimeout w) := rfl
theorem Sys2Proof.Laws.NibWord.syncTimeout (w : Fin 2) : Sys2Proof.Laws.NibWord.Statement (.syncTimeout w) := rfl
theorem Sys2Proof.Laws.NibWord.pulseEdge (k : Fin 16) : Sys2Proof.Laws.NibWord.Statement (.pulseEdge k) := rfl
theorem Sys2Proof.Laws.NibWord.pulseWidthEnd (k : Fin 16) :
    Sys2Proof.Laws.NibWord.Statement (.pulseWidthEnd k) := rfl
theorem Sys2Proof.Laws.NibWord.pulseArm (k : Fin 16) : Sys2Proof.Laws.NibWord.Statement (.pulseArm k) := rfl
theorem Sys2Proof.Laws.NibWord.pulseDisarm (k : Fin 16) : Sys2Proof.Laws.NibWord.Statement (.pulseDisarm k) := rfl
theorem Sys2Proof.Laws.NibWord.captureEdge (k : Fin 8) (rising : Bool) (stamp : BitVec 64) :
    Sys2Proof.Laws.NibWord.Statement (.captureEdge k rising stamp) := rfl
theorem Sys2Proof.Laws.NibWord.capPop (port : Port) (k : Fin 8) :
    Sys2Proof.Laws.NibWord.Statement (.capPop port k) := rfl
theorem Sys2Proof.Laws.NibWord.fabricRequest (port : Port) (limit : Nat) (req : FabReq) :
    Sys2Proof.Laws.NibWord.Statement (.fabricRequest port limit req) := rfl
theorem Sys2Proof.Laws.NibWord.fabricResponse (port : Port) (id : BitVec 4) :
    Sys2Proof.Laws.NibWord.Statement (.fabricResponse port id) := rfl
theorem Sys2Proof.Laws.NibWord.tideExpiry (port : Port) : Sys2Proof.Laws.NibWord.Statement (.tideExpiry port) := rfl
theorem Sys2Proof.Laws.NibWord.gateDrained (g : Domain) : Sys2Proof.Laws.NibWord.Statement (.gateDrained g) := rfl
theorem Sys2Proof.Laws.NibWord.gateForceDrain (g : Domain) :
    Sys2Proof.Laws.NibWord.Statement (.gateForceDrain g) := rfl
theorem Sys2Proof.Laws.NibWord.remap (b : Bool) : Sys2Proof.Laws.NibWord.Statement (.remap b) := rfl
theorem Sys2Proof.Laws.NibWord.containmentAction : Sys2Proof.Laws.NibWord.Statement .containmentAction := rfl
theorem Sys2Proof.Laws.NibWord.chainTrigger (c : Fin 64) : Sys2Proof.Laws.NibWord.Statement (.chainTrigger c) := rfl
theorem Sys2Proof.Laws.NibWord.sluStart (c : Fin 64) : Sys2Proof.Laws.NibWord.Statement (.sluStart c) := rfl
theorem Sys2Proof.Laws.NibWord.sluStop (c : Fin 64) : Sys2Proof.Laws.NibWord.Statement (.sluStop c) := rfl
theorem Sys2Proof.Laws.NibWord.descriptorFetch (c : Fin 64) (limit : Nat) :
    Sys2Proof.Laws.NibWord.Statement (.descriptorFetch c limit) := rfl
theorem Sys2Proof.Laws.NibWord.descriptorComplete (c : Fin 64) :
    Sys2Proof.Laws.NibWord.Statement (.descriptorComplete c) := rfl
theorem Sys2Proof.Laws.NibWord.chainDryEnd (c : Fin 64) : Sys2Proof.Laws.NibWord.Statement (.chainDryEnd c) := rfl
theorem Sys2Proof.Laws.NibWord.flipArm (g : Fin 21) : Sys2Proof.Laws.NibWord.Statement (.flipArm g) := rfl
theorem Sys2Proof.Laws.NibWord.flipDisarm (g : Fin 21) : Sys2Proof.Laws.NibWord.Statement (.flipDisarm g) := rfl
theorem Sys2Proof.Laws.NibWord.scrubGo (g : Fin 21) : Sys2Proof.Laws.NibWord.Statement (.scrubGo g) := rfl
theorem Sys2Proof.Laws.NibWord.scrubStop (g : Fin 21) : Sys2Proof.Laws.NibWord.Statement (.scrubStop g) := rfl
theorem Sys2Proof.Laws.NibWord.scrubWord (g : Fin 21) (stuck : Bool) :
    Sys2Proof.Laws.NibWord.Statement (.scrubWord g stuck) := rfl
theorem Sys2Proof.Laws.NibWord.patrolStart (g : Fin 21) : Sys2Proof.Laws.NibWord.Statement (.patrolStart g) := rfl
theorem Sys2Proof.Laws.NibWord.rowRepairCommit (g : Fin 21) :
    Sys2Proof.Laws.NibWord.Statement (.rowRepairCommit g) := rfl
theorem Sys2Proof.Laws.NibWord.scribeMapRewrite (addr : Word) :
    Sys2Proof.Laws.NibWord.Statement (.scribeMapRewrite addr) := rfl
theorem Sys2Proof.Laws.NibWord.lockstepMismatch : Sys2Proof.Laws.NibWord.Statement .lockstepMismatch := rfl
theorem Sys2Proof.Laws.NibWord.mfKick (port : Port) : Sys2Proof.Laws.NibWord.Statement (.mfKick port) := rfl
theorem Sys2Proof.Laws.NibWord.aliveToggle : Sys2Proof.Laws.NibWord.Statement .aliveToggle := rfl
theorem Sys2Proof.Laws.NibWord.healthFail : Sys2Proof.Laws.NibWord.Statement .healthFail := rfl
theorem Sys2Proof.Laws.NibWord.run : Sys2Proof.Laws.NibWord.Statement .run := rfl
theorem Sys2Proof.Laws.NibWord.poise : Sys2Proof.Laws.NibWord.Statement .poise := rfl
theorem Sys2Proof.Laws.NibWord.reload : Sys2Proof.Laws.NibWord.Statement .reload := rfl
theorem Sys2Proof.Laws.NibWord.testNib (idx : BitVec 9) : Sys2Proof.Laws.NibWord.Statement (.testNib idx) := rfl
theorem Sys2Proof.Laws.NibWord.testFull : Sys2Proof.Laws.NibWord.Statement .testFull := rfl
theorem Sys2Proof.Laws.NibWord.testCancel : Sys2Proof.Laws.NibWord.Statement .testCancel := rfl
theorem Sys2Proof.Laws.NibWord.nibTestComplete (r : TestResult) :
    Sys2Proof.Laws.NibWord.Statement (.nibTestComplete r) := rfl
theorem Sys2Proof.Laws.NibWord.fullSelftestComplete (r : TestResult) :
    Sys2Proof.Laws.NibWord.Statement (.fullSelftestComplete r) := rfl
theorem Sys2Proof.Laws.NibWord.flashInitDone (info : FlashInfo) :
    Sys2Proof.Laws.NibWord.Statement (.flashInitDone info) := rfl
theorem Sys2Proof.Laws.NibWord.pass1Done (slot : Fin 2) (header : FolioHeader) (digest : BitVec 384) (signature : BitVec 768) :
    Sys2Proof.Laws.NibWord.Statement (.pass1Done slot header digest signature) := rfl
theorem Sys2Proof.Laws.NibWord.pass2Done (slot : Fin 2) (sections : List StoredSection) (digest : BitVec 384) (fault : Option (BitVec 8)) :
    Sys2Proof.Laws.NibWord.Statement (.pass2Done slot sections digest fault) := rfl
theorem Sys2Proof.Laws.NibWord.validationDone : Sys2Proof.Laws.NibWord.Statement .validationDone := rfl
theorem Sys2Proof.Laws.NibWord.flashErase : Sys2Proof.Laws.NibWord.Statement .flashErase := rfl
theorem Sys2Proof.Laws.NibWord.flashProgram : Sys2Proof.Laws.NibWord.Statement .flashProgram := rfl
theorem Sys2Proof.Laws.NibWord.flashRetry : Sys2Proof.Laws.NibWord.Statement .flashRetry := rfl
theorem Sys2Proof.Laws.NibWord.flashOpComplete (ok : Bool) :
    Sys2Proof.Laws.NibWord.Statement (.flashOpComplete ok) := rfl
theorem Sys2Proof.Laws.NibWord.imageReadDone (act : ImageAction) :
    Sys2Proof.Laws.NibWord.Statement (.imageReadDone act) := rfl
theorem Sys2Proof.Laws.NibWord.imageReadRetry (act : ImageAction) (folioSection : BitVec 8) :
    Sys2Proof.Laws.NibWord.Statement (.imageReadRetry act folioSection) := rfl
theorem Sys2Proof.Laws.NibWord.mchRead (fr : MchFrame) : Sys2Proof.Laws.NibWord.Statement (.mchRead fr) := rfl
theorem Sys2Proof.Laws.NibWord.mchWrite (fr : MchFrame) : Sys2Proof.Laws.NibWord.Statement (.mchWrite fr) := rfl
theorem Sys2Proof.Laws.NibWord.mchBroadcastWrite (fr : MchFrame) :
    Sys2Proof.Laws.NibWord.Statement (.mchBroadcastWrite fr) := rfl
theorem Sys2Proof.Laws.NibWord.mchEnum (fr : MchFrame) : Sys2Proof.Laws.NibWord.Statement (.mchEnum fr) := rfl
theorem Sys2Proof.Laws.NibWord.mchEmpty (fr : MchFrame) : Sys2Proof.Laws.NibWord.Statement (.mchEmpty fr) := rfl
theorem Sys2Proof.Laws.NibWord.mchForward (fr : MchFrame) : Sys2Proof.Laws.NibWord.Statement (.mchForward fr) := rfl
theorem Sys2Proof.Laws.NibWord.mchCrcFail : Sys2Proof.Laws.NibWord.Statement .mchCrcFail := rfl
theorem Sys2Proof.Laws.NibWord.mchOrphan (fr : MchFrame) : Sys2Proof.Laws.NibWord.Statement (.mchOrphan fr) := rfl
theorem Sys2Proof.Laws.NibWord.mchCommandDone : Sys2Proof.Laws.NibWord.Statement .mchCommandDone := rfl
theorem Sys2Proof.Laws.NibWord.idcode : Sys2Proof.Laws.NibWord.Statement .idcode := rfl
theorem Sys2Proof.Laws.NibWord.samplePreload : Sys2Proof.Laws.NibWord.Statement .samplePreload := rfl
theorem Sys2Proof.Laws.NibWord.bypass (code : BitVec 8) : Sys2Proof.Laws.NibWord.Statement (.bypass code) := rfl
theorem Sys2Proof.Laws.NibWord.brChal (nonce : BitVec 256) : Sys2Proof.Laws.NibWord.Statement (.brChal nonce) := rfl
theorem Sys2Proof.Laws.NibWord.brResp (shifted : List Word) :
    Sys2Proof.Laws.NibWord.Statement (.brResp shifted) := rfl
theorem Sys2Proof.Laws.NibWord.brStat : Sys2Proof.Laws.NibWord.Statement .brStat := rfl
theorem Sys2Proof.Laws.NibWord.extest : Sys2Proof.Laws.NibWord.Statement .extest := rfl
theorem Sys2Proof.Laws.NibWord.blotDone : Sys2Proof.Laws.NibWord.Statement .blotDone := rfl
theorem Sys2Proof.Laws.NibWord.readSetStart : Sys2Proof.Laws.NibWord.Statement .readSetStart := rfl
theorem Sys2Proof.Laws.NibWord.readSetDone (gauges : List GaugeRead) :
    Sys2Proof.Laws.NibWord.Statement (.readSetDone gauges) := rfl
theorem Sys2Proof.Laws.NibWord.voltageStepConfirm (ack : Bool) (readback : BitVec 16) (gauges : List GaugeRead) :
    Sys2Proof.Laws.NibWord.Statement (.voltageStepConfirm ack readback gauges) := rfl
theorem Sys2Proof.Laws.NibWord.ledgerSnapshot : Sys2Proof.Laws.NibWord.Statement .ledgerSnapshot := rfl
theorem Sys2Proof.Laws.NibWord.registerWrite (port : Port) (addr : Word) (data : Word) :
    Sys2Proof.Laws.NibWord.Statement (.registerWrite port addr data) := rfl
theorem Sys2Proof.Laws.NibWord.registerRead (port : Port) (addr : Word) :
    Sys2Proof.Laws.NibWord.Statement (.registerRead port addr) := rfl
theorem Sys2Proof.Laws.NibWord.undefinedEncoding (n : NibId) (word : Word) :
    Sys2Proof.Laws.NibWord.Statement (.undefinedEncoding n word) := rfl
theorem Sys2Proof.Laws.NibWord.sluiceGateOpen (d : Domain) :
    Sys2Proof.Laws.NibWord.Statement (.sluiceGateOpen d) := rfl
theorem Sys2Proof.Laws.NibWord.resetNRelease : Sys2Proof.Laws.NibWord.Statement .resetNRelease := rfl
theorem Sys2Proof.Laws.NibWord.referenceEdge (i : Fin 6) (stamp : BitVec 64) :
    Sys2Proof.Laws.NibWord.Statement (.referenceEdge i stamp) := rfl
theorem Sys2Proof.Laws.NibWord.ptpMessageDue (w : Fin 2) (kind : PtpKind) :
    Sys2Proof.Laws.NibWord.Statement (.ptpMessageDue w kind) := rfl
theorem Sys2Proof.Laws.NibWord.stateDigestSnapshot : Sys2Proof.Laws.NibWord.Statement .stateDigestSnapshot := rfl
theorem Sys2Proof.Laws.NibWord.breachResponseVerified :
    Sys2Proof.Laws.NibWord.Statement .breachResponseVerified := rfl
theorem Sys2Proof.Laws.NibWord.signerRevoke (i : Fin 4) : Sys2Proof.Laws.NibWord.Statement (.signerRevoke i) := rfl
theorem Sys2Proof.Laws.NibWord.flashDqsTimeout : Sys2Proof.Laws.NibWord.Statement .flashDqsTimeout := rfl
theorem Sys2Proof.Laws.NibWord.mchUnalignedCadence : Sys2Proof.Laws.NibWord.Statement .mchUnalignedCadence := rfl
end

