-- ==== Sys2Proof/Machine/NetWire.lean ====
section
/-! DEFINITION. The bytes of the frames that the engine sends (R342 to R346, R350, R364): what a port's balls carry of a
frame in `NetPort.sent`. -/

namespace Sys2Proof.Machine

/-! ### Headers -/

/-- The VLAN tag of a frame: a stream's from its flow, else as NW_CFG tags control and PTP (R345): PCP, DEI 0, VID. -/
def State.frameTag (s : State) (w : Nat) (f : Frame) : Option (Nat × Nat) :=
  let flow := fun (h : TxHdr) (vid : Option (BitVec 12)) => vid.map fun v => (h.pcp.toNat, v.toNat)
  let ctl := fun (p : Nat) => if s.on (NW_CFG w) NW_CFG_CTAG then some (p, s.fld (NW_CFG w) NW_CFG_CVID) else none
  match f with
  | .gsf h p => flow h p.vid
  | .rtp h p => flow h p.vid
  | .ptp .. => ctl (s.fld (NW_CFG w) NW_CFG_PPCP)
  | _ => ctl (s.fld (NW_CFG w) NW_CFG_CPCP)

/-- Ethernet around a payload, padded to the smallest frame, with the FCS. -/
def State.ether (s : State) (w : Nat) (dst : BitVec 48) (tag : Option (Nat × Nat)) (type : Nat) (l : List Byte) : List Byte :=
  let t := match tag with
    | some (p, v) => beBytes 2 0x8100 ++ beBytes 2 (0x2000 * p + v)
    | none => []
  let h := beBytes 6 dst.toNat ++ beBytes 6 (s.nwMac w).toNat ++ t ++ beBytes 2 type ++ l
  let b := h ++ List.replicate (60 - h.length) 0
  b ++ fcsOf b

/-- An IPv4 header without options: DF, Identification 0, its checksum (R344). -/
def ip4 (dscp ttl proto : Nat) (src dst : Nat) (l : List Byte) : List Byte :=
  let h := fun (c : Nat) =>
    [0x45, BitVec.ofNat 8 (4 * dscp)] ++ beBytes 2 (20 + l.length) ++ beBytes 2 0 ++ beBytes 2 0x4000 ++ [BitVec.ofNat 8 ttl, BitVec.ofNat 8 proto] ++
      beBytes 2 c ++ beBytes 4 src ++ beBytes 4 dst
  h (checksum (h 0)) ++ l

/-- An IPv6 header. -/
def ip6 (dscp hop next : Nat) (src dst : Nat) (l : List Byte) : List Byte :=
  beBytes 4 (0x60000000 + 0x400000 * dscp) ++ beBytes 2 l.length ++ [BitVec.ofNat 8 next, BitVec.ofNat 8 hop] ++ beBytes 16 src ++ beBytes 16 dst ++ l

/-- The pseudo-header that the checksums of UDP and ICMPv6 cover. -/
def pseudoHdr (v6 : Bool) (src dst proto n : Nat) : List Byte :=
  let k := if v6 then 16 else 4
  beBytes k src ++ beBytes k dst ++ beBytes 4 n ++ beBytes 4 proto

/-- A UDP datagram with its checksum, computed for both IPv4 and IPv6; a sum of 0 is sent as 0xFFFF (R344). -/
def udp (v6 : Bool) (src dst sport dport : Nat) (l : List Byte) : List Byte :=
  let n := 8 + l.length
  let h := fun (c : Nat) => beBytes 2 sport ++ beBytes 2 dport ++ beBytes 2 n ++ beBytes 2 c ++ l
  let c := checksum (pseudoHdr v6 src dst 17 n ++ h 0)
  h (if c = 0 then 65535 else c)

/-- A datagram in its IP packet. -/
def udpIp (v6 : Bool) (dscp ttl src dst sport dport : Nat) (l : List Byte) : List Byte :=
  let u := udp v6 src dst sport dport l
  if v6 then ip6 dscp ttl 17 src dst u else ip4 dscp ttl 17 src dst u

def ipType (v6 : Bool) : Nat := if v6 then 0x86DD else 0x0800

/-! ### Payloads -/

/-- One carried sample in its bytes (R350). -/
def sampleBytes (fmt : Nat) (w : Word) : List Byte := beBytes (if fmt = 0 then 3 else 4) w.toNat

/-- A GSF packet (R350). -/
def gsfBytes (p : GsfPacket) : List Byte :=
  [p.ver, p.type, p.flags, p.keyid] ++ beBytes 4 p.srcId.toNat ++ beBytes 2 p.flow.toNat ++ beBytes 2 p.seq.toNat ++
    beBytes 6 p.stroke.toNat ++ [p.chm1, p.fmt, BitVec.ofNat 8 p.ntag, 0] ++ beBytes 2 p.blen ++
    p.samples.flatMap (sampleBytes (p.fmt.toNat % 4)) ++ p.tags.flatMap (fun t => wordsBytes (tagWords t)) ++ wordsBytes (colWords p.colophon) ++
    (if bitOf p.flags 7 then beBytes 16 p.icv.toNat else [])

/-- An RTP packet: version 2, no padding, no extension, no CSRC, marker 0 (R364). -/
def rtpBytes (fmt : Nat) (p : RtpPacket) : List Byte :=
  [0x80, p.pt.setWidth 8] ++ beBytes 2 p.seq.toNat ++ beBytes 4 p.ts.toNat ++ beBytes 4 p.ssrc.toNat ++ p.samples.flatMap (sampleBytes fmt)

/-- One record of a membership report: INCLUDE with one source, or EXCLUDE with an empty list; a state change names the
change, and a group that is left goes to INCLUDE with an empty list (R343). -/
def groupRecord (change left : Bool) (g : Group) : List Byte :=
  let k := if g.ipv6 then 16 else 4
  let ssm := decide (g.src ≠ 0)
  let ty : Nat := match change, left, ssm with
    | false, _, true => 1
    | false, _, false => 2
    | true, false, true => 5
    | true, false, false => 4
    | true, true, true => 6
    | true, true, false => 3
  [BitVec.ofNat 8 ty, 0] ++ beBytes 2 (b2n ssm) ++ beBytes k g.addr.toNat ++ if ssm then beBytes k g.src.toNat else []

def reportRecords (change : Bool) (j l : List Group) : List Byte :=
  j.flatMap (groupRecord change false) ++ l.flatMap (groupRecord change true)

/-- An IGMPv3 report, to 224.0.0.22. -/
def igmpReport (src : Nat) (change : Bool) (j l : List Group) : List Byte :=
  let m := fun (c : Nat) => [0x22, 0] ++ beBytes 2 c ++ beBytes 2 0 ++ beBytes 2 (j.length + l.length) ++ reportRecords change j l
  ip4 0 1 2 src 0xE0000016 (m (checksum (m 0)))

/-- An ICMPv6 message in its IPv6 packet. -/
def icmp6 (hop src dst : Nat) (m : Nat → List Byte) : List Byte :=
  ip6 0 hop 58 src dst (m (checksum (pseudoHdr true src dst 58 (m 0).length ++ m 0)))

/-- An MLDv2 report, to ff02::16, behind its hop-by-hop Router Alert. -/
def mldReport (src : Nat) (change : Bool) (j l : List Group) : List Byte :=
  let dst := 0xFF020000000000000000000000000016
  let m := fun (c : Nat) => [143, 0] ++ beBytes 2 c ++ beBytes 2 0 ++ beBytes 2 (j.length + l.length) ++ reportRecords change j l
  ip6 0 1 0 src dst ([58, 0, 5, 2, 0, 0, 1, 0] ++ m (checksum (pseudoHdr true src dst 58 (m 0).length ++ m 0)))

/-- A Neighbour Advertisement with the target's link-layer address. -/
def advertisement (ip mac : Nat) (dst : Nat) (solicited : Bool) : List Byte :=
  icmp6 255 ip dst fun c => [136, 0] ++ beBytes 2 c ++ beBytes 4 (if solicited then 0x60000000 else 0x20000000) ++ beBytes 16 ip ++ [2, 1] ++ beBytes 6 mac

/-- An ARP reply. -/
def arp (ip : Nat) (mac : BitVec 48) (toIp : Nat) (toMac : BitVec 48) : List Byte :=
  beBytes 8 0x0001080006040002 ++ beBytes 6 mac.toNat ++ beBytes 4 ip ++ beBytes 6 toMac.toNat ++ beBytes 4 toIp

/-! ### Frames -/

/-- The bytes of a frame that a network's active port sends, from the destination MAC to the FCS. -/
def State.frameBytes (s : State) (w : Nat) (f : Frame) : List Byte :=
  let tag := s.frameTag w f
  let own4 := (s.reg (NW_IPV4 w)).toNat
  let link := (s.nwV6 w true).toNat
  match f with
  | .gsf h p =>
    s.ether w p.mac tag (ipType p.ipv6)
      (udpIp p.ipv6 h.dscp.toNat h.ttl.toNat p.srcIp.toNat p.dstIp.toNat p.sport.toNat p.dport.toNat (gsfBytes p))
  | .rtp h p =>
    s.ether w p.mac tag (ipType p.ipv6)
      (udpIp p.ipv6 h.dscp.toNat h.ttl.toNat p.srcIp.toNat p.dstIp.toNat p.sport.toNat p.dport.toNat (rtpBytes (s.ftFmt h.t) p))
  | .report false change j l => s.ether w 0x01005E000016 tag 0x0800 (igmpReport own4 change j l)
  | .report true change j l => s.ether w 0x333300000016 tag 0x86DD (mldReport link change j l)
  | .arpReply ip toIp toMac => s.ether w toMac tag 0x0806 (arp ip.toNat (s.nwMac w) toIp.toNat toMac)
  | .arpGratuitous ip => s.ether w broadcastMac tag 0x0806 (arp ip.toNat (s.nwMac w) ip.toNat broadcastMac)
  | .advert ip (some (dst, mac)) => s.ether w mac tag 0x86DD (advertisement ip.toNat (s.nwMac w).toNat dst.toNat true)
  | .advert ip none =>
    s.ether w 0x333300000001 tag 0x86DD (advertisement ip.toNat (s.nwMac w).toNat 0xFF020000000000000000000000000001 false)
  | .ptp k q t port =>
    let m := Config.ptpMessage (ptpKindIx k) (s.portId w) q (t.map fun x => (x.sec, x.ns)) port
    let event := frameQueue f == 0
    let peer := s.ptpP2p w && (k == .pdelayReq || k == .pdelayResp || k == .pdelayRespFollowUp)
    let dport := if event then 319 else 320
    let dscp := s.fld (NW_CFG w) NW_CFG_PDSCP
    match s.ptpTransport w with
    | .layer2 => s.ether w 0x0180C200000E tag 0x88F7 m
    | .udp4 =>
      let dst := if peer then 0xE000006B else 0xE0000181
      s.ether w (groupMac false (BitVec.ofNat 128 dst)) tag 0x0800 (udpIp false dscp 1 own4 dst dport dport m)
    | .udp6 =>
      let dst := if peer then 0xFF02000000000000000000000000006B else 0xFF0E0000000000000000000000000181
      s.ether w (groupMac true (BitVec.ofNat 128 dst)) tag 0x86DD (udpIp true dscp 1 (s.nwV6 w false).toNat dst dport dport m)

end Sys2Proof.Machine
end

