-- ==== Sys2Proof/Machine/Pins.lean ====
section
/-! DEFINITION. The levels of the balls (R302, R310, R493, R590, R605, R608, R647, R675, R687). -/

namespace Sys2Proof.Machine

/-- A ball's level: driven low, driven high, or high impedance. -/
inductive Level where
  | low
  | high
  | z
  deriving DecidableEq, Repr

def level (b : Bool) : Level := if b then .high else .low

/-- The boundary register, where EXTEST drives the balls from it (R646, R647). -/
def State.extestRow (s : State) : Option (List Bool) := if s.sec.tap.ir = .extest then some s.sec.tap.dr else none

/-- The level of a ball that R675 places at a row and column: without PWR_GOOD the one it then holds (R687), under EXTEST
that of its cell of the boundary register, else its unit's. -/
def State.ball (s : State) (at_ : Nat × Nat) (off : Level) (own : Level) : Level :=
  if s.mf.power = false then off
  else
    match s.extestRow with
    | some l => level (l.getD (Config.boundaryCell at_.1 at_.2) false)
    | none => own

/-- LANEk_HI and LANEk_LO at cycle `c` of the carrier period in hand, LANEk_RLY `c` cycles after the last action on the
relay. -/
def State.laneHiPin (s : State) (k c : Nat) : Level := s.ball (45, 3 + k) .low (level (s.laneGates k c).1)
def State.laneLoPin (s : State) (k c : Nat) : Level := s.ball (44, 3 + k) .low (level (s.laneGates k c).2)
def State.laneRlyPin (s : State) (k c : Nat) : Level := s.ball (43, 3 + k) .low (level (s.laneRelay k c))

/-- SAPk_SDO at a data bit of the frame in progress. -/
def State.sdoPin (s : State) (k i : Nat) : Level :=
  s.ball (4 + 2 * k, 3) .z (match (s.sapSdo k).getD i (some false) with | some b => level b | none => .z)

/-- PULSEk: the active level is high unless PUL_CFG.POL is 1; in DARK 0 (R675). -/
def State.pulsePin (s : State) (k : Nat) : Level :=
  s.ball (4 + k, 41) .z (if s.mode = modeDark then .low else level ((s.pulse k).ends.isSome != s.on (PUL_CFG k) PUL_CFG_POL))

def State.alivePin (s : State) : Level := s.ball (6, 45) .z (level s.mf.alive)

/-- MCH_ATTN, open drain. -/
def State.attnPin (s : State) : Level := s.ball (14, 45) .z (if s.attn then .low else .z)

/-- Whether the engine drives the flash pins: from the start of LOAD, and not in DARK nor while RESET_N is asserted
(R608). -/
def State.flashDriven (s : State) : Bool := s.mf.power && !s.mf.inReset && s.mode != modeDark

/-- FL_SCK, FL_CS_N and the other flash pins, by ball, for the level that the flash controller gives one. -/
def State.flashPin (s : State) (at_ : Nat × Nat) (own : Bool) : Level := s.ball at_ .z (if s.flashDriven then level own else .z)

end Sys2Proof.Machine
end

