-- ==== Sys2Proof/Tests/Slice0.lean ====
section
/-! SUPPORT. Tests: ill-formed commands that WellFormed refuses, words of the nib's instruction set written out from
spec/04_nib_instruction_set.md, single steps with results worked out by hand, and for every statement with hypotheses
states and operands that meet them. -/

open Sys2Proof Sys2Proof.Machine

namespace Sys2Proof.Tests

-- one test after the other: side by side they need more threads than the checks have memory for
set_option Elab.async false

/-! ### States -/

/-- A chip with power and ROOT, its scribe at work, in a mode. -/
def chip (m : Nat) : State :=
  (State.reset.withMf { power := true, root := true, scribeHeld := false }).setFld MF_MODE MF_MODE_MODE m

/-- The same with fields of registers set. -/
def chipR (m : Nat) (r : List (Nat × Fld × Nat)) : State := r.foldl (fun s e => s.setFld e.1 e.2.1 e.2.2) (chip m)

/-- Nib 5 running a slice in LEAD, well before its deadline. -/
def nibS (x : Nib) : State := (chip 3).setNib 5 { x with run := true, cutAt := 1000 }

/-- The same with a word at its program counter. -/
def nibW (w : Word) (x : Nib) : State := (nibS x).storeWord (nibWin 5 + 4 * x.pc.toNat) (w.setWidth 64) false false

/-- The same with an instruction at its program counter. -/
def nibI (i : Instr) (x : Nib) : State := nibW ((nibEncode i).getD 0) x

/-- The state after the fetch of that instruction. -/
def fetched (i : Instr) (x : Nib) : State := (((nibI i x).toFetch 5).fetchWord 5).2

/-- A nib whose P0 holds a value. -/
def pAt (v : Word) (psn : Bool) : Nib := { prim := { s := [(32, ⟨v, psn⟩)], sa := [(32, ⟨v, psn⟩)] } }

/-- A nib whose S-space registers hold values. -/
def rAt (l : List (Nat × Word)) : Nib :=
  { prim := { s := l.map fun e => (e.1, ⟨e.2, false⟩), sa := l.map fun e => (e.1, ⟨e.2, false⟩) } }

/-- An entry of the folio's ruling 0, and the ruling running. -/
def ruled (m : Nat) (l : List Entry) : State :=
  (chip m).withRul { rulings := [⟨BitVec.ofNat 32 (65536 * l.length), 0, 0, 0, 0, l⟩] }

/-! ### Well-formedness -/

theorem test_wf_sel : Instr.wf (.sel 0 1 2 3 15) = false := by decide
theorem test_wf_ld2 : Instr.wf (.ld2 0 ⟨false, 1, 0, false⟩ ⟨false, 2, 0, false⟩) = false := by decide
theorem test_wf_masks : (List.all [Instr.qadds 0 0 1 2 (.quad 3), .qsubs 0 0 1 2 (.quad 3), .qmulr 0 0 1 2 (.quad 3), .qabss 0 0 1 2,
    .qnegs 0 0 1 2, .qmax 0 0 1 2 (.quad 3), .qmin 0 0 1 2 (.quad 3), .qshl 0 0 1 2 (.quad 3), .faddq 0 0 1 2 (.quad 3),
    .fsubq 0 0 1 2 (.quad 3), .fmulq 0 0 1 2 (.quad 3), .fmaq 0 0 1 2 (.quad 3), .fcvtqfq 0 0 1 2, .fcvtfqq 0 0 1 2,
    .qmov 0 0 1 (.quad 2)] fun i => !i.wf) = true := by decide
theorem test_wf_ext : Instr.wf (.ext 0 false false 1 15 9 false false) = false ∧ Instr.wf (.ext 0 true false 1 15 1 false false) = false := by decide
theorem test_wf_acld_acst : Instr.wf (.acld 0 false 0 30) = false ∧ Instr.wf (.acst 0 false 0 31) = false := by decide
theorem test_wf_br_movc : Instr.wf (.br 0 15 0) = false ∧ Instr.wf (.movcTo 0 6 1) = false ∧ Instr.wf (.movcTo 0 8 1) = false ∧
    Instr.wf (.movcFrom 0 10 1) = false := by decide
theorem test_wf_lengths : Instr.wf (.leveeStrokeUpdate []) = false ∧
    Instr.wf (.intakeRecordWrite none 0 []) = false ∧ Instr.wf (.brResp []) = false ∧ Instr.wf (.sapReleasePoint []) = false ∧ Instr.wf (.testNib 272) = false := by decide
theorem test_wf_sapFrame : Instr.wf (.sapFrame 0 { bclks := 0, fs := [], sdi := [true], edge := 0, done := 0 }) = false := by decide
theorem test_wf_request : Instr.wf (.fabricRequest (.chip 0) 8 ⟨0, 0x38, 2, none, false⟩) = false ∧
    Instr.wf (.fabricRequest (.chip 0) 8 ⟨0, 0, 0, none, false⟩) = false ∧
    Instr.wf (.fabricRequest (.chip 0) 8 ⟨0, 0, 2, none, true⟩) = false ∧
    Instr.wf (.fabricRequest (.chip 0) 8 ⟨0, 0, 1, some [], false⟩) = false := by decide
theorem test_wf_frames : Instr.wf (.mchRead ⟨2, 0, 1, 0, 0, 0, 0⟩) = false ∧ Instr.wf (.mchRead ⟨1, 0, 0x81, 0, 0, 0, 0⟩) = false ∧
    Instr.wf (.mchWrite ⟨2, 0, 1, 1, 0, 0, 0⟩) = false ∧ Instr.wf (.mchBroadcastWrite ⟨1, 0, 0x40, 0, 0, 0, 0⟩) = false ∧
    Instr.wf (.mchEnum ⟨0, 0, 0, 0, 0, 0, 0⟩) = false ∧ Instr.wf (.mchEmpty ⟨3, 0, 0, 0, 0, 0, 0⟩) = false := by decide
theorem test_wf_gauges : Instr.wf (.readSetDone [⟨4, [65], 0, 0, 0⟩]) = false ∧ Instr.wf (.readSetDone [⟨4, [], 0, 0, 0⟩]) = false ∧
    Instr.wf (.voltageStepConfirm true 0 [⟨4, [1], 0, 0, 0⟩, ⟨4, [1], 0, 0, 0⟩]) = false := by decide
theorem test_wf_undefined : Instr.wf (.undefinedEncoding 0 0x32800000) = false := by decide

/-! ### Instruction words, from the encoding tables and the worked example of chapter 4 -/

theorem test_word_movl_p0 : nibDecode 5 0x1A000100 = some (.movl 5 32 0x100) := by decide
theorem test_word_movl_m0 : nibDecode 5 0x1A800010 = some (.movl 5 40 16) := by decide
theorem test_word_movl_p1 : nibDecode 5 0x1A100200 = some (.movl 5 33 0x200) := by decide
theorem test_word_rep_11 : nibDecode 5 0x31005000 = some (.rep 5 10) := by decide
theorem test_word_qmac : nibDecode 5 0x8A004000 = some (.mac 5 false 0 (.quad 0) (.quad 0 0)) := by decide
theorem test_word_ext : nibDecode 5 0x907FA000 = some (.ext 5 false false 1 15 (-3) false false) := by decide
theorem test_word_stq : nibDecode 5 0x58440000 = some (.stq 5 1 1 .plain false) := by decide
theorem test_word_nop : nibDecode 5 0x32800000 = some (.nop 5) := by decide
theorem test_word_halt : nibDecode 5 0x31800000 = some (.halt 5) := by decide
/-- Major opcode 0b00001, FUNC 0, F, Sd = D3, Sa = D1, Sb = D2 (R133). -/
theorem test_word_add : nibDecode 5 0x08430420 = some (.add 5 true 3 1 2) := by decide
/-- Major opcode 0b00100, FUNC 0, Dd = D1, Da = D2, Db = D3 (R137). -/
theorem test_word_fadd : nibDecode 5 0x20022180 = some (.fadd 5 1 2 3) := by decide
/-- Major opcode 0b01000, REG = D7, P2, MODE 0b11, SIMM12 = -1 (R139). -/
theorem test_word_ld : nibDecode 5 0x41CBFFF0 = some (.ld 5 7 2 (.offset 0xFFF)) := by decide
/-- Major opcode 0b01001, REG = D1, P0, MODE 0b01, BX (R139). -/
theorem test_word_st : nibDecode 5 0x48410002 = some (.st 5 1 0 .post true) := by decide
/-- LD2 of a word into D1 through P0, post-modified, and a quad into Q2 through P1 (R142). -/
theorem test_word_ld2 : nibDecode 5 0x60231100 = some (.ld2 5 ⟨false, 1, 0, true⟩ ⟨true, 2, 1, false⟩) := by decide
/-- Major opcode 0b10000, FUNC 0, MASK 0b1111, Q1, Q2, broadcast of D3 (R144). -/
theorem test_word_qadds : nibDecode 5 0x80795180 = some (.qadds 5 15 1 2 (.bcast 3)) := by decide
/-- Major opcode 0b10011, DIR 1, X 1, LANE 2, D4 (R149). -/
theorem test_word_acst : nibDecode 5 0x9F100000 = some (.acst 5 true 2 4) := by decide
/-- Major opcode 0b00110, FUNC 0, COND 1, TARGET 0x123 (R150). -/
theorem test_word_br : nibDecode 5 0x30080123 = some (.br 5 1 0x123) := by decide
/-- FUNC 7, CREG 4, Sa = D9 (R150). -/
theorem test_word_movc : nibDecode 5 0x33A12000 = some (.movcTo 5 4 9) := by decide
theorem test_word_irqclr : nibDecode 5 0x34800007 = some (.irqclr 5 7) := by decide
/-- The all-zero word, a reserved major opcode, a reserved field that is not 0 (R129, R130). -/
theorem test_word_undefined : nibDecode 5 0 = none ∧ nibDecode 5 0xFFFFFFFF = none ∧ nibDecode 5 0x32800001 = none := by decide

/-! ### Single steps -/

/-- The state that a command leaves. -/
def after (i : Instr) (s : State) : State :=
  match exec i s with
  | .next t => t
  | _ => s

/-- Nib 5 after an instruction that it fetches. -/
def ran (i : Instr) (x : Nib) : Nib := (after i (nibI i x)).nib 5

/-- 0xFFFFFFFF + 1 wraps to 0 with Z and C (R133). -/
theorem test_add_wraps : let x := ran (.add 5 true 3 1 2) (rAt [(1, 0xFFFFFFFF), (2, 1)])
    (x.advance.rs 3).v = 0 ∧ x.advance.cur.fl = 0b101 := by decide

/-- 5 - 7 is negative and borrows: N, not C (R133). -/
theorem test_sub_borrows : let x := ran (.sub 5 true 3 1 2) (rAt [(1, 5), (2, 7)])
    (x.advance.rs 3).v = 0xFFFFFFFE ∧ x.advance.cur.fl = 0b10 := by decide

/-- A shift by 33 shifts by 1; the bit shifted out goes to C (R133). -/
theorem test_sll_wraps : let x := ran (.sll 5 true 3 1 2) (rAt [(1, 0x80000001), (2, 33)])
    (x.advance.rs 3).v = 2 ∧ x.advance.cur.fl = 0b100 := by decide

/-- MOVH keeps the low half (R135). -/
theorem test_movh : ((ran (.movh 5 1 0x1234) (rAt [(1, 0xAAAA5678)])).advance.rs 1).v = 0x12345678 := by decide

/-- 1.0 + 1.0 = 2.0 and 1.0 · 1.5 = 1.5 after three cycles (R137). -/
theorem test_fadd : ((ran (.fadd 5 3 1 2) (rAt [(1, 0x3F800000), (2, 0x3F800000)])).after 3).rd 3 = ⟨0x40000000, false⟩ := by decide
theorem test_fmul : ((ran (.fmul 5 3 1 2) (rAt [(1, 0x3F800000), (2, 0x3FC00000)])).after 3).rd 3 = ⟨0x3FC00000, false⟩ := by decide

/-- A load that is read too early shows the old value (R158). -/
theorem test_ld_latency : let x := ran (.ld 5 1 0 .plain) (rAt [(1, 77), (32, 0x100)])
    (x.after 2).rd 1 = ⟨77, false⟩ ∧ (x.after 3).rd 1 = ⟨0, false⟩ := by decide

/-- A store goes to the nib's window at 0x10000 and its address, low byte first (R77). -/
theorem test_st_bytes : let t := after (.st 5 1 0 .plain false) (nibI (.st 5 1 0 .plain false) (rAt [(1, 0x11223344), (32, 0x100)]))
    t.byte (nibWin 5 + 0x10100) = 0x44 ∧ t.byte (nibWin 5 + 0x10103) = 0x11 := by decide

/-- The all-zero word traps with cause 4 (R119, R129). -/
theorem test_undefined_traps : let t := after (.undefinedEncoding 5 0) (nibW 0 { trapVec := 0x40 })
    (t.nib 5).pc = 0x40 ∧ (t.nib 5).bank = true ∧ t.fld (NIB_TRAP_CAUSE 5) ⟨3, 0⟩ = 4 := by decide

/-- STK_NUM reads the stroke number; its high word comes from the latch (R15, R16). -/
theorem test_wide_register : let s := after (.registerRead (.chip 0) 0x20108000) ((chip 3).withTim { ((chip 3).tim) with strk := 0x123456789ABC })
    ((s.port (.chip 0)).last.map fun t => t.beats) = some [⟨0x56789ABC, false, false⟩] ∧
    (((after (.registerRead (.chip 0) 0x20108004) (s.withTim {})).port (.chip 0)).last.map fun t => t.beats) = some [⟨0x1234, false, false⟩] := by decide

/-- The worked example of R629 to R635: chip 2 takes address 2 from ENUM and forwards 3. -/
theorem test_enum : let s := chipR 3 [(MCH_STAT, MCH_STAT_FALIGN, 1)]
    let t := after (.mchEnum ⟨3, 0, 2, 0, 0, 0, 0⟩) s
    t.fld MCH_STAT MCH_STAT_ADDR = 2 ∧ t.mch.sent.map (fun f => f.byte2) = some 3 := by decide

/-- A flash without octal DTR is read at PERI_CLK/2 and raises EVT_BOOT_FLASH; its identity and density are shown (R609). -/
theorem test_quad_flash : let t := after (.flashInitDone ⟨true, 1, 28, 0x1234, false⟩) ((chip 1).setStep .flashInit)
    t.reg BOOT_FLASH = 0x12341C02 ∧ t.hasEvt EVT_BOOT_FLASH ∧ t.fld BOOT_STAT BOOT_STAT_STATE = 2 := by unfold State.hasEvt; decide +kernel

/-- The canonical form of memory at reset. -/
theorem reset_inv : Machine.Inv State.reset := by unfold Machine.Inv; decide



/-! ### States and operands that meet the hypotheses of the statements, clause by clause -/

/-- Whether nib 5 can fetch the instruction at its program counter. -/
def canFetch (i : Instr) (x : Nib) : Bool :=
  match nibEncode i with
  | some w => nibDecode 5 w == some i && (nibI i x).issues 5 && decide ((((nibI i x).toFetch 5).fetchWord 5).1 = (w, false))
  | none => false

theorem fetches {i : Instr} {x : Nib} (h : canFetch i x = true) : Fetches 5 i (nibI i x) (fetched i x) := by
  unfold canFetch at h
  split at h
  · simp only [Bool.and_eq_true, beq_iff_eq, decide_eq_true_eq] at h
    exact ⟨_, h.1.1, h.1.2, Prod.ext h.2 rfl⟩
  · cases h

/-- Every instruction of a list can be fetched. -/
theorem fetchAll {l : List Instr} {x : Nib} (h : l.all (canFetch · x) = true) :
    ∀ i ∈ l, Fetches 5 i (nibI i x) (fetched i x) := fun i m => fetches (List.all_eq_true.mp h i m)

theorem witness_IntegerResults :
    (∀ i ∈ [Instr.add 5 true 3 1 2, .sub 5 true 3 1 2, .and 5 true 3 1 2, .or 5 true 3 1 2, .xor 5 true 3 1 2, .sll 5 true 3 1 2,
        .srl 5 true 3 1 2, .sra 5 true 3 1 2, .min 5 true 3 1 2, .max 5 true 3 1 2, .slli 5 true 3 1 31, .srli 5 true 3 1 31,
        .srai 5 true 3 1 31, .addi 5 true 3 1 0x2000, .movl 5 3 0x8000, .movh 5 3 0x8000, .cmp 5 1 2, .sel 5 3 1 2 14, .sel 5 3 1 2 0],
      Fetches 5 i (nibI i {}) (fetched i {})) ∧
    ((fetched (.sel 5 3 1 2 0) {}).nib 5).cur.fl.getLsbD 9 = false ∧
    Fetches 5 (.sel 5 3 1 2 13) (nibI (.sel 5 3 1 2 13) { prim := { fl := 0x200 } }) (fetched (.sel 5 3 1 2 13) { prim := { fl := 0x200 } }) ∧
    ((fetched (.sel 5 3 1 2 13) { prim := { fl := 0x200 } }).nib 5).cur.fl.getLsbD 9 = true :=
  ⟨fetchAll (by decide +kernel), by decide +kernel, fetches (by decide +kernel), by decide +kernel⟩

theorem witness_FloatResults :
    ∀ i ∈ [Instr.fadd 5 3 1 2, .fsub 5 3 1 2, .fmul 5 3 1 2, .fcmp 5 3 1 2, .fmin 5 3 1 2, .fmax 5 3 1 2, .fabs 5 3 1, .fneg 5 3 1,
      .fcvtqf 5 3 1, .fcvtfq 5 3 1, .fma 5 3 1 2], Fetches 5 i (nibI i {}) (fetched i {}) := fetchAll (by decide +kernel)

theorem witness_QuadResults :
    ∀ i ∈ [Instr.qadds 5 1 0 1 (.quad 2), .qsubs 5 8 0 1 (.bcast 2), .qmulr 5 15 0 1 (.quad 2), .qabss 5 1 0 1, .qnegs 5 8 0 1,
      .qmax 5 15 0 1 (.quad 2), .qmin 5 15 0 1 (.quad 2), .qshl 5 15 0 1 (.quad 2), .qmov 5 15 0 (.bcast 2), .faddq 5 15 0 1 (.quad 2),
      .fsubq 5 15 0 1 (.quad 2), .fmulq 5 15 0 1 (.quad 2), .fmaq 5 15 0 1 (.quad 2), .fcvtqfq 5 15 0 1, .fcvtfqq 5 15 0 1],
      Fetches 5 i (nibI i {}) (fetched i {}) := fetchAll (by decide +kernel)

/-- 1/2 lies between two integers (R95). -/
theorem witness_RoundingModes : 2 * ((1 : Int) - roundMode 3 1 1 * 2).natAbs = 2 ∧ (0 : Int) ≤ 1 ∧ (-1 : Int) ≤ 0 := by decide

/-- MPY, MAC and MSU with a parallel load. -/
def macs (ld : ParLoad) : List Instr := [.mpy 5 true 1 (.quad 2) ld, .mac 5 true 1 (.quad 2) ld, .msu 5 true 1 (.quad 2) ld]

/-- Parallel loads through P0 at the edges of data RAM and of quire SRAM (R77). -/
theorem witness_AccumulateResults :
    (∀ ld ∈ [ParLoad.none, .word 3 0, .quad 3 0], ∀ v ∈ [(0xFFF0 : Word), 0x9FFFF0, 0x10000], ∀ i ∈ macs ld,
      Fetches 5 i (nibI i (pAt v false)) (fetched i (pAt v false))) ∧
    (∀ i ∈ macs (.word 3 0) ++ macs (.quad 3 0),
      let a := fun (v : Word) (k : Nat) => accessAt 5 (((fetched i (pAt v false)).nib 5).ra (regP 0)) k
      a 0xFFF0 4 = .own (nibWin 5 + 0x1FFF0) ∧ a 0xFFF0 16 = .own (nibWin 5 + 0x1FFF0) ∧ a 0x9FFFF0 4 = .quire (quireSram 0 + 0x1FFFF0) ∧
      a 0x9FFFF0 16 = .quire (quireSram 0 + 0x1FFFF0) ∧ a 0x10000 4 = .bad 1 ∧ a 0x10000 16 = .bad 1 ∧
      ∀ l < 4, ((fetched i (pAt 0xFFF0 false)).peek (nibWin 5 + 0x1FFF0 + 4 * l)).row = .clean) := by
  have h : [ParLoad.none, .word 3 0, .quad 3 0].all (fun ld => [(0xFFF0 : Word), 0x9FFFF0, 0x10000].all fun v =>
      (macs ld).all (canFetch · (pAt v false))) = true := by decide +kernel
  refine ⟨fun ld hl v hv => fetchAll (List.all_eq_true.mp (List.all_eq_true.mp h ld hl) v hv), by decide +kernel⟩

theorem witness_ExtractAndMove :
    (∀ i ∈ [Instr.ext 5 false true 1 15 (-8) true true, .ext 5 false false 1 1 8 true false, .ext 5 true false 1 15 0 false true,
      .acld 5 true 3 29, .acst 5 true 3 29], Fetches 5 i (nibI i {}) (fetched i {})) := fetchAll (by decide +kernel)

/-- The edges of the two local ranges, and pointers that wrap up, wrap down and do not wrap. -/
theorem witness_AddressFormation :
    (0xFFFF : Word).toNat < 0x10000 ∧ ¬ ((0x10000 : Word).toNat < 0x10000) ∧ ¬ (0x800000 ≤ (0x7FFFFF : Word).toNat) ∧
    0x800000 ≤ (0x800000 : Word).toNat ∧ (0x9FFFFF : Word).toNat < 0xA00000 ∧ (0xFFFF : Word).toNat % 4 ≠ 0 ∧
    (let x := rAt [(32, 0x10C), (40, 4), (48, 16), (56, 0x100)];
      x.cur.amodeA.getLsbD 8 = false ∧ ((x.ra (regB 0)).v + (x.ra (regL 0)).v).toNat ≤ ((x.ra (regP 0)).v + (x.ra (regM 0)).v).toNat) ∧
    (let x := rAt [(32, 0x100), (40, 0xFFFFFFFC), (48, 16), (56, 0x100)];
      (x.ra (regL 0)).v ≠ 0 ∧ ((x.ra (regP 0)).v + (x.ra (regM 0)).v).toNat < (x.ra (regB 0)).v.toNat) ∧
    (let x := rAt [(32, 0x104), (40, 4), (48, 16), (56, 0x100)];
      ((x.ra (regP 0)).v + (x.ra (regM 0)).v).toNat < ((x.ra (regB 0)).v + (x.ra (regL 0)).v).toNat ∧
        (x.ra (regB 0)).v.toNat ≤ ((x.ra (regP 0)).v + (x.ra (regM 0)).v).toNat) ∧
    (rAt []).cur.amodeA.getLsbD 8 = false ∧ ({ prim := { amodeA := 0x100 } } : Nib).cur.amodeA.getLsbD 8 = true := by decide

/-- A nib with pointers to data RAM, quire SRAM, neither, and an address out of step. -/
def pointers : Nib := rAt [(32, 0xFFF0), (33, 0x800000), (34, 0x10000), (35, 2), (36, 0x9FFFF0), (37, 0xFFE0)]

theorem witness_Loads :
    (∀ i ∈ [Instr.ld 5 1 0 .plain, .ldq 5 1 0 .post, .ld 5 1 1 .post, .ldq 5 1 1 .plain, .ld 5 1 2 (.offset 0), .ldq 5 1 3 (.index 4),
      .ld2 5 ⟨false, 1, 0, true⟩ ⟨true, 2, 1, false⟩, .ld2 5 ⟨true, 2, 1, true⟩ ⟨false, 1, 0, false⟩, .ld2 5 ⟨false, 1, 0, true⟩ ⟨false, 2, 5, false⟩,
      .ld2 5 ⟨false, 1, 1, true⟩ ⟨false, 2, 4, false⟩, .ld2 5 ⟨false, 1, 2, true⟩ ⟨false, 2, 3, false⟩, .ld2 5 ⟨false, 1, 3, true⟩ ⟨false, 2, 0, false⟩],
      Fetches 5 i (nibI i pointers) (fetched i pointers)) ∧
    (let s := fetched (.ld 5 1 0 .plain) pointers;
      let loc := fun k (w : Nat) => accessAt 5 ((s.nib 5).effAddr k .plain) w;
      loc 0 4 = .own (nibWin 5 + 0x1FFF0) ∧ loc 0 16 = .own (nibWin 5 + 0x1FFF0) ∧ loc 1 4 = .quire (quireSram 0) ∧
      loc 1 16 = .quire (quireSram 0) ∧ loc 2 4 = .bad 1 ∧ loc 3 4 = .bad 2 ∧ loc 3 16 = .bad 2 ∧
      (∀ l < 4, (s.peek (nibWin 5 + 0x1FFF0 + 4 * l)).row = .clean)) ∧
    Fetches 5 (.ld 5 1 0 .plain) (nibI (.ld 5 1 0 .plain) (pAt 0 true)) (fetched (.ld 5 1 0 .plain) (pAt 0 true)) ∧
    accessAt 5 (((fetched (.ld 5 1 0 .plain) (pAt 0 true)).nib 5).effAddr 0 .plain) 4 = .bad 3 :=
  ⟨fetchAll (by decide +kernel), by decide +kernel, fetches (by decide +kernel), by decide +kernel⟩

theorem witness_StoreResults :
    (∀ k ∈ [(0, 15), (1, 15), (1, 16), (2, 0)], ∀ i ∈ [Instr.st 5 1 (BitVec.ofNat 3 k.1) .post true, .stq 5 1 (BitVec.ofNat 3 k.1) .plain true],
      let x := { pointers with posted := k.2 }
      Fetches 5 i (nibI i x) (fetched i x) ∧ (∀ g < 21, (fetched i x).on (MEM_FLIP_STAT g) MEM_FLIP_STAT_ARMED = false) ∧
      ((fetched i x).nib 5).posted = k.2 ∧ Quiet (fetched i x) (quireSram 0) ∧
      ∀ w ∈ [4, 16], accessAt 5 (((fetched i x).nib 5).effAddr (BitVec.ofNat 3 k.1) .plain) w =
        if k.1 = 0 then .own (nibWin 5 + 0x1FFF0) else if k.1 = 1 then .quire (quireSram 0) else .bad 1) := by
  have h : [(0, 15), (1, 15), (1, 16), (2, 0)].all (fun k => [Instr.st 5 1 (BitVec.ofNat 3 k.1) .post true, .stq 5 1 (BitVec.ofNat 3 k.1) .plain true].all
      (canFetch · { pointers with posted := k.2 })) = true := by decide +kernel
  refine fun k hk i hi => ⟨fetches (List.all_eq_true.mp (List.all_eq_true.mp h k hk) i hi), ?_⟩
  unfold Quiet
  revert k i
  decide +kernel

/-- No delay slot, either delay slot; a D register that is poisoned; a repeat with two iterations left, and with one. -/
theorem witness_ControlFlow :
    (∀ i ∈ [Instr.br 5 14 7, .br 5 0 7, .bdnz 5 1 7, .rep 5 0xFFF, .nop 5, .fence 5], Fetches 5 i (nibI i {}) (fetched i {}) ∧
      ((fetched i {}).nib 5).slots = 0 ∧ ((fetched i {}).nib 5).posted = 0 ∧ ((fetched i {}).nib 5).cur.fl.getLsbD 9 = false ∧
      (((fetched i {}).nib 5).rd 1).psn = false) ∧
    (let x : Nib := { prim := { fl := 0x200, s := [(1, ⟨0, true⟩)] }, posted := 1 }
      ∀ i ∈ [Instr.br 5 13 7, .bdnz 5 1 7, .fence 5], Fetches 5 i (nibI i x) (fetched i x) ∧ ((fetched i x).nib 5).cur.fl.getLsbD 9 = true ∧
        (((fetched i x).nib 5).rd 1).psn = true ∧ ((fetched i x).nib 5).posted ≠ 0 ∧ ((fetched i x).nib 5).slots = 0) ∧
    (∀ k ∈ [1, 2], ∀ i ∈ [Instr.br 5 14 7, .bdnz 5 1 7, .rep 5 0, .halt 5, .reti 5],
      Fetches 5 i (nibI i { slots := k }) (fetched i { slots := k }) ∧ ((fetched i { slots := k }).nib 5).slots ≠ 0) ∧
    ({ prim := { repAt := some 7, repc := 2 } } : Nib).cur.repAt ≠ none ∧ 2 ≤ ({ prim := { repAt := some 7, repc := 2 } } : Nib).cur.repc.toNat ∧
    ({ prim := { repAt := some 7, repc := 1 } } : Nib).cur.repc.toNat ≤ 1 := by
  have h1 : [Instr.br 5 14 7, .br 5 0 7, .bdnz 5 1 7, .rep 5 0xFFF, .nop 5, .fence 5].all (canFetch · {}) = true := by decide +kernel
  have h2 : [Instr.br 5 13 7, .bdnz 5 1 7, .fence 5].all (canFetch · { prim := { fl := 0x200, s := [(1, ⟨0, true⟩)] }, posted := 1 }) = true := by
    decide +kernel
  have h3 : [1, 2].all (fun k => [Instr.br 5 14 7, .bdnz 5 1 7, .rep 5 0, .halt 5, .reti 5].all (canFetch · { slots := k })) = true := by decide +kernel
  refine ⟨fun i m => ⟨fetchAll h1 i m, by revert i; decide +kernel⟩, fun i m => ⟨fetchAll h2 i m, by revert i; decide +kernel⟩,
    fun k hk i m => ⟨fetchAll (List.all_eq_true.mp h3 k hk) i m, by revert k i; decide +kernel⟩, by decide⟩

theorem witness_ResultsLand : 1 ≤ 1 ∧ 1 ≤ 3 ∧ 3 ≤ 3 := by decide

theorem witness_SliceEndAndReturn :
    ∀ x ∈ [({} : Nib), { posted := 1, bank := true }], ∀ i ∈ [Instr.halt 5, .reti 5], Fetches 5 i (nibI i x) (fetched i x) ∧
      ((fetched i x).nib 5).slots = 0 ∧ ((fetched i x).nib 5).posted = x.posted ∧ ((fetched i x).nib 5).bank = x.bank := by
  have h : [({} : Nib), { posted := 1, bank := true }].all (fun x => [Instr.halt 5, .reti 5].all (canFetch · x)) = true := by decide +kernel
  refine fun x hx i hi => ⟨fetchAll (List.all_eq_true.mp h x hx) i hi, ?_⟩
  revert x i
  decide +kernel

/-- The all-zero word, and a word of a form that R144 leaves undefined, fetched. -/
theorem witness_Traps : (1 ≤ 1 ∧ 4 ≤ 4) ∧ (nibS {}).fld (NIB_TRAP_CAUSE 5) ⟨3, 0⟩ = 0 ∧ ((nibS {}).nib 5).bank = false ∧
    ((nibS { bank := true }).setReg (NIB_TRAP_CAUSE 5) 4).fld (NIB_TRAP_CAUSE 5) ⟨3, 0⟩ ≠ 0 ∧ ((nibS { bank := true }).nib 5).bank = true ∧
    FetchesWord 5 0 (nibW 0 {}) (((nibW 0 {}).toFetch 5).fetchWord 5).2 ∧ nibDecode 5 0 = none ∧
    nibEncode (.qmov 5 0 0 (.quad 1)) ≠ none ∧ (Instr.qmov 5 0 0 (.quad 1)).wf = false :=
  ⟨by decide, by decide, by decide, by decide, by decide, ⟨by decide +kernel, Prod.ext (by decide +kernel) rfl⟩, by decide, by decide, by decide⟩

/-- MOVC to and from every control register, and IRQCLR. -/
def controls : List Instr :=
  ([0, 1, 2, 3, 4, 5, 7].map fun k => Instr.movcTo 5 (BitVec.ofNat 4 k) 32) ++ (List.range 10).map (fun k => .movcFrom 5 (BitVec.ofNat 4 k) 1) ++ [.irqclr 5 7]

theorem witness_ControlRegisters :
    (∀ x ∈ [({} : Nib), { bank := true }, pAt 0 true], ∀ i ∈ controls,
      Fetches 5 i (nibI i x) (fetched i x) ∧ ((fetched i x).nib 5).bank = x.bank ∧ (((fetched i x).nib 5).rs 32).psn = (x.rs 32).psn) := by
  have h : [({} : Nib), { bank := true }, pAt 0 true].all (fun x => controls.all (canFetch · x)) = true := by decide +kernel
  refine fun x hx i hi => ⟨fetchAll (List.all_eq_true.mp h x hx) i hi, ?_⟩
  revert x i
  decide +kernel

/-- A chip whose nib 5 finds a poisoned word at address 0 of its program RAM. -/
def badFetch : State := (nibS {}).withMarks [(nibWin 5, { poison := true })]

theorem witness_NibFaultsAndIsolation : nibOf (.nop 5) = some 5 ∧ ((chip 3).nib 5).ready = false ∧ (nibS {}).phase + 1000 = ((nibS {}).nib 5).cutAt ∧
    FetchesWord 5 0 (nibW 0 {}) (((nibW 0 {}).toFetch 5).fetchWord 5).2 ∧ nibDecode 5 0 ≠ some (.nop 5) ∧ badFetch.issues 5 = true ∧
    (badFetch.toFetch 5).fetchWord 5 = ((0, true), ((badFetch.toFetch 5).fetchWord 5).2) ∧
    ∃ t, exec (.nop 5) (nibI (.nop 5) {}) = .next t :=
  ⟨rfl, by decide, by decide, ⟨by decide +kernel, Prod.ext (by decide +kernel) rfl⟩, by decide, by decide, Prod.ext (by decide +kernel) rfl, _, rfl⟩

theorem witness_InterruptsAndStalls :
    (let s := nibI (.nop 5) { irq := 4, imask := 4, lead := 1000, armed := true }
      let x := s.nib 5
      s.issues 5 = true ∧ x.bank = false ∧ x.slots = 0 ∧ x.cur.repAt = none ∧ x.irq &&& x.imask ≠ 0 ∧ s.nextTrap 5 = none ∧ x.run = true ∧
      x.armed = true ∧ s.nibCyc 5 = x.tcmp ∧ x.lead ≠ 0 ∧ s.phase + x.lead = x.cutAt) ∧
    (let s := nibW 0 { irq := 4, imask := 4, tcmp := 1 };
      s.nextTrap 5 ≠ none ∧ s.nibCyc 5 ≠ (s.nib 5).tcmp) ∧
    (let x := (nibS { irq := 4, imask := 3 }).nib 5;
      x.irq &&& x.imask = 0 ∧ x.armed = false ∧ x.lead = 0 ∧ x.loads = []) ∧
    (let s := nibS { loads := [[⟨quireSram 0 + 8, 1⟩]] };
      (s.nib 5).loads = [⟨quireSram 0 + 8, 1⟩] :: [] ∧ (quireSram 0 + 8) % 8 = 0 ∧ wordLen (quireSram 0 + 8) = 8 ∧ Quiet s (quireSram 0 + 8)) ∧
    (((nibS { posted := 16 }).nib 5).posted ≠ 0 ∧ ((nibS { posted := 16 }).nib 5).blocked = none) ∧
    (let s := nibS { posted := 1, blocked := some .fence }; (s.nib 5).blocked = some .fence ∧ s.phase < (s.nib 5).cutAt) ∧
    ((nibS { posted := 1, blocked := some .halt }).nib 5).blocked = some .halt ∧ ((chip 3).nib 5).run = false :=
  ⟨by decide +kernel, by decide +kernel, by decide, ⟨rfl, by decide, by decide, .inl (by decide)⟩, by decide, by decide, by decide, by decide⟩

/-- The same with a change of the modes-and-faults unit. -/
def chipMf (m : Nat) (f : Mf → Mf) : State := (chip m).withMf (f (chip m).mf)

/-- Whether a RESET_N pulse acts. -/
def pulseActs (s : State) : Prop := s.mf.power = true ∧ s.mode ≠ 7 ∧ s.fld SEC_STAT SEC_STAT_BLOT = 0

theorem witness_PowerAndReset :
    (State.reset.mf.power = false ∧ State.reset.sec.otpA = State.reset.sec.otpB ∧ State.reset.boot.op = none) ∧
    ((chip 3).mf.power = true ∧ (chip 3).boot.op = none) ∧
    (pulseActs (chip 3) ∧ ¬ pulseActs State.reset ∧ ¬ pulseActs (chip 7) ∧ ¬ pulseActs (chipR 3 [(SEC_STAT, SEC_STAT_BLOT, 1)])) ∧
    (99 < 100 ∧ 100 ≤ 100 ∧ 999 < 1000 ∧ 1000 ≤ 1000) ∧
    (let s := chipMf 0 fun x => { x with scribeHeld := true };
      s.mf.power = true ∧ s.mf.root = true ∧ s.mf.inReset = false ∧ s.mode = 0 ∧ s.mf.scribeHeld = true ∧
      s.on MF_FAULT MF_FAULT_GRAVE = false ∧ s.fld SEC_STAT SEC_STAT_BLOT = 0 ∧ s.mf.decided = []) := by unfold pulseActs; decide +kernel

theorem witness_GraveSeals : EVT_MF_LOCKSTEP ∈ [EVT_MF_LOCKSTEP, EVT_REF_ROOT_LOSS, EVT_SEC_REBREACH, EVT_MEM_SCRIBE 0] ∧
    (∀ v : Fin 2, let s := chipR 3 [(MF_GRAVE, MF_GRAVE_VALID, v.val)];
      s.on MF_FAULT MF_FAULT_GRAVE = false ∧ s.mf.decided.contains 14 = false ∧ s.on MF_GRAVE MF_GRAVE_VALID = decide (v = 1)) := by decide +kernel

/-- A check that passes at the bound of 24 strokes; one that fails at it; a missing kick at 23; a held scribe. -/
theorem witness_ScribeHealth :
    (let s := (chipMf 3 fun x => { x with kicked := true }).setReg MF_HEALTH 24;
      s.mf.kicked = true ∧ (s.reg MF_HEALTH).toNat ≤ 24 ∧ 24 ≤ (s.reg MF_HEALTH).toNat ∧ s.on MF_FAULT MF_FAULT_HUNG = false ∧
      s.on MF_FAULT MF_FAULT_GRAVE = false ∧ s.mode ≠ 0 ∧ s.mode ≠ 7 ∧ s.mf.scribeHeld = false) ∧
    ((chipMf 3 fun x => { x with kicked := true }).setReg MF_HEALTH 23).reg MF_HEALTH = 23 ∧ (chip 3).mf.kicked = false ∧
    (chipMf 3 fun x => { x with scribeHeld := true }).mf.scribeHeld = true ∧ Port.chip 1 ≠ Port.chip 0 := by decide +kernel

/-- A chip in a mode with the run conditions met and one transition decided. -/
def decides (m k : Nat) : State :=
  ((chipR m [(STK_STAT, STK_STAT_ALIGNED, 1), (TB_STAT 0, TB_STAT_LOCK, 1), (REF_STAT, REF_STAT_LOOP, 3), (MF_CFG, MF_CFG_AUTORUN, 1)])).withMf
    { (chip m).mf with decided := [k] }

theorem witness_Modes : (∀ x ∈ [(2, 3), (2, 4), (3, 5), (4, 6), (3, 7), (5, 8), (5, 9), (3, 14)],
      modeOrder.find? (fun j => (decides x.1 x.2).mf.decided.contains j &&
        ((decides x.1 x.2).withMf { (decides x.1 x.2).mf with decided := [] }).mayMove j) = some x.2) ∧
    ((chip 2).mode = 2 ∧ (chip 6).mode = 6 ∧ (chip 6).mf.blotted = false ∧ 12 ∉ (chip 2).mf.decided ∧ 12 ∈ (decides 2 12).mf.decided) ∧
    ((chip 3).mode = 3 ∧ 10 ∉ (chip 3).mf.decided ∧ 10 ∈ (decides 5 10).mf.decided ∧ (decides 5 10).mode = 5) ∧
    (chipMf 6 fun x => { x with blotted := true }).mf.blotted = true := by decide +kernel

/-- An entry that runs a slice on a nib from cycle 0 to 1,000. -/
def slice (n : Nat) : Entry := ⟨BitVec.ofNat 32 (2 ^ 28 + 65536 * n), 0, 1000, 0, 0, 0, 0xFFFFFFFF, 0xFFFFFFFF⟩

/-- The relief nib of quire 0 with power. -/
def relieved (s : State) : State := s.setDom (26 + 256) { on := true, opened := true }

theorem witness_TestRequests :
    (let s := ruled 3 [slice 5];
      s.rulingRuns = true ∧ (0 : BitVec 9).toNat < 256 ∧ s.nibEntries 0 = [] ∧ s.nibEntries 255 = [] ∧ s.nibEntries 5 ≠ [] ∧
      s.reliefFree 0 = false ∧ s.reliefFree (nibQuire 256) = false) ∧
    (let s := relieved (ruled 3 [slice 5]);
      s.rulingRuns = true ∧ s.nibEntries 5 ≠ [] ∧ s.reliefFree 0 = true ∧ 256 ≤ (256 : BitVec 9).toNat ∧ s.reliefFree (nibQuire 256) = true) ∧
    ((chip 1).rulingRuns = false ∧ 272 ≤ (272 : BitVec 9).toNat ∧ ¬ 272 ≤ (271 : BitVec 9).toNat) ∧
    ((chip 6).mode = 6 ∧ (chip 6).mf.blotted = false ∧ TestRun.full ∉ (chip 6).mf.tests) ∧
    ((chip 2).mode = 2 ∧ 11 ∉ (chip 2).mf.decided) ∧ (chip 4).mode = 4 := by decide +kernel

theorem witness_TestResults :
    (let n : Fin 272 := 255
      let s := (chipMf 3 fun x => { x with tests := [.inPlace n] }).setFld MF_TEST_STAT MF_TEST_STAT_STATE 1 |>.setFld MF_TEST_STAT MF_TEST_STAT_NIB 255
      let r : TestResult := { step := 0, addr := 0, nib := 255 }
      r.nib.toNat = n.val ∧ s.mf.tests = [.inPlace n] ∧ s.scribeActs = true ∧ s.fld MF_TEST_STAT MF_TEST_STAT_STATE = 1 ∧
      s.fld MF_TEST_STAT MF_TEST_STAT_NIB = n.val ∧ r.step = 0 ∧ ({ r with step := 3 } : TestResult).step = 3 ∧ n.val < 256) ∧
    (chipMf 6 fun x => { x with tests := [.full] }).mf.tests = [.full] := by decide +kernel

theorem witness_StrokeBoundary : (chip 3).tim.align.isCoarse = none ∧ ((Align.coarse 3 7).isCoarse = some (3, 7)) ∧ (chip 3).mf.root = true ∧
    State.reset.mf.root = false := by decide +kernel

/-- A governed chip in a mode, aligned or not, its alignment in some state. -/
def governed (m : Nat) (al : Nat) (a : Align) : State :=
  (chipR m [(TB_STAT 0, TB_STAT_LOCK, 1), (STK_STAT, STK_STAT_ALIGNED, al), (STK_STAT, STK_STAT_MEAS, 1)]).withTim { ({} : Timer) with align := a, due := true }

/-- Errors at the limit, past it, and at the ends of what 32 bits hold. -/
theorem witness_Alignment :
    (let s := governed 2 0 .idle; s.mode = 2 ∧ s.govLock = true ∧ s.tim.due = true) ∧ ((chip 6).mode = 6 ∧ (chip 6).govLock = false) ∧
    (chip 3).mode ≠ 2 ∧
    (let s := governed 2 0 .pull; s.tim.align = .pull ∧ s.mode = 2 ∧ s.on STK_STAT STK_STAT_MEAS = true ∧ (s.reg STK_ALIGN_ERR).toInt.natAbs ≤ s.alignLim) ∧
    (let s := governed 3 1 .idle;
      s.govLock = true ∧ s.tim.align = .idle ∧ s.aligned = true ∧ s.alignErr.natAbs ≤ s.alignLim ∧ -2 ^ 31 ≤ s.alignErr ∧ s.alignErr < 2 ^ 31) ∧
    (let s := (governed 3 1 .idle).withTim { (governed 3 1 .idle).tim with sysCnt := 40000, bnd := 40000 };
      s.aligned = true ∧ s.alignLim < s.alignErr.natAbs) ∧
    (let s := governed 3 0 .idle; s.aligned = false ∧ s.live = true ∧ s.alignErr.natAbs ≤ s.alignLim) ∧
    (let s := governed 2 0 .idle; s.aligned = false ∧ s.live = false) ∧ (governed 2 0 .pull).tim.align ≠ .idle := by decide +kernel
/-- Entries of polder 0: a SLU move of 2 beats with NOTIFY, an INK pass of 4 rows, a BRU pass of 1 element, an IDLE range. -/
def sluEntry : Entry := ⟨0x20000002, 0, 1000, 0x12000000, 0x12020000, 2, 0xFFFFFFFF, 0xFFFFFFFF⟩
def inkEntry : Entry := ⟨0x30000000, 0, 1000, 0, 4, 0, 0xFFFFFFFF, 0xFFFFFFFF⟩
def bruEntry : Entry := ⟨0x40000000, 0, 1000, 0, 1, 0, 0xFFFFFFFF, 0xFFFFFFFF⟩
def idleEntry : Entry := ⟨0x50000000, 0, 0, 0, 4, 0, 0xFFFFFFFF, 0xFFFFFFFF⟩

/-- A ruling of one entry of each type, with polder 0 and nib 5 open. -/
def fiveEntries : State :=
  ((ruled 3 [slice 5, sluEntry, inkEntry, bruEntry, idleEntry]).setDom 6 { on := true, opened := true }).setDom 31 { on := true, opened := true }

theorem witness_Entries :
    (fiveEntries.rulingRuns = true ∧ ∀ i : Fin 4, ∃ e ∈ fiveEntries.entry i.val, eType e = i.val + 1 ∧ (fiveEntries.entrySt i.val).started = false ∧
      (fiveEntries.atRoot (eStart e)).suppressed e = false ∧ (fiveEntries.atRoot (eStart e)).entryOpen e = true) ∧
    (∃ e ∈ fiveEntries.entry 4, eType e = 5) ∧ fiveEntries.entry 5 = none ∧ (chip 1).rulingRuns = false ∧
    (∃ e ∈ (ruled 3 [slice 5]).entry 0, eType e ≠ 5 ∧ (ruled 3 [slice 5]).entryOpen e = false ∧ (ruled 3 [slice 5]).rul.counted = false) ∧
    ((fiveEntries.setEntrySt 1 { started := true }).entrySt 1).started = true ∧
    (let s := fiveEntries.setEntrySt 1 { started := true, running := true, done := 16 };
      ∃ e ∈ s.entry 1, eType e = 2 ∧ (s.entrySt 1).running = true ∧ (s.entrySt 1).done = eBeats e) ∧
    ((fiveEntries.entrySt 1).running = false ∧ ∃ e ∈ fiveEntries.entry 1, (fiveEntries.entrySt 1).done ≠ eBeats e) := by decide +kernel

/-- A chip whose quire 0 has a move in hand. -/
def moving (m : ReliefMove) : State := (ruled 3 [slice 5]).setMove 0 (some m)

theorem witness_ReliefMoves :
    (let s := moving { home := 15 }; s.scribeActs = true ∧ s.move 0 = some { home := 15 } ∧ (255 : Fin 256).val = 16 * 15 + (15 : Fin 16).val) ∧
    (chip 3).move 0 = none ∧ (moving { home := 0, prepared := true }).move 0 = some { home := 0, prepared := true } ∧
    (moving { home := 0, commit := true }).move 0 = some { home := 0, commit := true } ∧ (∀ g < 21, (moving { home := 0 }).on (MEM_FLIP_STAT g) MEM_FLIP_STAT_ARMED = false) ∧
    (let s := (moving { home := 0, commit := true, back := true }).setRelState 0 2; s.relState 0 = 2 ∧ s.move 0 = some { home := 0, commit := true, back := true }) ∧
    (let s := ((relieved (ruled 3 [slice 5])).setFld RUL_ROT_CTL RUL_ROT_CTL_EN 1).setDom 10 { on := true, opened := true };
      s.on RUL_ROT_CTL RUL_ROT_CTL_EN = true ∧ s.rulingRuns = true ∧ s.reliefFree 0 = true ∧ s.relState 0 ≠ 3 ∧ s.rotating 0 = false ∧ s.stepEarly 0 = false ∧
      (s.dom 10).on = true ∧
      0 ∉ s.rul.rotFail ∧ bitOf (s.reg (RUL_RELIEF 0)) (s.fld (RUL_RELIEF 0) RUL_RELIEF_ROT_NEXT % 16) = false ∧
      s.nibEntries 0 = [] ∧ s.nibEntries 5 ≠ []) ∧
    (let s := (chip 3).setReg (RUL_RELIEF 0) 0x7FFF;
      (∀ i < 15, bitOf (s.reg (RUL_RELIEF 0)) i = true) ∧ bitOf (s.reg (RUL_RELIEF 0)) 15 = false) ∧ (chip 3).reliefFree 0 = false := by decide +kernel

/-- Quire 0 is lost; ruling `i` leaves out the quires `x`. -/
def losing (i x : Nat) : State :=
  (((chip 3).setReg RUL_LOST 1).withRul { rulings := [⟨0, 0, 0, 0, 0, []⟩, ⟨BitVec.ofNat 32 i, BitVec.ofNat 32 x, 0, 0, 0, []⟩] })

/-- A chip whose containment queue holds one action. -/
def contains (c : Contain) : State := chipMf 3 fun x => { x with queue := [c] }

theorem witness_ReducedRulingsAndContainment :
    (let s := losing 4 1
      let lost := BitVec.ofNat 16 (s.reg RUL_LOST).toNat
      s.scribeActs = true ∧ lost &&& ~~~ s.activeExcl ≠ 0 ∧ (s.rul.rulings.find? (fun r => rulIndex r == 4)).isSome = true ∧
      (∀ r ∈ s.rul.rulings.find? (fun r => rulIndex r == 4), (lost ||| s.activeExcl) &&& ~~~ rulExcl r = 0) ∧
      ∀ j : Fin 3, s.rul.rulings.find? (fun r => rulIndex r == j.val + 1) = none) ∧
    (let s := losing 1 2
      ∀ r ∈ s.rul.rulings.find? (fun r => rulIndex r == 1), (BitVec.ofNat 16 (s.reg RUL_LOST).toNat ||| s.activeExcl) &&& ~~~ rulExcl r ≠ 0) ∧
    (BitVec.ofNat 16 ((chip 3).reg RUL_LOST).toNat &&& ~~~ (chip 3).activeExcl = 0 ∧ (chip 3).rul.retire = [] ∧ (chip 3).rul.chosen = none) ∧
    (let s := (losing 1 1).withRul { (losing 1 1).rul with chosen := some 4, prepared := true }; s.rul.chosen = some 4 ∧ s.rul.prepared = true ∧ s.rul.retire = []) ∧
    ((chip 3).mf.queue = [] ∧ (contains .recorded).mf.queue = [.recorded] ∧ (contains .recorded).scribeActs = true ∧
      (contains (.nib 271)).deadNib 271 = false ∧ (contains (.quire 15)).deadQuire 15 = false ∧ (contains (.polder 3)).deadPolder 3 = false ∧
      (contains (.retire 255)).deadNib 255 = false ∧ (contains (.retire 255)).nibEntries 255 = [] ∧
      (let s := (contains (.nib 5)).setDom (26 + 5) { on := true, opened := true }; (s.dom 31).on = true ∧ (s.dom 31).draining = false)) := by decide +kernel

/-- Polder 0 is open, and a word of its memory holds stored poison. -/
def poisonAt (a : Nat) : State := ((chip 3).setDom 6 { on := true, opened := true }).setMark a { poison := true }

theorem witness_ScribeRewrites :
    (∀ a ∈ [rowAddr 0 16383, elemAddr 0 511, elemAddr 0 511 + 56], (poisonAt a).scribeActs = true ∧ (poisonAt a).isOpen 6 = true ∧
      (poisonAt a).on (MEM_FLIP_STAT 1) MEM_FLIP_STAT_ARMED = false ∧ ((poisonAt a).peek a).psn = true) ∧
    ((chip 3).peek (rowAddr 0 0)).psn = false ∧ (∀ i < 8, ((chip 3).peek (elemAddr 0 0 + 8 * i)).psn = false) ∧
    (poisonAt 0).rulingRuns = true ∧ (poisonAt 0).isOpen 6 = true ∧ ((poisonAt 0).bru 0).sweepEnd = 0 ∧ (poisonAt 0).lostPolder 0 = false ∧
    ((poisonAt 0).setReg RUL_LOST 0xF).lostPolder 0 = true := by decide +kernel

/-- Port 0 with 8 slots enabled, in some state of lock. -/
def sapChip (lock : Nat) (x : Sap) : State :=
  (((chipR 3 [(SAP_CTL 0, SAP_CTL_EN, 1), (SAP_CTL 0, SAP_CTL_SLOTS, 8), (SAP_CTL 0, SAP_CTL_TXEN, 1), (SAP_STAT 0, SAP_STAT_LOCK, lock)]).setDom 4
    { on := true, opened := true }).setSap 0 x)

theorem witness_SerialPorts :
    (let s := sapChip 0 { good := 7 }; s.sapOn 0 = true ∧ s.sapLock 0 = false ∧ 7 ≤ (s.sap 0).good ∧ 256 = 32 * s.sapSlots 0 ∧ s.sapLead 0 = false ∧ s.sapFmt 0 = 0 ∧
      (List.replicate 32 false).head? = some (s.sapLead 0) ∧ (List.replicate 32 true).head? ≠ some (s.sapLead 0) ∧
      ∀ i < 64, (List.replicate 32 false ++ List.replicate 32 true).getD i (s.sapLead 0) = if i < 32 then s.sapLead 0 else !s.sapLead 0) ∧
    (let s := sapChip 1 { bad := 1 }; s.sapLock 0 = true ∧ (s.sap 0).bad ≠ 0 ∧ 255 ≠ 32 * s.sapSlots 0) ∧ (chip 3).sapOn 0 = false ∧
    ((chip 3).mode ≠ modeDark ∧ (chip 3).mode ≠ modeSealed ∧ (chip 3).rul.stopped = false ∧ (chip 0).mode = modeDark) ∧
    ((sapChip 1 { fresh := true }).sap 0).fresh = true ∧ (sapChip 1 {}).on (SAP_CTL 0) SAP_CTL_GRPEN = false ∧ (sapChip 1 {}).sapRemap = false ∧
    (let s := sapChip 1 { mapped := true };
      s.rulingRuns = true ∧ s.sapOn 0 = true ∧ s.on (SAP_CTL 0) SAP_CTL_TXEN = true ∧ (s.sap 0).mapped = true) ∧
    ((chip 6).mode = 6 ∧ (chip 1).rulingRuns = false ∧ (chip 1).mode ≠ 6) := by decide +kernel

/-- Lane 0 enabled, in a state, with fields of its registers set. -/
def laneChip (m st : Nat) (x : Lane) (r : List (Nat × Fld × Nat)) : State :=
  ((chipR m ([(LANE_CFG 0, LANE_CFG_EN, 1), (LANE_STAT 0, LANE_STAT_STATE, st)] ++ r)).setDom 5 { on := true, opened := true }).setLane 0 x

theorem witness_LaneSamples :
    (let s := laneChip 3 3 {} []; s.laneOn 0 = true ∧ s.leveeOf 0 = 0 ∧ s.isOpen 5 = true ∧ s.laneRuns 0 = true) ∧
    (laneChip 3 1 {} []).laneRuns 0 = false ∧ (chip 3).isOpen 5 = false ∧
    (let s := laneChip 3 3 {} [(LANE_CFG 0, LANE_CFG_BRIDGE, 1)]; s.leveeOf 1 = 0 ∧ s.on (LANE_CFG (s.leveeOf 1)) LANE_CFG_EN = true) ∧
    (laneChip 3 4 { rampLeft := 1 } []).laneState 0 = 4 ∧ (laneChip 3 3 { ended := some false } []).mode ≠ modeDark ∧ (chip 3).mode ≠ modeLoad ∧
    (let s := laneChip 3 3 {} [(LANE_CFG 0, LANE_CFG_BRIDGE, 1)]; s.bridged 0 = true) := by decide +kernel

theorem witness_LaneShorts :
    (let s := laneChip 3 3 { limited := 1, ran := true } [(LANE_ILIM 0, LANE_ILIM_ILIM, 4095)];
      s.laneOn 0 = true ∧ s.laneRuns 0 = true ∧ (s.lane 0).tripped = false ∧ (s.lane 0).ran = true ∧
      2 ^ 19 * s.fld (LANE_ILIM 0) LANE_ILIM_ILIM < (sinc3 4 (newestBits (0 : BitVec 10))).toInt.natAbs ∧
      ¬ 2 ^ 19 * s.fld (LANE_ILIM 0) LANE_ILIM_ILIM < (sinc3 4 (newestBits (0x155 : BitVec 10))).toInt.natAbs ∧ (s.lane 0).limited < 2) ∧
    (laneChip 3 1 { ran := true } []).laneRuns 0 = false ∧
    (let s := laneChip 3 3 { limited := 2 } [(LANE_ILIM 0, LANE_ILIM_ILIM, 1), (LANE_RETRY 0, LANE_RETRY_TRIES, 3)];
      2 ≤ (s.lane 0).limited ∧ s.fld (LANE_STAT 0) LANE_STAT_TRY ≠ s.fld (LANE_RETRY 0) LANE_RETRY_TRIES ∧ (s.lane 0).causes = []) ∧
    (let s := laneChip 3 3 { limited := 2 } [(LANE_STAT 0, LANE_STAT_TRY, 3), (LANE_RETRY 0, LANE_RETRY_TRIES, 3)];
      s.fld (LANE_STAT 0) LANE_STAT_TRY = s.fld (LANE_RETRY 0) LANE_RETRY_TRIES) ∧
    (let s := laneChip 3 1 { causes := [.short] } []; s.laneState 0 = 1 ∧ (s.lane 0).causes = [.short] ∧ s.fld (LANE_STAT 0) LANE_STAT_TRY < 15) ∧
    (SafeCause.short ∉ ((chip 3).lane 0).causes) ∧ (laneChip 3 3 {} []).laneState 0 = 3 ∧ ((laneChip 3 3 {} []).lane 0).rampLeft = 0 ∧
    (laneChip 3 5 {} []).laneState 0 = 5 ∧ ((laneChip 3 5 {} []).lane 0).dcNew = false ∧ (laneChip 3 5 {} []).senseGood 0 = true ∧
    ((laneChip 3 5 {} []).withSenseBad [.current 0]).senseGood 0 = false ∧ (chip 3).laneState 0 ≠ 5 := by decide +kernel

theorem witness_LaneLevees :
    (let s := laneChip 3 3 { dcOver := 7680 } [(LANE_DC 0, LANE_DC_DC_T, 1)];
      s.laneOn 0 = true ∧ 7680 * s.fld (LANE_DC 0) LANE_DC_DC_T ≤ (s.lane 0).dcOver ∧ s.isOpen 5 = true ∧ 0 ∈ s.senseUsers (.current 0) ∧
      s.laneState 0 ≠ 0 ∧ s.laneState 0 ≠ 5) ∧
    (let s := laneChip 3 5 { dcOver := 7680 } [(LANE_DC 0, LANE_DC_DC_T, 1), (LANE_STAT 0, LANE_STAT_CAUSE, 2)]; s.laneState 0 = 5 ∧ s.fld (LANE_STAT 0) LANE_STAT_CAUSE ≠ 4) ∧
    (let s := laneChip 3 3 { dcOver := 7679 } [(LANE_DC 0, LANE_DC_DC_T, 1)]; ¬ 7680 * s.fld (LANE_DC 0) LANE_DC_DC_T ≤ (s.lane 0).dcOver) ∧
    (let s := (laneChip 3 1 { causes := [.sense] } []).withSenseBad [.current 0];
      0 ∈ s.senseUsers (.current 0) ∧ s.senseBad = [.current 0] ∧ s.laneState 0 = 1 ∧ (s.lane 0).causes = [.sense]) ∧
    (let s := (laneChip 3 3 {} [(LANE_CFG 0, LANE_CFG_TEN, 1), (LANE_CFG 0, LANE_CFG_TSRC, 7), (LANE_THERM 0, LANE_THERM_TSD, 100)]).setReg (AUX_VAL 7) 6553600;
      s.laneOn 0 = true ∧ s.on (LANE_CFG 0) LANE_CFG_TEN = true ∧ bitOf (s.reg AUX_STAT) (s.fld (LANE_CFG 0) LANE_CFG_TSRC) = false ∧
      65536 * (s.fld (LANE_THERM 0) LANE_THERM_TSD : Int) ≤ (s.reg (AUX_VAL (s.fld (LANE_CFG 0) LANE_CFG_TSRC))).toInt) ∧
    ((laneChip 3 2 {} []).laneState 0 = 2 ∧ (chip 3).laneState 0 ≠ 2 ∧ (chip 3).isOpen 5 = false) := by decide +kernel

theorem witness_LoadSense :
    (let s := laneChip 3 3 { window := some {}, sqN := 10 } [(LANE_LS 0, LANE_LS_LSEN, 1), (LANE_LS 0, LANE_LS_LEVEL, 40)];
      s.laneOn 0 = true ∧ s.on (LANE_LS 0) LANE_LS_LSEN = true ∧ s.laneState 0 = 3 ∧ (s.lane 0).window = some {} ∧
      quietLevel (s.lane 0).sq (s.lane 0).sqN (s.fld (LANE_LS 0) LANE_LS_LEVEL) = true ∧ quietLevel 10 10 40 = false ∧ s.isOpen 5 = true ∧ s.live = true) ∧
    (65534 ≤ 65534 ∧ 65534 < 65535) ∧ ((chip 3).lane 0).window = none ∧
    (let s := laneChip 2 3 { calibrating := true, calN := 76800 } [];
      s.isOpen 5 = true ∧ s.live = false ∧ (s.lane 0).calibrating = true ∧ 76800 ≤ (s.lane 0).calN ∧ ¬ 76800 ≤ 76799) ∧
    ((laneChip 3 1 {} []).laneState 0 = 1 ∧ ((chip 3).lane 0).calibrating = false ∧ (chip 3).isOpen 5 = false) := by decide +kernel

/-- A word of scribe SRAM with flipped bits. -/
def marked (m : Mark) : State := (chip 3).setMark 0x0407FFF8 m

theorem witness_CodeWordsAndInjection :
    (groupOf 0x0407FFF8 = some 0 ∧ 0x0407FFF8 % wordLen 0x0407FFF8 = 0 ∧ wordLen 0x0407FFF8 = 8 ∧ groupOf 0x12000000 = some 5 ∧ wordLen 0x12000000 = 4) ∧
    (let n := fun m : Mark => ones m.dflip + ones m.cflip;
      n ((chip 3).markAt 0x0407FFF8) = 0 ∧ n { dflip := 2 ^ 63 } = 1 ∧ n { cflip := 1 } = 1 ∧ n { dflip := 1, cflip := 1 } = 2 ∧ n { poison := true, dflip := 1 } = 1) ∧
    (marked { dflip := 1 }).injected 0 0x0407FFF8 { dflip := 1 } = false ∧
    (let s := (((marked { dflip := 1 }).setFld (MEM_FLIP_STAT 0) MEM_FLIP_STAT_RECORD 1).setReg (MEM_INJ_ADDR 0) 0x0407FFF8).setGroup 0 { recD := 1 };
      s.injected 0 0x0407FFF8 { dflip := 1 } = true) ∧
    ((chip 2).muted = true ∧ (chip 2).armOk 20 = true ∧ (chip 0).muted = false ∧ (chip 0).live = false ∧ (chip 3).live = true ∧
      (chip 3).on (MEM_FLIP_ADDR 0) MEM_FLIP_ADDR_MATCH = false ∧ (chip 3).armOk 0 = false) ∧
    (let s := (chip 2).setFld (MEM_FLIP_STAT 0) MEM_FLIP_STAT_ARMED 1;
      s.on (MEM_FLIP_STAT 0) MEM_FLIP_STAT_ARMED = true ∧ s.flipTakes 0 0x04000000 = true ∧ groupOf 0x04000000 = some 0 ∧ 0x04000000 % 8 = 0) := by decide +kernel

/-- A scrub of group 0 at an address, up to another. -/
def scrubs (pos hi : Nat) (x : MemGroup) : State :=
  (((chip 3).setReg (MEM_SCRUB_POS 0) (BitVec.ofNat 32 pos)).setReg (MEM_SCRUB_END 0) (BitVec.ofNat 32 hi)).setGroup 0 x

theorem witness_ScrubbingAndRepairs :
    (let s := scrubs 0x04000000 0x04000000 { scrub := true };
      (s.group 0).scrub = true ∧ nextWord 0 (0x04000000 + wordLen 0x04000000) = some 0x04000008 ∧ 0x04000000 < 0x04000008 ∧ 0x04000008 < 2 ^ 32) ∧
    (((scrubs 0 0x04000008 {}).group 0).scrub = false ∧ nextWord 0 0 = some 0x04000000 ∧ 0x04000000 ≤ 0x04000008) ∧
    (nextWord 0 0x08200000 = none ∧ nextWord 0 (0x081FFFF8 + wordLen 0x081FFFF8) = none) ∧
    ((scrubs 0 0 { patrol := some 0x0407FFF8 }).group 0).patrol = some 0x0407FFF8 ∧ nextWord 0 (0x0407FFF8 + wordLen 0x0407FFF8) = some 0x08000000 ∧
    ((chip 3).mf.scribeHeld = false ∧ ((chip 3).group 0).patrol = none) ∧
    (let s := (scrubs 0 0 { hard := [0x04000000] }).setFld (MEM_REPAIR 0) MEM_REPAIR_AUTO 1;
      (s.group 0).hard = [0x04000000] ∧ segOf 0x04000000 = some (4, 0) ∧ s.on (MEM_REPAIR 0) MEM_REPAIR_AUTO = true ∧ s.segUsed 4 < 8) ∧
    (8 ≤ (scrubs 0 0 { used := [(4, 8)] }).segUsed 4 ∧ ((chip 3).group 0).hard = []) ∧
    (let s := (chip 3).setMark 0x04068000 { poison := true };
      inScribeMap 0x04068000 = true ∧ (s.peek 0x04068000).psn = true ∧ s.on (MEM_FLIP_STAT 0) MEM_FLIP_STAT_ARMED = false) ∧
    (inScribeMap 0x04067FF8 = false ∧ inScribeMap 0x04080000 = false ∧ ((chip 3).peek 0x04068000).psn = false) := by decide +kernel
theorem witness_References :
    (let s := (chip 3).setReg REF_IN_CFG 1; bitOf (s.reg REF_IN_CFG) 0 = true ∧ bitOf (s.reg REF_IN_CFG) 5 = false ∧ s.refPresent 0 = false) ∧
    (let s := (((chip 3).setReg REF_IN_CFG 1).setRefIn 0 { present := true }).setFld (MON_STAT 0) MON_STAT_STATE 3;
      s.refPresent 0 = true ∧ s.monState 0 = 3 ∧ -100000 ≤ (s.reg (MON_FAST 0)).toInt ∧ (s.reg (MON_FAST 0)).toInt ≤ 100000) ∧
    (let s := (((chip 3).setReg REF_IN_CFG 1).setRefIn 0 { present := true }).setReg (MON_FAST 0) 100001;
      s.refPresent 0 = true ∧ 100000 < (s.reg (MON_FAST 0)).toInt ∧ s.monState 0 ≠ 3) ∧
    (∀ x ∈ [0, 2, 3, 4], (chipR 3 [(REF_STAT, REF_STAT_LOOP, x)]).loop = x) ∧
    (chipR 3 [(REF_STAT, REF_STAT_LOCKED, 1), (REF_STAT, REF_STAT_HISTOK, 1)]).on REF_STAT REF_STAT_HISTOK = true := by decide +kernel

theorem witness_TimeBases : (0 : Int) ≤ 0 ∧
    (let s := (chip 3).withTim { ({} : Timer) with sysCnt := 2 ^ 64 - 4 }; s.tim.sysCnt.toNat + 3 < 2 ^ 64) ∧
    ((chip 2).mayStep 0 = true ∧ (chip 2).governs 0 = true ∧ (chip 2).mode = 2 ∧ (chip 2).tim.sysCnt = (chip 2).tim.bnd) ∧
    ((chip 3).mayStep 0 = false ∧ (chip 3).mayStep 3 = true ∧ (2 : Fin 4) ≠ 3) := by decide +kernel

/-- Instance 0 of PTP runs on port 0 in a port state. -/
def ptpChip (st : Nat) (x : Ptp) (r : List (Nat × Fld × Nat)) : State :=
  ((chipR 3 ([(PTP_CFG 0, PTP_CFG_EN, 1), (PTP_STAT 0, PTP_STAT_PORTSTATE, st), (PORT_STAT 0, PORT_STAT_LINK, 1), (NW_CFG 0, NW_CFG_UNTAG, 1)] ++ r)).setDom 0
    { on := true, opened := true }).setPtp 0 x

/-- A PTP message in a UDP datagram to the group of R477. -/
def wire : Wire := ⟨false, ⟨0x01005E000181, none, 100⟩, .udp4, 0, 5⟩

theorem witness_PtpInstances :
    ((chip 3).ptpIn 0 wire).1 = false ∧
    (let u := ((ptpChip 9 { delayOk := true } []).ptpIn 0 wire).2;
      ((ptpChip 9 { delayOk := true } []).ptpIn 0 wire).1 = true ∧ u.ptpState 0 = 9 ∧ (u.ptp 0).delayOk = true ∧ (u.ptp 0).discard = false ∧
      (u.ptp 0).waiting = none ∧ (u.ptp 0).parent = none ∧ u.on (PTP_CFG 0) PTP_CFG_MASTER = false) ∧
    (((ptpChip 4 {} []).ptpIn 0 wire).2.ptpState 0 ≠ 9) ∧
    (let y : PtpSync := ⟨wire, true, 7, ⟨0, 0⟩, 0, 0⟩;
      let s := ptpChip 9 { waiting := some y } [];
      (s.ptpIn 0 wire).1 = true ∧ ((s.ptpIn 0 wire).2.ptp 0).waiting = some y ∧ y.seq = 7 ∧ y.seq ≠ 8) ∧
    (((ptpChip 9 {} [(PTP_CFG 0, PTP_CFG_PROFILE, 2)]).ptpIn 0 wire).2.fld (PTP_CFG 0) PTP_CFG_PROFILE = 2) ∧
    (let s := ptpChip 9 { parent := some (1, 5) } [];
      ((s.ptpIn 0 wire).2.ptp 0).parent = some (1, 5) ∧ (4 : BitVec 128).toNat < (5 : BitVec 128).toNat ∧ (5 : BitVec 128).toNat ≤ 5 ∧ (1 : BitVec 64) ≠ 2) ∧
    ((ptpChip 9 {} []).ptpRuns 0 = true ∧ (chip 3).ptpRuns 0 = false ∧ (chip 3).on (PTP_STAT 0) PTP_STAT_LOCK = false ∧
      (ptpChip 9 {} [(PTP_STAT 0, PTP_STAT_LOCK, 1)]).on (PTP_STAT 0) PTP_STAT_LOCK = true) ∧
    (∀ k ∈ [PtpKind.sync, .followUp, .announce], (ptpChip 6 {} []).ptpSends 0 k = true) ∧ (ptpChip 9 {} []).ptpSends 0 .delayReq = true ∧
    (ptpChip 9 {} [(PTP_CFG 0, PTP_CFG_PROFILE, 2)]).ptpSends 0 .pdelayReq = true ∧ (ptpChip 6 {} []).ptpSends 0 .delayReq = false ∧
    (let s := ptpChip 6 {} []; s.portLive (s.activePort 0) = true ∧ s.isSealing = false ∧ (s.netPort (s.activePort 0)).queued = []) := by decide +kernel

/-- A delay request or response of sequence number 7 for the port of instance 0 of a chip. -/
def delayMsg (x : Wire) (s : State) (b : DelayBody) : PtpDelay := ⟨x, (s.ptpIn 0 x).2.portId 0, 7, 0, b⟩

/-- The same over Ethernet. -/
def wire2 : Wire := ⟨false, ⟨0x0180C200000E, none, 100⟩, .layer2, 0, 5⟩

theorem witness_PtpDelays :
    (let s := ptpChip 9 { parent := some (5, 5), sync := some (1, 2), req := some (7, 3) } []
      let u := (s.ptpIn 0 wire).2
      let d := delayMsg wire s (.resp ⟨0, 0⟩)
      (s.ptpIn 0 d.wire).1 = true ∧ d.port = u.portId 0 ∧ u.ptpP2p 0 = false ∧ u.ptpParent 0 d.wire = true ∧ (u.ptp 0).sync = some (1, 2) ∧
      (u.ptp 0).req = some (d.seq, 3) ∧ d.body = .resp ⟨0, 0⟩) ∧
    (let s := ptpChip 6 {} []; (s.ptpIn 0 wire).1 = true ∧ (s.ptpIn 0 wire).2.portLive ((s.ptpIn 0 wire).2.activePort 0) = true ∧
      (s.ptpIn 0 wire).2.isSealing = false ∧ (s.ptpIn 0 wire).2.ptpP2p 0 = false ∧ (s.ptpIn 0 wire).2.ptpState 0 = 6) ∧
    (let s := ptpChip 9 { req := some (7, 3), peer := some (7, 4, 5) } [(PTP_CFG 0, PTP_CFG_PROFILE, 2)]
      let u := (s.ptpIn 0 wire2).2
      (s.ptpIn 0 wire2).1 = true ∧ u.ptpP2p 0 = true ∧ (u.ptp 0).req = some (7, 3) ∧ (u.ptp 0).peer = some (7, 4, 5) ∧
      (delayMsg wire2 s (.pdelayReq 0)).port = u.portId 0 ∧ u.portLive (u.activePort 0) = true ∧ u.isSealing = false ∧
      u.fld (PTP_CFG 0) PTP_CFG_PROFILE = 2) := by decide +kernel

theorem witness_PulsesAndCaptures :
    ((chip 1).pulsesRun = false ∧ 4 < (chipR 3 [(PUL_CFG 0, PUL_CFG_BASE, 5)]).pulBase 0) ∧
    (let s := chipR 3 [(PUL_CFG 0, PUL_CFG_BASE, 4), (PUL_CFG 0, PUL_CFG_PERIODIC, 1)];
      s.pulsesRun = true ∧ s.pulBase 0 = 4 ∧ s.pulQOk 0 = false ∧ (s.setReg (PUL_PER_NS 0) 102400).pulQOk 0 = true) ∧
    (let s := chipR 3 [(PUL_STAT 0, PUL_STAT_ARMED, 1)]; s.pulBase 0 ≤ 4 ∧ s.pulArmed 0 = true ∧ (s.pulse 0).passed < s.pulPassed 0 ∧
      s.pulOnce 0 = true ∧ s.pulPassed 0 ≠ 0) ∧
    (let s := (chip 3).setPulse 0 { passed := 1, ends := some 9 }; s.pulArmed 0 = false ∧ (s.pulse 0).ends = some 9) ∧ ((chip 3).pulse 0).ends = none ∧
    (let s := chipR 3 [(CAP_CFG 0, CAP_CFG_EN, 1), (CAP_CFG 0, CAP_CFG_EDGE, 3)];
      s.on (CAP_CFG 0) CAP_CFG_EN = true ∧ s.fld (CAP_CFG 0) CAP_CFG_EDGE = 3 ∧ (s.capt 0).fifo.length < 4 ∧ (s.capt 0).last = none ∧ (s.capt 0).fifo = []) ∧
    (let s := (chip 3).setCapt 0 { fifo := List.replicate 4 ⟨true, 0, 0, []⟩, last := some 0 };
      4 ≤ (s.capt 0).fifo.length ∧ (s.capt 0).last = some 0 ∧ ((63 : BitVec 64) - 0).toNat < 64 ∧ ¬ ((64 : BitVec 64) - 0).toNat < 64) ∧
    (chip 3).on (CAP_CFG 0) CAP_CFG_EN = false := by decide +kernel

/-- Ports 0 and 2, of network 0, with power, port 0 with its link. -/
def netChip (r : List (Nat × Fld × Nat)) : State :=
  ((chipR 3 ([(PORT_STAT 0, PORT_STAT_LINK, 1), (NW_CFG 0, NW_CFG_UNTAG, 1)] ++ r)).setDom 0 { on := true, opened := true }).setDom 2
    { on := true, opened := true }

def groupQuery : GroupQuery := { maxResp := 10, group := none }

theorem witness_NetworkLinks :
    (let s := chipR 3 [(PORT_CFG 2, PORT_CFG_EN, 1), (PORT_CFG 2, PORT_CFG_MODE, 1)] |>.setDom 2 { on := true, opened := true };
      (s.dom 2).on = true ∧ s.linkUp 2 = false ∧ s.on (PORT_CFG 2) PORT_CFG_EN = true ∧ s.fld (PORT_CFG 2) PORT_CFG_MODE ≠ 0) ∧
    (let s := netChip [];
      (s.takesFrame 0 ⟨0xFFFFFFFFFFFF, none, 64⟩ true).1 = true ∧ (s.takesFrame 0 ⟨0xFFFFFFFFFFFF, none, 64⟩ false).1 = false ∧
      (s.takesFrame 0 ⟨0x01005E000001, none, 64⟩ false).1 = true ∧ (s.takesFrame 0 ⟨0x333300000001, none, 64⟩ false).1 = true ∧ s.activePort (netOf 0) = 0 ∧
      (2 : Fin 4).val ≠ s.activePort (netOf 2)) ∧
    (let s := (netChip []).setNw 0 { queries := [(false, groupQuery, 5)] }; (s.nw 0).queries = [(false, groupQuery, 5)]) ∧
    (let s := netChip [];
      (s.dom 2).on = true ∧ s.linkUp 2 = false ∧ s.linkUp 0 = true ∧ s.activePort (netOf 0) = 0 ∧ s.portLive 0 = true ∧ s.portLive 2 = false ∧
      s.isSealing = false ∧ (s.nw 0).announce = false ∧ (s.nw 0).queries = [] ∧ s.activePort (netOf 2) ≠ 2) ∧
    ((chip 3).dom 0).on = false ∧ (chip 3).linkUp 0 = false ∧ (chip 3).portLive 0 = false ∧
    (let s := netChip [(PORT_STAT 2, PORT_STAT_LINK, 1), (NW_CFG 0, NW_CFG_STBY, 1)];
      s.portLive 2 = true ∧ s.on (NW_CFG (netOf 0)) NW_CFG_STBY = true ∧ (0 + 2) % 4 = 2) ∧
    (let s := (netChip []).setNw 0 { announce := true, queries := [(false, groupQuery, 5)] };
      (s.nw 0).announce = true ∧ s.portLive (s.activePort 0) = true ∧ (s.nw 0).queries = [(false, groupQuery, 5)]) ∧
    (let s := (netChip []).setReg (NW_IPV4 0) 7; s.reg (NW_IPV4 (netOf 0)) = 7 ∧ (8 : Word) ≠ s.reg (NW_IPV4 (netOf 0)) ∧
      s.portLive 0 = true ∧ s.dropReason 0 (List.replicate 60 0) = some .fcs ∧ (1 : BitVec 128) ≠ s.nwV6 (netOf 0) false ∧ (1 : BitVec 128) ≠ s.nwV6 (netOf 0) true) := by decide +kernel

/-- A GSF packet of one channel with 4 samples, for a flow whose entry is zero but for its networks. -/
def gsf (m : Stroke) : GsfPacket :=
  { mac := 0, dstIp := 0, srcIp := 0, ipv6 := false, dport := 0, sport := 0, vid := none, ver := 1, type := 0, flags := 0, keyid := 0, srcId := 0, flow := 0,
    seq := 0, stroke := m, chm1 := 0, fmt := 0, ntag := 0, blen := 12, samples := [0, 0, 0, 0], tags := [], colophon := ⟨0, 0, 0, 0, 0, 0, 0, 0⟩,
    icv := 0, payload := 68, bytes := 100 }

def rtp : RtpPacket :=
  { mac := 0, dstIp := 0, srcIp := 0, ipv6 := false, dport := 0, sport := 0, vid := none, ssrc := 0, pt := 0, seq := 0, ts := 9, payload := 0, samples := [1, 2], odd := 0, bytes := 100 }

/-- Receive flow 1,024 enabled, of a kind. -/
def rxChip (kind : Nat) (x : RxFlow) : State :=
  (((netChip []).setReg (NET_FLOW_EN 32) 1).setReg (NET_FLOW_TABLE 1024 0) (BitVec.ofNat 32 (2 ^ 30 * kind + 2 ^ 28))).setRxFlow 1024 x

/-- A frame of stroke 0 that waits at port 0 in stroke 1. -/
def oldFrame : State :=
  ((netChip []).withTim { ({} : Timer) with strk := 1 }).setNetPort 0
    { queued := [.gsf { t := 0, stroke := 0, ttl := 0, dscp := 0, pcp := 0, bytes := 0 } (gsf 0)] }

theorem witness_Streams :
    ((rxChip 0 {}).flowEnabled 1024 = true ∧ (rxChip 0 {}).flowEnabled 1023 = false) ∧
    (let s := ((netChip []).setReg (NET_FLOW_EN 31) 0x80000000).setReg (NET_FLOW_TABLE 1023 0) 0x10000000;
      s.rulingRuns = true ∧ s.blotOn = false ∧ s.flowEnabled 1023 = true ∧ s.ftNets 1023 ≠ 0 ∧ s.ftKind 1023 = 0 ∧ s.stateTx 1023 = false) ∧
    (chip 1).rulingRuns = false ∧ (∃ x ∈ (oldFrame.netPort 0).queued, (frameFlow x).any (fun y => decide (y.2 ≠ oldFrame.tim.strk)) = true) ∧
    (chip 3).portLive 0 = false ∧
    (let s := rxChip 0 {}
      let u := s.rxGood 0 100
      (s.takesFrame 0 ⟨0, none, 100⟩ false).1 = true ∧ (s.takesFrame 0 ⟨1, none, 100⟩ false).1 = false ∧ u.vlanOk 0 none = true ∧ (chip 3).vlanOk 0 none = false ∧ u.gsfMatch 0 (gsf 0) = some 1024 ∧
      u.gsfMatch 0 { gsf 0 with srcId := 1 } = none ∧ u.peerRx 1024 = false ∧ u.stateRx 1024 = false ∧ u.formatOk 1024 (gsf 0) = true ∧
      u.formatOk 1024 { gsf 0 with ver := 2 } = false ∧ u.authOk 1024 (gsf 0) = true ∧
      u.authOk 1024 { gsf 0 with flags := 0x80 } = false ∧ u.timing (u.ftJ 1024) 0 = .onTime ∧ u.timing (u.ftJ 1024) 1 = .onTime ∧
      u.timing (u.ftJ 1024) 2 = .early ∧ u.timing (u.ftJ 1024) (0 - 2) = .late ∧ (u.rxFlow 1024).copies = []) ∧
    (let s := rxChip 0 { copies := [{ b1 := false, first := 0, a := some 0, b := none, pkt := gsf 0 }] };
      ((s.rxGood 0 100).rxFlow 1024).copies.find? (fun c => c.pkt.stroke == 0 && (memberOf c.pkt == memberOf (gsf 0))) ≠ none ∧ 1024 ∈ s.rxFlows ∧
      s.ftNets 1024 ≠ 0 ∧ s.ftKind 1024 = 0) ∧
    (let s := rxChip 1 { rtp := [{ ts := 9, x0 := 0, b1 := false, first := 0, a := none, b := none, rows := [] }] }
      let v := s.rxGood 0 100
      v.rtpMatch 0 rtp = some 1024 ∧ rtp.samples.length % v.ftCh 1024 = 0 ∧ (∃ c ∈ (v.rxFlow 1024).rtp, c.ts = rtp.ts)) ∧
    (let v := (rxChip 1 {}).rxGood 0 100
      let at_ := fun (ts : Word) (k : Nat) => v.timing (v.ftJ 1024) (BitVec.ofInt 48 ((nearestGrid ((v.tim.strk.toNat : Int) * v.samples) (ts - v.ft 1024 14) +
        (k : Int)) / (v.samples : Int)))
      rtp.samples.length / v.ftCh 1024 = 2 ∧ rtp.odd = 0 ∧ at_ 5 0 = .onTime ∧ ∀ k < 2, at_ rtp.ts k ≠ .onTime) ∧
    (let v := (rxChip 1 {}).rxGood 0 100; (∀ c ∈ (v.rxFlow 1024).rtp, c.ts ≠ rtp.ts) ∧ v.rtpMatch 0 { rtp with dport := 1 } = none) ∧
    (let v := ((rxChip 1 {}).setReg (NET_FLOW_TABLE 1024 0) 0x50000002).rxGood 0 100; rtp.samples.length % v.ftCh 1024 ≠ 0) ∧
    ((chip 3).inputsWrite = true ∧ (chip 0).inputsWrite = false) := by decide +kernel

/-- A tag for a node with a sequence number. -/
def tagOf (node seq : Nat) : RawTag := { w0 := 0, w1 := 0, w2 := 0, w3 := 0, w4 := BitVec.ofNat 32 seq, w5 := BitVec.ofNat 32 (2 ^ 16 * node) }

/-- A SLU entry that carries the records of quire 3 to the intake window. -/
def intakeEntry : Entry := ⟨0x20000000, 0, 1000, 0x11600000, 0x2070C000, 1, 0xFFFFFFFF, 0xFFFFFFFF⟩

theorem witness_Tags :
    (let s := (chip 3).withStager { seqs := [(0, some 5)] };
      s.tagSeqOk 0 (tagOf 9 5) = false ∧ s.tagSeqOk 0 (tagOf 9 6) = true ∧ tagNode (tagOf 9 6) ≠ 0xFFFF ∧
      tagNode (tagOf 9 6) ≠ bits (s.reg TAG_CFG) 31 16) ∧
    ((ruled 3 [intakeEntry]).entry 0 = some intakeEntry ∧ intakeSource intakeEntry = some 3) := by decide +kernel

theorem witness_Mirror :
    (let s := chipR 3 [(MIR_CFG, MIR_CFG_EN, 1), (MIR_STAT, MIR_STAT_PEER_ELIG, 1)];
      s.mode = 3 ∧ s.member = true ∧ s.on MIR_STAT MIR_STAT_PEER_ELIG = true ∧ 5 ∉ s.mf.decided) ∧ (chip 3).member = false ∧
    (∀ x ∈ [4, 5], let s := chipR 4 [(MIR_CFG, MIR_CFG_EN, 1), (MIR_STAT, MIR_STAT_STATE, x)];
      s.mode = 4 ∧ s.member = true ∧ s.mirState = x ∧ s.mir.next ≠ some 3) ∧
    (let s := (chip 3).withMir { ended := some (7, 1, 2, 0, false) }; s.mir.ended = some (7, 1, 2, 0, false) ∧ s.mir.sending = false) := by decide +kernel
theorem witness_SluiceGates :
    (let s := (chip 3).setDom (domKey (.nib 271)) { on := true }
      let x := s.dom (domKey (.nib 271))
      x.on = true ∧ x.opened = false ∧ x.draining = false) ∧
    (let s := (chip 3).setDom (domKey (.pld 0)) { on := true, draining := true }; (s.dom (domKey (.pld 0))).draining = true ∧ s.undrained (.pld 0) = false ∧
      ((s.setPort (.chip 0) { outs := [{ req := ⟨0, 0x12000000, 1, none, false⟩, tgt := 0, beats := [], dry := false }] }).undrained (.pld 0)) = true) ∧
    ((chip 3).dom (domKey .sap)).on = false ∧ (chip 3).mf.scribeHeld = false ∧ State.reset.mf.scribeHeld = true := by decide +kernel

/-- A read of one beat at an address. -/
def readAt (a : Nat) : FabReq := ⟨0, a, 1, none, false⟩

/-- A transaction of such a read. -/
def readTx (a : Nat) : FabTx := { req := readAt a, tgt := 0, beats := [], dry := false }

theorem witness_FabricTransactions :
    ((chip 3).target 0x0FFFFFF8 = none ∧ (chip 3).target 0x50000000 = none ∧ (chip 3).target 0x04000000 = some (.scribe 0x04000000)) ∧
    ((((chip 3).setPort (.chip 0) { held := [readAt 0] }).port (.chip 0)).held ≠ [] ∧
      16 ≤ (((chip 3).setPort (.chip 0) { outs := List.replicate 16 (readTx 0) }).port (.chip 0)).outs.length) ∧
    (let s := (chip 3).setPort (.chip 0) { outs := List.replicate 15 (readTx 0) };
      (s.port (.chip 0)).held = [] ∧ (s.port (.chip 0)).outs.length < 16 ∧ ∀ y ∈ (s.port (.chip 0)).outs, y.req.id = 0 → y.tgt = targetKey 0x04000000 (.scribe 0x04000000)) ∧
    ((chip 3).dryWhy (.chip 0) false true 0x12000000 (.sram 0x12000000) = some (.gate 0)) ∧
    (let s := (chip 3).setPort (.chip 0) { outs := [readTx 0] };
      (∃ tx, (s.port (.chip 0)).outs = [] ++ tx :: [] ∧ tx.req.id = 0) ∧ s.stalled (.chip 0) = some 0) ∧
    ((chip 3).stalled (.chip 0) = none ∧ ∀ y ∈ ((chip 3).port (.chip 0)).outs, y.req.id ≠ 0) ∧
    (let s := (chipR 3 [(SLU_CH_CFG 0, SLU_CH_CFG_EN, 1), (SLU_CH_STAT 0, SLU_CH_STAT_STATE, 1)]).setChain 0 { fetch := some 0x0FFFFFE0 };
      s.stalled (.pld 0 0) = some 0x0FFFFFE0 ∧ s.portEntry (.pld 0 0) = none ∧ s.chainRuns 0 = true) := by
  refine ⟨by decide +kernel, by decide +kernel, by decide +kernel, by decide +kernel, ⟨⟨_, rfl, by decide +kernel⟩, by decide +kernel⟩, by decide +kernel, by decide +kernel⟩

/-- Chain channel 0 in a mode and a state. -/
def chainChip (m st : Nat) (x : ChainSt) (r : List (Nat × Fld × Nat)) : State :=
  (chipR m ([(SLU_CH_CFG 0, SLU_CH_CFG_EN, 1), (SLU_CH_STAT 0, SLU_CH_STAT_STATE, st)] ++ r)).setChain 0 x

theorem witness_ChainStarts :
    ((chip 3).chainChannel 0 = false ∧ (chainChip 2 0 {} []).chainChannel 0 = true ∧ (chainChip 2 0 {} []).mode = 2 ∧ (chainChip 6 0 {} []).mode = 6) ∧
    ((chainChip 3 1 {} []).sluState 0 = 1 ∧ (chainChip 3 1 {} []).chainRuns 0 = true ∧ (chainChip 3 0 {} []).sluState 0 ≠ 1) ∧
    (let s := chainChip 3 0 {} [(SLU_CH_CFG 0, SLU_CH_CFG_TRIG, 2), (SLU_CH_PERIOD 0, SLU_CH_PERIOD_PERIOD, 0)];
      s.fld (SLU_CH_CFG 0) SLU_CH_CFG_TRIG = 2 ∧ s.tim.strk.toNat % (max 1 (s.fld (SLU_CH_PERIOD 0) SLU_CH_PERIOD_PERIOD)) = 0) ∧
    (let s := chainChip 2 0 {} [(SLU_CH_CFG 0, SLU_CH_CFG_TRIG, 1), (MF_MODE, MF_MODE_TRANS, 2)];
      s.fld (SLU_CH_CFG 0) SLU_CH_CFG_TRIG = 1 ∧ s.firstPoised = true) ∧ (chip 3).firstPoised = false := by decide +kernel

/-- A descriptor that compares 8 bytes, its next at `n`. -/
def desc (n : Nat) (f : Bool) : Desc :=
  { addr := 0x10000000, next := n, src := 0x10001000, dst := 0x10002000, len := 8, chained := false, srel := false, note := true, fin := f, barrier := false, op := 2, fill := 0 }

/-- A chain that runs with polder 0 open. -/
def pldChain (x : ChainSt) : State := (chainChip 3 1 x []).setDom 6 { on := true, opened := true }

theorem witness_Descriptors :
    (let s := pldChain { fetch := some 0x10000000 }
      let ws := (descWords 0 0x10000000 4 0 s).1.getD []
      let u := (descWords 0 0x10000000 4 0 s).2
      let w : Nat → Word64 := fun i => (ws.getD i (0, false)).1
      s.chainRuns 0 = true ∧ (s.chain 0).dry = false ∧ (s.chain 0).fetch = some 0x10000000 ∧ (descWords 0 0x10000000 4 0 s).1 = some ws ∧
      u.chain 0 = s.chain 0 ∧ descBad (descOf 0x10000000 (w 0) (w 1) (w 2) (w 3)) (w 0) (w 1) (w 2) = true) ∧
    (let s := ((((pldChain { fetch := some 0x10000000 }).storeWord 0x10000000 0x1000100010000020 false false).storeWord 0x10000008
        0x0000000810002000 false false).storeWord 0x10000010 0x0000000100000002 false false)
      let ws := (descWords 0 0x10000000 4 0 s).1.getD []
      let w : Nat → Word64 := fun i => (ws.getD i (0, false)).1
      let d := descOf 0x10000000 (w 0) (w 1) (w 2) (w 3)
      descBad d (w 0) (w 1) (w 2) = false ∧ d.next = 0x10000020 ∧ d.fin = false ∧ d.next ≠ 0x10000000 ∧ d.op = 2 ∧
      s.fld (SLU_CH_STAT 0) SLU_CH_STAT_HOPS + 1 < 2 ^ 16) ∧
    (let s := pldChain { desc := some (desc 0x10000000 false) }
      let d := desc 0x10000000 false
      d.op = 2 ∧ (s.sluRead 0 false true (s.descSrc d 0)).1 = .beat ⟨0, false, false, false⟩ ∧
      (s.chain 0).desc = some d ∧ s.chainRuns 0 = true ∧ d.next = d.addr) ∧
    ((desc 0 true).fin = true ∧ (desc 0 true).note = true) ∧
    (let s := chainChip 3 1 { dry := true } []; s.chainRuns 0 = true ∧ (s.chain 0).dry = true) ∧ (chip 3).chainRuns 0 = false ∧
    ((chip 3).chain 0).fetch = none ∧ ((chip 3).chain 0).desc = none := by decide +kernel

/-- A chip whose authority map has one item, the register LANE_ILIM of lane 0. -/
def itemChip : State :=
  ((((chipR 3 [(AUTH_CFG, ⟨12, 0⟩, 1)]).setDom 5 { on := true, opened := true }).storeWord 0x04070000 (BitVec.ofNat 64 (LANE_ILIM 0)) false false).storeWord
    0x04070008 0x0000000080000001 false false)

theorem witness_RegisterAccess :
    (isRegWord 0x20000002 = false ∧ isRegWord (LANE_ILIM 0) = true ∧ (chip 3).gateDry (.chip 0) (LANE_ILIM 0) = some 0) ∧
    (let a := LANE_ILIM 0;
      isRegWord a = true ∧ itemChip.gateDry (.chip 0) a = none ∧ itemChip.isItem a = true ∧ itemChip.actsNow (.chip 0) a = false ∧ a ≠ FAB_CTL 0 ∧
      a ≠ MF_KICK ∧ a ≠ TAG_PEND_ADDR ∧ itemChip.stager.staged.length < 8192 ∧ Port.chip 0 ≠ .chip 1 ∧
      ∃ x ∈ (itemChip.authRead a).1, (itemChip.authRead a).2.permits .chain x = (itemChip.authRead a).2.permits .chain x) ∧
    (itemChip.withStager { itemChip.stager with staged := List.replicate 8192 { path := .chain, target := 0, value := 0, mask := 0, apply := 0, due := 0 } }).stager.staged.length = 8192 ∧
    (isRegWord STK_EVT_STATUS = true ∧ itemChip.gateDry (.chip 0) STK_EVT_STATUS = none ∧ itemChip.actsNow (.chip 0) STK_EVT_STATUS = true ∧
      regAcc STK_EVT_STATUS = some .w1c) ∧
    (regAcc MF_MODE = some .ro ∧ itemChip.actsNow (.chip 0) MF_MODE = true ∧ itemChip.gateDry (.chip 0) MF_MODE = none ∧ wideOf MF_MODE = none ∧
      ∀ k < 8, MF_MODE ≠ CAP_POP k) ∧
    (regAcc (LANE_ILIM_CNT 0) = some .rc ∧ itemChip.gateDry (.chip 0) (LANE_ILIM_CNT 0) = none) ∧
    (wideOf 0x20108000).map Prod.snd = some 0 := by decide +kernel

/-- The boot at a step, in LOAD. -/
def bootChip (b : BootStep) (h : Option FolioHeader) (f : List (Fin 2)) : State :=
  (chip 1).withBoot { (chip 1).boot with step := b, header := h, failed := f }

/-- A header in a flash of 256 MB whose length, FLAGS and revision are as R612 asks; `n` sections. -/
def header (n : Nat) : FolioHeader :=
  { magic := 0x4C4F4647, fmtver := 0x00010000, length := 12384, flags := 0, sections := BitVec.ofNat 32 n, fwmin := 0, serial := 0,
    reserved := [], cdigest := 0, signer := 0, wrapIv := 0, wrapKey := 0, wrapTag := 0 }

def bigFlash (s : State) : State := s.setFld BOOT_FLASH BOOT_FLASH_LOG2SIZE 28

/-- A register-load section at 0x1000 that loads MF_CFG with 1. -/
def oneSection : FolioSection := { w0 := 1, offset := 0x1000, stored := 8, plain := 8, iv := 0, body := .regs [(BitVec.ofNat 32 MF_CFG, 1)] }

/-- A full ruling of one IDLE entry. -/
def idleRuling : Ruling := ⟨65536, 0, 0, 0, 0, [idleEntry]⟩

/-- A section with the full ruling, of one IDLE entry. -/
def emptyRuling : FolioSection := { w0 := 0x20005, offset := 0x2000, stored := 68, plain := 52, iv := 1#96 <<< 32, body := .rulings [idleRuling] }

/-- The boot at VALIDATE with those sections, and a header of `n` sections. -/
def validating (n : Nat) : State :=
  let s := bigFlash (bootChip (.validate 0) (some (header n)) [])
  (s.withBoot { s.boot with sections := [oneSection, emptyRuling] }).withRul { s.rul with rulings := [idleRuling] }

/-- The header with a WRAPKEY whose tag verifies under a zero device key. -/
def wrapped : FolioHeader := { header 1 with wrapTag := Config.gcmTag 0 0 (headerAad (header 1)) (beBytes 32 0) }

/-- An OTP that knows its signer. -/
def signed : State :=
  let s := bigFlash (bootChip (.pass1 0) none [])
  let o : Otp := { s.sec.otpA with programmed := 1, signers := [Config.sha384 (beBytes 96 wrapped.signer.toNat)], root := 0 }
  s.withSec { s.sec with otpA := o, otpB := o }

/-- A section of the flash that no key hides, and its plaintext. -/
def storedOne : StoredSection := { w0 := 1, offset := 0x1000, stored := 8, plain := 8, iv := 0, data := [1, 0, 0, 0, 2, 0, 0, 0] }

/-- The same hidden by a key. -/
def storedHidden : StoredSection := { w0 := 0x20001, offset := 0x1000, stored := 24, plain := 8, iv := 0, data := [1, 0, 0, 0, 2, 0, 0, 0] }

/-- A header is accepted where its signature verifies, and refused with CODE 3 below FWMIN; a CDIGEST that agrees and one that does
not; a folio that the checks refuse. A folio that every check accepts has an authority map of every item (R393) and is not written
out here. -/
theorem witness_BootSteps :
    (State.reset.sec.otpA = State.reset.sec.otpB) ∧
    (∀ b ∈ [BootStep.flashInit, .pass1 0, .pass1 1, .pass2 1, .validate 0], let s := bigFlash (bootChip b (some (header 1)) [0]);
      s.mode = 1 ∧ s.scribeActs = true ∧ s.boot.step = b ∧ s.boot.header = some (header 1) ∧ s.sec.otpA = s.sec.otpB) ∧
    (Config.ecdsaVerify 0 0 0 = true → signed.headerCode wrapped 0 0 = none) ∧
    (bigFlash (bootChip (.pass1 0) none [])).headerCode { header 1 with fwmin := 1 } 0 0 = some 3 ∧
    ((1 - 1 : Fin 2) ∈ (bootChip (.pass1 1) none [0]).boot.failed ∧ (1 - 0 : Fin 2) ∉ (bootChip (.pass1 0) none []).boot.failed) ∧
    readSections 0 [storedOne] = .inr [⟨1, 0x1000, 8, 8, 0, .regs [(1, 2)]⟩] ∧
    (Config.gcmTag 0 0 (chunkAad storedHidden 0) storedHidden.data ≠ 0 →
      readSections 0 [storedHidden] = .inl 0) ∧
    (∃ h : FolioHeader, Config.sha384 (commonPart 0 [storedOne]) = h.cdigest) ∧
    (∃ h : FolioHeader, Config.sha384 (commonPart 0 [storedOne]) ≠ h.cdigest) ∧
    (validating 2).validate (header 2) = some (11, 0xFF) ∧ (chip 3).mode ≠ 1 := by
  refine ⟨by decide, by decide +kernel, fun v => ?_, by decide +kernel, by decide +kernel, by decide +kernel, fun v => ?_,
    ⟨{ header 1 with cdigest := _ }, rfl⟩, ⟨{ header 1 with cdigest := Config.sha384 (commonPart 0 [storedOne]) + 1 }, ?_⟩, by decide +kernel, by decide⟩
  · have k : ¬ signed.signerSlot wrapped = none := fun h =>
      List.find?_eq_none.mp h 0 (by simp) (Bool.and_eq_true_iff.mpr ⟨by decide +kernel, decide_eq_true rfl⟩)
    have f : ¬ folioKey wrapped signed.sec.otpA.root = none := fun e => by
      rw [folioKey, if_pos (show wrapped.wrapTag = Config.gcmTag signed.sec.otpA.root wrapped.wrapIv (headerAad wrapped) (beBytes 32 wrapped.wrapKey.toNat) from rfl)] at e
      cases e
    unfold State.headerCode
    rw [if_neg, if_neg, if_neg k, if_neg, if_neg f]
    · exact fun e => Bool.noConfusion (e.symm.trans v)
    · decide +kernel
    · decide +kernel
  · have c : openChunk 0 storedHidden 0 = none := if_neg fun e => v (e.symm.trans (by decide))
    have l : (List.range ((storedHidden.plain.toNat + 4095) / 4096)).map (openChunk 0 storedHidden) = [none] := congrArg (fun x => [x]) c
    have r : readSection 0 storedHidden = none := by
      unfold readSection openSection
      rw [if_pos (by decide), l]; rfl
    unfold readSections
    rw [List.map_cons, List.map_nil, r]; rfl
  · simp

/-- A loaded folio in slot 0, with an image read that has failed once. -/
def loadedChip (m : Nat) (l : List ImageAction) : State :=
  bigFlash ((chip m).withBoot { (chip m).boot with step := .loaded 0, retries := l })

theorem witness_FlashAndImageReads :
    ((chipR 3 [(BOOT_FL_STAT, BOOT_FL_STAT_STATE, 1)]).fld BOOT_FL_STAT BOOT_FL_STAT_STATE = 1) ∧
    ((loadedChip 3 []).slotOf 0x7FFFFFF = some 0 ∧ (loadedChip 3 []).slotOf 0x8000000 = some 1 ∧ (loadedChip 3 []).boot.step = .loaded 0) ∧
    (let s := (loadedChip 6 []).setReg BOOT_FL_ADDR 0x8000000;
      s.fld BOOT_FL_STAT BOOT_FL_STAT_STATE ≠ 1 ∧ s.slotOf (s.reg BOOT_FL_ADDR).toNat = some 1 ∧ s.mode = 6 ∧ s.mf.blotted = false ∧ (s.reg BOOT_FL_ADDR).toNat % 256 = 0) ∧
    ((bootChip .failed none [0, 1]).mode = 1 ∧ (bootChip .failed none [0, 1]).boot.step = .failed) ∧
    (((chip 3).withBoot { (chip 3).boot with op := some (.erase 65536) }).boot.op = some (.erase 65536) ∧ (chip 3).boot.op = none ∧
      ((chip 3).withBoot { (chip 3).boot with op := some (.program 256 (List.replicate 64 0)) }).boot.op = some (.program 256 (List.replicate 64 0))) ∧
    ((chip 3).scribeActs = true ∧ (chip 3).mode ≠ 0 ∧ (chip 0).mode = 0 ∧ State.reset.scribeActs = false) ∧
    (∀ y ∈ [ImageAction.inkRow 0 16383, .element 3 511, .map 0x04068000, .reduced], y ∈ (loadedChip 3 [y]).boot.retries ∧ y ∉ (loadedChip 3 []).boot.retries ∧
      (loadedChip 3 [y]).scribeActs = true) ∧
    (let s := (loadedChip 3 []).setMark 0x04068000 { poison := true }; inScribeMap 0x04068004 = true ∧ (s.peek (0x04068004 / 8 * 8)).psn = true) ∧
    ((loadedChip 3 []).rul.chosen = none ∧ (loadedChip 3 []).isOpen 6 = false ∧ inScribeMap 0 = false) := by decide +kernel

/-- A chip of the chain at address 2 whose frames are aligned or not. -/
def chainAt (al : Nat) (x : Mch) : State :=
  ((chipR 3 [(MCH_STAT, MCH_STAT_FALIGN, al), (MCH_STAT, MCH_STAT_ADDR, 2)]).withMch x)

/-- A frame to address 2. -/
def frame (b : Nat) : MchFrame := ⟨1, 5, BitVec.ofNat 8 b, 0, 0x20108000, 0, 0xFFFFFFFF⟩

theorem witness_ChainFrames :
    ((chainAt 1 {}).mf.power = true ∧ (chainAt 1 {}).mf.inReset = false ∧ State.reset.mf.power = false) ∧
    ((chainAt 1 {}).on MCH_STAT MCH_STAT_FALIGN = true ∧ (chainAt 0 {}).on MCH_STAT MCH_STAT_FALIGN = false) ∧
    (let mine := fun f : MchFrame => bitOf f.byte2 6 = false ∧ f.byte2.toNat % 64 ≠ 0 ∧ f.byte2.toNat % 64 = (chainAt 1 {}).fld MCH_STAT MCH_STAT_ADDR;
      mine (frame 2) ∧ ¬ mine (frame 3) ∧ ¬ mine (frame 0x42)) ∧
    ((chainAt 1 {}).mch.run.length + (chainAt 1 {}).mch.resp.length < 16 ∧ ¬ (chainAt 1 { resp := List.replicate 16 (frame 0) }).mch.resp.length < 16) ∧
    (let v := (chainAt 1 {}).mchSeen.send emptyFrame;
      v.mchTurned (frame 2) = none ∧ v.mchTurned { frame 2 with address := 2 } = some mchFormat ∧ v.mchStuck = false ∧
      v.mchTurned { frame 2 with type := 2, address := 0x20108001 } = some mchFormat ∧ v.mchTurned { frame 2 with type := 2 } = none) ∧
    ((chainAt 1 {}).on MCH_STAT MCH_STAT_HEAD = false ∧ (chipR 3 [(MCH_STAT, MCH_STAT_HEAD, 1)]).on MCH_STAT MCH_STAT_HEAD = true) ∧
    (1 ≤ (1 : BitVec 8).toNat % 128 ∧ (63 : BitVec 8).toNat % 128 ≤ 63 ∧ (0 : BitVec 8).toNat % 128 = 0 ∧ 64 ≤ (64 : BitVec 8).toNat % 128) ∧
    ((chainAt 1 {}).mch.resp = [] ∧ (chainAt 1 { resp := [frame 0] }).mch.resp = frame 0 :: [] ∧ (chainAt 1 {}).mch.seen = false ∧
      (chainAt 1 { seen := true }).mch.seen = true ∧ (chainAt 1 {}).mch.run = []) ∧
    (let g : MchCmd := { fr := frame 2, res := some (0, 7) }; (chainAt 1 { run := [g] }).mch.run = g :: [] ∧ g.res = some (0, 7)) ∧
    (let g : MchCmd := { fr := frame 2 }; (chainAt 1 { run := [g] }).mch.run = g :: [] ∧ g.res = none) := by decide +kernel

theorem witness_BreachPort :
    (chip 3).sec.otpA = (chip 3).sec.otpB ∧ (0xFF : BitVec 8) ∉ tapCodes ∧
    ((chipR 3 [(SEC_STAT, SEC_STAT_GRANTED, 1)]).on SEC_STAT SEC_STAT_GRANTED = true ∧ (chip 3).on SEC_STAT SEC_STAT_GRANTED = false) ∧
    ((chipR 3 [(SEC_STAT, SEC_STAT_BLOT, 1)]).fld SEC_STAT SEC_STAT_BLOT ≠ 0 ∧ (chip 3).fld SEC_STAT SEC_STAT_BLOT = 0) ∧
    ((chip 0).mode = 0 ∧ (chip 7).mode = 7 ∧ (chip 3).mode = 3 ∧ (chip 3).sec.verifying = none ∧ (chip 3).sec.chal = none ∧
      (chipR 3 [(SEC_STAT, SEC_STAT_LOCKED, 1)]).on SEC_STAT SEC_STAT_LOCKED = true ∧ (chip 3).on SEC_STAT SEC_STAT_LOCKED = false) ∧
    (let s := (chip 3).withSec { (chip 3).sec with chal := some 7, attempts := 2 }; s.sec.chal = some 7 ∧ 2 ≤ s.sec.attempts ∧ s.sec.otpA = s.sec.otpB) ∧
    (let s := (chip 3).withSec { (chip 3).sec with verifying := some ([], 7) }; s.sec.verifying = some ([], 7) ∧ s.scribeActs = true ∧ s.mode ≠ 0 ∧ s.answers [] 7 = false) ∧
    State.reset.scribeActs = false := by
  refine ⟨by decide +kernel, by decide +kernel, by decide +kernel, by decide +kernel, by decide +kernel, by decide +kernel, ?_, by decide +kernel⟩
  exact ⟨rfl, by decide +kernel, by decide +kernel, by simp [State.answers]⟩

/-- A response whose signature verifies is accepted where the OTP holds the hash of its key. -/
theorem witness_BreachAnswer :
    let l : List Word := List.replicate 48 0
    let s := (chip 3).withSec { (chip 3).sec with otpA := { (chip 3).sec.otpA with svc := Config.sha384 (beBytes 96 (respNum l 0 24)) } }
    Config.ecdsaVerify (BitVec.ofNat 768 (respNum l 0 24)) (Config.sha384 (beBytes 48 (7 : BitVec 384).toNat)) (BitVec.ofNat 768 (respNum l 24 48)) = true →
      s.answers l 7 = true := by
  intro l s h
  have e : s.sec.otpA.svc = Config.sha384 (beBytes 96 (respNum l 0 24)) := rfl
  simp only [State.answers, e, decide_true, Bool.and_true, h, show l.length = 48 from List.length_replicate]

/-- A chip whose lid is enabled. -/
def lidChip (m b c : Nat) : State :=
  let s := chipR m [(SEC_STAT, SEC_STAT_BLOT, b), (SEC_STAT, SEC_STAT_CAUSE, c)]
  s.withSec { s.sec with otpA := { s.sec.otpA with lidEn := true }, otpB := { s.sec.otpB with lidEn := true } }

theorem witness_BlotAndRoot :
    (State.reset.mf.power = false ∧ (chip 3).mf.power = true ∧ (chip 3).sec.otpA.lidEn = false) ∧
    ((lidChip 3 0 0).sec.otpA = (lidChip 3 0 0).sec.otpB ∧ (lidChip 3 0 0).sec.otpA.lidEn = true ∧ (lidChip 3 0 0).fld SEC_STAT SEC_STAT_BLOT = 0 ∧
      (lidChip 3 0 0).mode ≠ 7 ∧ (lidChip 3 0 0).mode ≠ 0) ∧
    ((lidChip 6 2 1).fld SEC_STAT SEC_STAT_BLOT ≠ 0 ∧ (lidChip 7 0 0).mode = 7) ∧
    ((lidChip 0 1 1).fld SEC_STAT SEC_STAT_BLOT = 1 ∧ (lidChip 0 1 1).fld SEC_STAT SEC_STAT_CAUSE = 1 ∧ (lidChip 0 1 1).on MF_FAULT MF_FAULT_GRAVE = false ∧
      (lidChip 0 1 1).mf.root = true ∧ (lidChip 0 1 1).mode = 0) ∧
    ((chipR 3 [(SEC_STAT, SEC_STAT_BLOT, 1), (MF_FAULT, MF_FAULT_GRAVE, 1)]).on MF_FAULT MF_FAULT_GRAVE = true) ∧
    ((chip 3).mf.root = true ∧ (chip 7).mode = 7 ∧ State.reset.mf.root = false) := by decide +kernel

/-- A chip whose voltage adapts: the lowest margin read will be 10. -/
def fbChip (vdd target lower good : Nat) (st : Nat) : State :=
  let s := (chip 3).setDom 6 { on := true }
  let s := [(FB_CTL, FB_CTL_EN, 1), (FB_CTL, FB_CTL_LOWER, lower), (FB_STAT, FB_STAT_STATE, st), (FB_MARGIN, FB_MARGIN_TARGET, target),
    (FB_MARGIN, FB_MARGIN_HYST, 0), (FB_VDD, FB_VDD_REQ, vdd), (FB_VLIM, FB_VLIM_VMAX, 850), (FB_VLIM, FB_VLIM_VMIN, 700)].foldl (fun (s : State) (e : Nat × Fld × Nat) => s.setFld e.1 e.2.1 e.2.2) s
  s.withFb { s.fb with reading := true, good := good }

/-- A gauge whose canaries give its margin. -/
def gaugeRead : GaugeRead := ⟨4, [10], 25, 1280, 1280⟩

theorem addLife_reg (s : State) (a : Nat) (h : a ≠ FB_LIFE_LO) (g : a ≠ FB_LIFE_HI) : s.addLife.reg a = s.reg a := by
  simp only [State.addLife, State.reg_withFb]
  rw [State.reg_setReg_ne _ _ g, State.reg_setReg_ne _ _ h]

theorem addLife_validGauges (s : State) : s.addLife.validGauges = s.validGauges := by
  have e : s.addLife.doms = s.doms := by simp [State.addLife]
  refine List.filter_congr fun g hg => ?_
  have l : g < 32 := List.mem_range.mp hg
  have r : ∀ k < 32, GA_STAT k ≠ FB_LIFE_LO ∧ GA_STAT k ≠ FB_LIFE_HI := by decide
  simp only [State.gaugeOn, State.dom, State.on, e, addLife_reg s _ (r g l).1 (r g l).2]

/-- The state after a read set of that gauge, before the life that it adds. -/
def fbRead (s : State) : State := (s.withFb { s.fb with reading := false }).gaugesStore [gaugeRead]

theorem fbRead_fmin (s : State) (h : (fbRead s).fld FB_STAT FB_STAT_FMIN = 10) : (fbRead s).addLife.fld FB_STAT FB_STAT_FMIN = 10 := by
  rw [← h]; simp only [State.fld]; rw [addLife_reg _ _ (by decide) (by decide)]

theorem fbRead_valid (s : State) (h : (fbRead s).validGauges = [4]) : (fbRead s).addLife.validGauges ≠ [] := by
  rw [addLife_validGauges, h]; decide

/-- Just below VMAX, at VMAX, just above VMIN; a fault; adaptation off; no gauge that counts. -/
theorem witness_Freeboard :
    (∀ x ∈ [(849, 255, 0, 0), (850, 255, 0, 0), (701, 0, 1, 9)], let s := fbChip x.1 x.2.1 x.2.2.1 x.2.2.2 1;
      s.fb.reading = true ∧ s.scribeActs = true ∧ s.on FB_CTL FB_CTL_EN = true ∧ s.fld FB_STAT FB_STAT_STATE ≠ 3) ∧
    ((fbRead (fbChip 849 255 0 0 1)).addLife.validGauges ≠ [] ∧ (fbRead (fbChip 849 255 0 0 1)).addLife.fld FB_STAT FB_STAT_FMIN = 10 ∧
      (fbRead (fbChip 850 255 0 0 1)).addLife.fld FB_STAT FB_STAT_FMIN = 10 ∧ (fbRead (fbChip 701 0 1 9 1)).addLife.fld FB_STAT FB_STAT_FMIN = 10) ∧
    (10 < (fbChip 849 255 0 0 1).fld FB_MARGIN FB_MARGIN_TARGET ∧ (fbChip 849 255 0 0 1).fld FB_VDD FB_VDD_REQ = 849 ∧
      (fbChip 849 255 0 0 1).fld FB_VLIM FB_VLIM_VMAX = 850 ∧ (fbChip 850 255 0 0 1).fld FB_VDD FB_VDD_REQ = 850) ∧
    (let s := fbChip 701 0 1 9 1;
      s.fld FB_MARGIN FB_MARGIN_TARGET + s.fld FB_MARGIN FB_MARGIN_HYST ≤ 10 ∧ s.on FB_CTL FB_CTL_LOWER = true ∧ 9 ≤ s.fb.good ∧
      s.fld FB_VLIM FB_VLIM_VMIN < s.fld FB_VDD FB_VDD_REQ) ∧
    ((fbChip 800 0 0 0 3).fld FB_STAT FB_STAT_STATE = 3 ∧ (fbRead (fbChip 800 0 0 0 3)).addLife.validGauges ≠ [] ∧
      ((chip 3).gaugesStore []).addLife.validGauges = [] ∧ (chipR 3 [(FB_CTL, FB_CTL_EN, 0)]).on FB_CTL FB_CTL_EN = false ∧ (chip 3).fb.reading = false) ∧
    (let s := (chip 3).withFb { (chip 3).fb with step := some .lower, slots := [0] };
      s.fb.step = some .lower ∧ s.scribeActs = true ∧ s.fb.slots ≠ [] ∧ s.fb.ledger.length < 2048) ∧
    ((810 : BitVec 16).toNat ≤ 800 + 10 ∧ 800 ≤ (790 : BitVec 16).toNat + 10 ∧ ¬ (811 : BitVec 16).toNat ≤ 800 + 10) ∧
    ((chip 3).fb.step = none ∧ (chip 3).fb.slots = [] ∧ (chip 0).mode = 0 ∧ (chip 7).mode = 7 ∧ (chip 3).mode ≠ 0 ∧ (chip 3).mode ≠ 7) :=
  ⟨by decide +kernel, ⟨fbRead_valid _ (by decide +kernel), fbRead_fmin _ (by decide +kernel), fbRead_fmin _ (by decide +kernel),
      fbRead_fmin _ (by decide +kernel)⟩, by decide +kernel, by decide +kernel,
    ⟨by decide +kernel, fbRead_valid _ (by decide +kernel), by rw [addLife_validGauges]; decide +kernel, by decide +kernel, by decide +kernel⟩,
    by decide +kernel, by decide +kernel, by decide +kernel⟩

theorem witness_StepRunsFrontCommand : ({ chip 3 with pending := [.run, .poise] } : State).pending = .run :: [.poise] := rfl

theorem witness_InvariantKept : Machine.Inv ({ chip 3 with pending := [.run] } : State) ∧ step { chip 3 with pending := [.run] } = .next (chip 3) :=
  ⟨by unfold Machine.Inv; decide +kernel, rfl⟩

theorem witness_EveryCommandCompletes : ∀ w, Instr.run ≠ .resetNAssert w := by intro w h; cases h

theorem witness_NibEncodeDecode : nibOf (.add 5 true 3 1 2) = some 5 ∧ (Instr.add 5 true 3 1 2).wf = true ∧ nibDecode 5 0x08430420 = some (.add 5 true 3 1 2) := by
  decide +kernel
end Sys2Proof.Tests
end

/-! SUPPORT. Conditions, the sequencer, and what the control instructions of the nib do: branches, repeat, NOP and FENCE
(spec/04_nib_instruction_set.md, R136, R150 to R152). -/

namespace Sys2Proof.Machine

/-! ### Condition codes (R136) -/

/-- AL tests nothing. -/
theorem condTrap_always (fl : BitVec 16) : condTrap 14 fl = none := rfl

/-- A code below AL tests FL, and meets its poison bit (R109). -/
theorem condTrap_tested {c : BitVec 4} (h : c.toNat < 14) (fl : BitVec 16) :
    condTrap c fl = if fl.getLsbD 9 then some trapPoison else none := by
  have h15 : c ≠ 15#4 := by rintro rfl; simp at h
  have h14 : c ≠ 14#4 := by rintro rfl; simp at h
  simp [condTrap, h15, h14, flFP, bitOf]

/-- Settles O2: the table of `condTrue` is read off code by code, and the trap is `condTrap_tested`. -/
theorem conditionCodes : Obligations.ConditionCodes := by
  unfold Obligations.ConditionCodes
  intro fl z n c v
  have unset (b : Bool) : (!b) = true ↔ b = false := by simp
  exact ⟨Iff.rfl, unset z, Iff.rfl, unset c, Iff.rfl, unset n, Iff.rfl, unset v,
    show (c && !z) = true ↔ c = true ∧ z = false by simp,
    show (!c || z) = true ↔ c = false ∨ z = true by simp,
    show (n == v) = true ↔ n = v by simp,
    show (n != v) = true ↔ n ≠ v by simp,
    show (!z && n == v) = true ↔ z = false ∧ n = v by simp,
    show (z || n != v) = true ↔ z = true ∨ n ≠ v by simp,
    rfl, condTrap_always fl, rfl, fun _ hk => condTrap_tested hk fl⟩

/-! ### One nib changed -/

/-- A write of one nib touches nothing else. -/
theorem OnlyNib.setNib (n : Nat) (x : Nib) (s : State) : OnlyNib n s (s.setNib n x) :=
  ⟨rfl, fun _ h => State.nib_setNib_ne s x h⟩

/-- A further write of the same nib touches nothing else either. -/
theorem OnlyNib.then_setNib {n : Nat} {s t : State} (h : OnlyNib n s t) (x : Nib) : OnlyNib n s (t.setNib n x) :=
  ⟨h.1, fun m hm => (State.nib_setNib_ne t x hm).trans (h.2 m hm)⟩

/-! ### The banks of a nib -/

/-- A write of one bank leaves the other alone. -/
theorem Nib.bk_setBk_other (x : Nib) (b : Bool) (k : Bank) : (x.setBk b k).bk (!b) = x.bk (!b) := by cases b <;> rfl

/-- A write of the selected bank is read back from it. -/
theorem Nib.cur_setBk {x : Nib} {b : Bool} (k : Bank) (hb : x.bank = b) : (x.setBk b k).cur = k := by
  subst hb
  unfold Nib.setBk Nib.cur Nib.bk
  cases x.bank <;> rfl

/-- Writing back what a bank holds changes nothing. -/
theorem Nib.setBk_bk (x : Nib) (b : Bool) : x.setBk b (x.bk b) = x := by cases b <;> rfl

/-- A bank is written and the rest of the nib stays. -/
theorem Nib.setBk_eq (x : Nib) (b : Bool) (k : Bank) :
    x.setBk b k = { x with prim := (x.setBk b k).prim, shad := (x.setBk b k).shad } := by cases b <;> rfl

/-! ### The next address (R110, R151, R152) -/

section
variable {x : Nib}

/-- Outside a repeat and past any delay slot the next address is one on. -/
theorem Nib.next_in_order (hr : x.cur.repAt = none) (hs : x.slots = 0) : x.next = { x with pc := x.pc + 1 } := by
  simp [Nib.next, hr, hs]

/-- The first delay slot leaves the second to issue. -/
theorem Nib.next_of_more_slots (hr : x.cur.repAt = none) (hs : 2 ≤ x.slots) :
    x.next = { x with pc := x.pc + 1, slots := x.slots - 1 } := by
  simp [Nib.next, hr, show x.slots ≠ 0 by omega, show x.slots ≠ 1 by omega]

/-- After the last delay slot the branch goes to its target, or on. -/
theorem Nib.next_of_last_slot (hr : x.cur.repAt = none) (hs : x.slots = 1) :
    x.next = { x with pc := x.target.getD (x.pc + 1), slots := 0, target := none } := by
  simp [Nib.next, hr, hs]

/-- A repeat with iterations left issues the same instruction again. -/
theorem Nib.next_of_repeat (hr : x.cur.repAt ≠ none) (hc : 2 ≤ x.cur.repc.toNat) :
    x.next = x.setBk x.bank { x.cur with repc := x.cur.repc - 1 } := by
  obtain ⟨a, ha⟩ := Option.ne_none_iff_exists'.mp hr
  simp [Nib.next, ha, show ¬ x.cur.repc.toNat ≤ 1 by omega]

/-- The last iteration of a repeat ends it. -/
theorem Nib.next_of_repeat_done (hr : x.cur.repAt ≠ none) (hc : x.cur.repc.toNat ≤ 1) :
    x.next = { x.setBk x.bank { x.cur with repc := 0, repAt := none } with pc := x.pc + 1, held := none } := by
  obtain ⟨a, ha⟩ := Option.ne_none_iff_exists'.mp hr
  simp [Nib.next, ha, hc]

end

/-- All that the sequencing may change: the selected bank, the address, the delay slots and the word held. -/
theorem Nib.next_eq (x : Nib) :
    ∃ k p l t w, x.next = { x.setBk x.bank k with pc := p, slots := l, target := t, held := w } := by
  by_cases hr : x.cur.repAt = none
  · refine ⟨x.cur, x.next.pc, x.next.slots, x.next.target, x.held, ?_⟩
    rw [show x.setBk x.bank x.cur = x from x.setBk_bk x.bank]
    obtain hs | hs | hs : x.slots = 0 ∨ x.slots = 1 ∨ 2 ≤ x.slots := by omega
    · rw [Nib.next_in_order hr hs]
    · rw [Nib.next_of_last_slot hr hs]
    · rw [Nib.next_of_more_slots hr hs]
  · obtain hc | hc : x.cur.repc.toNat ≤ 1 ∨ 2 ≤ x.cur.repc.toNat := by omega
    · exact ⟨_, _, _, _, _, Nib.next_of_repeat_done hr hc⟩
    · exact ⟨_, _, _, _, _, Nib.next_of_repeat hr hc⟩

/-- What the sequencing keeps. -/
theorem Nib.next_frame (x : Nib) :
    x.next.flight = x.flight ∧ x.next.bank = x.bank ∧ x.next.bk (!x.bank) = x.bk (!x.bank) ∧
    x.next.imask = x.imask ∧ x.next.irq = x.irq ∧ x.next.ac = x.ac ∧ x.next.acx = x.acx ∧ x.next.bexp = x.bexp ∧
    x.next.epc = x.epc ∧ x.next.loads = x.loads ∧ x.next.posted = x.posted := by
  obtain ⟨k, p, l, t, w, e⟩ := x.next_eq
  rw [e, Nib.setBk_eq]
  exact ⟨rfl, rfl, Nib.bk_setBk_other x x.bank k, rfl, rfl, rfl, rfl, rfl, rfl, rfl, rfl⟩

/-! ### Branches and the results they send (R151, R158) -/

/-- An S register result on its way, in the terms of the claims. -/
theorem Nib.launchReg_eq (x : Nib) (l : Nat) (r : BitVec 6) (v : PVal) :
    x.launchReg l (l + 1) r v = { x with flight := x.flight ++ regResult x.bank l r v } := by
  simp [Nib.launchReg, Nib.launch, regResult]

/-- The instruction is a branch: it acts on nib `n` alone, sends the results `f` on their way, and two delay slots come
before the address `tgt`, or before the next address in order where there is none. -/
def Branches (n : NibId) (f : List (Nat × Landing)) (tgt : Option (BitVec 13)) (s1 t : State) : Prop :=
  OnlyNib n s1 t ∧
    t.nib n = { s1.nib n with flight := (s1.nib n).flight ++ f, pc := (s1.nib n).pc + 1, slots := 2, target := tgt }

section
variable {n : NibId} {s s1 : State}

/-- An instruction that has sent its results and closes as a branch. -/
theorem State.settle_branch {u : State} (f : List (Nat × Landing)) (tgt : Option (BitVec 13)) (hu : OnlyNib n s1 u)
    (hx : u.nib n = { s1.nib n with flight := (s1.nib n).flight ++ f }) :
    Branches n f tgt s1 (s.settle n (.branch u tgt)) :=
  ⟨hu.then_setNib _, by simp [State.settle, hx]⟩

/-- An instruction that changes nothing and goes on in order. -/
theorem State.settle_ok_unchanged : Sends n [] id s1 (s.settle n (.ok s1)) :=
  ⟨OnlyNib.setNib .., by simp [State.settle]⟩

/-- A repeat begins at the next address, in the selected bank. -/
theorem State.nib_settle_repeated (u : State) (k : Nat) : (s.settle n (.repeated u k)).nib n =
    { u.nib n with pc := (u.nib n).pc + 1, held := none }.setBk (u.nib n).bank
      { (u.nib n).cur with repc := BitVec.ofNat 13 k, repAt := some ((u.nib n).pc + 1) } :=
  State.nib_setNib_same ..

/-! ### The control instructions, fetched (R150, R151) -/

/-- BR branches to its target when its condition holds. -/
theorem exec_br_of_condTrap_none {c : BitVec 4} {target : BitVec 13} (hs : (s1.nib n).slots = 0)
    (hc : condTrap c (s1.nib n).cur.fl = none) (h : Fetches n (.br n c target) s s1) :
    ∃ t, exec (.br n c target) s = .next t ∧
      Branches n [] (if condTrue c (s1.nib n).cur.fl then some target else none) s1 t := by
  refine ⟨_, congrArg Host.Outcome.next (State.issue_fetched_slotless h hs _), ?_⟩
  rw [hc]
  exact State.settle_branch [] _ ⟨rfl, fun _ _ => rfl⟩ (by simp)

/-- BR that may not test its flags traps. -/
theorem exec_br_of_condTrap_some {c : BitVec 4} {target : BitVec 13} {k : Nat} (hs : (s1.nib n).slots = 0)
    (hc : condTrap c (s1.nib n).cur.fl = some k) (h : Fetches n (.br n c target) s s1) :
    exec (.br n c target) s = .next (s1.trap n k) := by
  refine (congrArg Host.Outcome.next (State.issue_fetched_slotless h hs _)).trans ?_
  rw [hc, State.settle_trap]

/-- BDNZ counts Dk down and branches unless that leaves 0. -/
theorem exec_bdnz_of_clean {dk : BitVec 5} {target : BitVec 13} (hs : (s1.nib n).slots = 0)
    (hp : ((s1.nib n).rd dk).psn = false) (h : Fetches n (.bdnz n dk target) s s1) :
    ∃ t, exec (.bdnz n dk target) s = .next t ∧
      Branches n (regResult (s1.nib n).bank 1 (dk.setWidth 6) ⟨((s1.nib n).rd dk).v - 1, false⟩)
        (if ((s1.nib n).rd dk).v = 1 then none else some target) s1 t := by
  have hz : ((s1.nib n).rd dk).v - 1 = 0 ↔ ((s1.nib n).rd dk).v = 1 := sub_eq_zero
  refine ⟨_, congrArg Host.Outcome.next (State.issue_fetched_slotless h hs _), ?_⟩
  simp only [hp, Bool.false_eq_true, if_false, hz]
  exact State.settle_branch _ _ (OnlyNib.setNib ..) ((State.nib_setNib_same ..).trans (Nib.launchReg_eq ..))

/-- BDNZ of a poisoned Dk traps (R152). -/
theorem exec_bdnz_of_poison {dk : BitVec 5} {target : BitVec 13} (hs : (s1.nib n).slots = 0)
    (hp : ((s1.nib n).rd dk).psn = true) (h : Fetches n (.bdnz n dk target) s s1) :
    exec (.bdnz n dk target) s = .next (s1.trap n trapPoison) := by
  refine (congrArg Host.Outcome.next (State.issue_fetched_slotless h hs _)).trans ?_
  rw [if_pos hp, State.settle_trap]

/-- REP sets the selected bank to repeat the next instruction. -/
theorem exec_rep {count1 : BitVec 12} (hs : (s1.nib n).slots = 0) (h : Fetches n (.rep n count1) s s1) :
    ∃ t, exec (.rep n count1) s = .next t ∧ OnlyNib n s1 t ∧ (t.nib n).pc = (s1.nib n).pc + 1 ∧
      (t.nib n).cur =
        { (s1.nib n).cur with repc := BitVec.ofNat 13 (count1.toNat + 1), repAt := some ((s1.nib n).pc + 1) } ∧
      (t.nib n).bk (!(s1.nib n).bank) = (s1.nib n).bk (!(s1.nib n).bank) ∧ (t.nib n).flight = (s1.nib n).flight := by
  refine ⟨_, congrArg Host.Outcome.next (State.issue_fetched_slotless h hs _), OnlyNib.setNib .., ?_⟩
  rw [State.nib_settle_repeated]
  exact ⟨by rw [Nib.setBk_eq], Nib.cur_setBk _ rfl, Nib.bk_setBk_other .., by rw [Nib.setBk_eq]⟩

/-- NOP does nothing. -/
theorem exec_nop (h : Fetches n (.nop n) s s1) : ∃ t, exec (.nop n) s = .next t ∧ Sends n [] id s1 t :=
  ⟨_, congrArg Host.Outcome.next (State.issue_fetched h _), State.settle_ok_unchanged⟩

/-- FENCE does nothing while no posted store waits. -/
theorem exec_fence_of_none_posted (hp : (s1.nib n).posted = 0) (h : Fetches n (.fence n) s s1) :
    ∃ t, exec (.fence n) s = .next t ∧ Sends n [] id s1 t := by
  refine ⟨_, congrArg Host.Outcome.next (State.issue_fetched h _), ?_⟩
  rw [fenceBody, if_pos hp]
  exact State.settle_ok_unchanged

/-- FENCE waits for posted stores. -/
theorem exec_fence_of_posted (hp : (s1.nib n).posted ≠ 0) (h : Fetches n (.fence n) s s1) :
    exec (.fence n) s = .next (s1.setNib n { s1.nib n with blocked := some .fence }) := by
  refine (congrArg Host.Outcome.next (State.issue_fetched h _)).trans ?_
  rw [fenceBody, if_neg hp, State.settle_done]

/-- The instructions that R151 forbids in a delay slot trap there. -/
theorem exec_in_slot {c : BitVec 4} {dk : BitVec 5} {target : BitVec 13} {count1 : BitVec 12}
    (hs : (s1.nib n).slots ≠ 0) {i : Instr}
    (hi : i ∈ [Instr.br n c target, .bdnz n dk target, .rep n count1, .halt n, .reti n]) (h : Fetches n i s s1) :
    exec i s = .next (s1.trap n trapIllegal) := by
  simp only [List.mem_cons, List.not_mem_nil, or_false] at hi
  rcases hi with rfl | rfl | rfl | rfl | rfl <;> exact congrArg Host.Outcome.next (State.issue_in_slot h hs _)

end

/-- Settles O11: each instruction by its own lemma, the sequencing by the cases of `Nib.next` and its frame. -/
theorem controlFlow : Obligations.ControlFlow := by
  unfold Obligations.ControlFlow
  refine ⟨fun n c dk target count1 s s1 => ?_, fun n c dk target count1 s s1 hs i hi => exec_in_slot hs hi, fun x => ?_⟩
  · refine ⟨fun hs hc => exec_br_of_condTrap_none hs ?_, fun hs hc hf => exec_br_of_condTrap_some hs ?_,
      exec_bdnz_of_clean, exec_bdnz_of_poison, exec_rep, exec_nop, exec_fence_of_none_posted, exec_fence_of_posted⟩
    · obtain rfl | ⟨hc, hf⟩ := hc
      · exact condTrap_always _
      · simp only [condTrap_tested hc, hf, Bool.false_eq_true, if_false]
    · rw [condTrap_tested hc, if_pos hf]
      rfl
  · refine ⟨fun hr hs => ?_, fun hr hs => ?_, fun hr hs => ?_, fun hr hc => ?_, fun hr hc => ?_, x.next_frame⟩
    · simp [Nib.next_in_order hr hs, hs]
    · simp [Nib.next_of_more_slots hr hs]
    · simp +contextual [Nib.next_of_last_slot hr hs]
    · rw [Nib.next_of_repeat hr hc]
      exact ⟨by rw [Nib.setBk_eq], Nib.cur_setBk _ rfl⟩
    · rw [Nib.next_of_repeat_done hr hc]
      exact ⟨rfl, Nib.cur_setBk _ rfl⟩

end Sys2Proof.Machine
